-- ==== Sys2Proof/Word.lean ====
section
/-!
DEFINITION. Sys2Proof/Word.lean: the word types of the part (R10, R14) and the few shapes of plain data that every
other file uses: sparse maps by number, register fields, and the outcome of a bus access.
-/
namespace Sys2Proof

/-- A 32-bit register or program word (R14). -/
abbrev Word := BitVec 32

/-- A byte of a memory, an image or a frame (R10: multi-byte values are little-endian). -/
abbrev Byte := BitVec 8

/-- A sparse map by number, keys strictly rising. What an unlisted key reads as is said where the map is used. -/
abbrev NMap (α : Type) := List (Nat × α)

/-- A field of a register: BAR0 offset of the register, lowest bit and width (R16). -/
structure Fld where
  off : Nat
  lo  : Nat
  w   : Nat
  deriving DecidableEq, Repr

/-- Event severities (R507, Table 21-2). -/
inductive Sev where
  | information | correctable | warning | critical | fatal
  deriving DecidableEq, Repr

/-- What an access of the register bus or of a host window answers (R14, R420, R538, R588). -/
inductive Reply where
  | none                    -- no access answered yet
  | done                    -- a write completed
  | data (w : BitVec 32)    -- a read returned this word
  | abort                   -- Completer Abort; no effect
  | busError                -- bus error; reaches a host as a Completer Abort
  | held                    -- not answered yet: a clock it needs is stopped, and the access stands on the bus (R412)
  deriving DecidableEq, Repr

end Sys2Proof
end

