-- ==== Sys2Proof/Machine/Sparse.lean ====
section
/-!
DEFINITION. Sys2Proof/Machine/Sparse.lean: reading and writing sparse maps in their one canonical form
(keys strictly rising, no entry equal to what an unlisted key reads as).
-/
namespace Sys2Proof.Machine

/-- The value listed at a key, or the default. -/
def mget {α : Type} (d : α) : NMap α → Nat → α
  | [], _ => d
  | (k, v) :: m, x => if k = x then v else mget d m x

/-- The value listed at a key, if one is. -/
def mfind {α : Type} : NMap α → Nat → Option α
  | [], _ => none
  | (k, v) :: m, x => if k = x then some v else mfind m x

/-- List a value at a key, keeping the keys rising. -/
def mins {α : Type} : NMap α → Nat → α → NMap α
  | [], x, a => [(x, a)]
  | (k, v) :: m, x, a =>
    if x < k then (x, a) :: (k, v) :: m
    else if x = k then (x, a) :: m
    else (k, v) :: mins m x a

/-- Take a key out. -/
def mdel {α : Type} : NMap α → Nat → NMap α
  | [], _ => []
  | (k, v) :: m, x => if k = x then mdel m x else (k, v) :: mdel m x

/-- Write a key: writing the default takes the entry out, so that equal maps are equal data. -/
def mput {α : Type} [DecidableEq α] (d : α) (m : NMap α) (x : Nat) (a : α) : NMap α :=
  if a = d then mdel m x else mins m x a

/-- Entries of a sparse map from `lo` up to `hi`. -/
def mrange {α : Type} (m : NMap α) (lo hi : Nat) : NMap α := m.filter (fun e => decide (lo ≤ e.1 ∧ e.1 < hi))

/-- A sparse map without its entries from `lo` up to `hi`. -/
def mcut {α : Type} (m : NMap α) (lo hi : Nat) : NMap α := m.filter (fun e => !decide (lo ≤ e.1 ∧ e.1 < hi))

/-- Replace the entries from `lo` up to `hi` by others that lie there. -/
def mpatch {α : Type} (m : NMap α) (lo hi : Nat) (new : NMap α) : NMap α :=
  m.filter (fun e => decide (e.1 < lo)) ++ new ++ m.filter (fun e => decide (hi ≤ e.1))

/-- Put the `n` entries from `src` on in place of those from `dst` on. -/
def mmove {α : Type} (m : NMap α) (src dst n : Nat) : NMap α :=
  mpatch m dst (dst + n) ((mrange m src (src + n)).map (fun e => (dst + (e.1 - src), e.2)))

/-- The keys of a sparse map rise strictly, all above a bound. -/
def mrise {α : Type} : Nat → NMap α → Bool
  | _, [] => true
  | b, (k, _) :: m => decide (b ≤ k) && mrise (k + 1) m

/-- The canonical form: keys strictly rising and no entry equal to the default. -/
def mwf {α : Type} [DecidableEq α] (d : α) (m : NMap α) : Bool :=
  mrise 0 m && m.all (fun e => decide (e.2 ≠ d))

/-- Change one member of a fixed row of like things. -/
def vmod {α : Type} {n : Nat} (v : Vector α n) (k : Fin n) (f : α → α) : Vector α n :=
  v.set k.val (f (v.get k)) k.isLt

/-- Bits `lo` to `lo + w - 1` of a number. -/
def nbits (x lo w : Nat) : Nat := x / 2 ^ lo % 2 ^ w

/-- Saturating increment at `2 ^ w - 1`. -/
def satAdd (w x n : Nat) : Nat := min (x + n) (2 ^ w - 1)

/-- A number of `w` bits read as two's complement. -/
def sgn (w x : Nat) : Int := if x % 2 ^ w < 2 ^ (w - 1) then (x % 2 ^ w : Nat) else (x % 2 ^ w : Nat) - (2 ^ w : Nat)

/-- Two's complement of an integer in `w` bits. -/
def unsgn (w : Nat) (x : Int) : Nat := (x % (2 ^ w : Nat)).toNat

/-- Little-endian bytes of a number (R10). -/
def leBytes : Nat → Nat → List Byte
  | 0, _ => []
  | n + 1, x => BitVec.ofNat 8 x :: leBytes n (x / 256)

/-- The number that little-endian bytes spell (R10). -/
def leNat : List Byte → Nat
  | [] => 0
  | b :: bs => b.toNat + 256 * leNat bs

end Sys2Proof.Machine
end

