-- ==== Sys2Proof/Syntax.lean ====
section
/-!
DEFINITION. Sys2Proof/Syntax.lean: the commands of the part, one constructor per row of spec/opcode_table.json, with the
data each brings from outside: what a register write writes, what an instruction names, what a code found in the words
an access read, and what the board or the host presents.
-/
namespace Sys2Proof

/-- Who sends an access over the register bus (R589). -/
inductive Who where
  | host | mgmt
  deriving DecidableEq, Repr

/-- What hardware has set or added to in the register-bus cycle of an access (R20): a field of the register accessed, by its
lowest bit and width, and by how much a field of several bits has grown in that cycle. -/
structure Meet where
  lo : Nat
  w : Nat
  n : Nat
  deriving DecidableEq, Repr

/-- An access of BAR0, or of BAR4: of the PF, or of virtual function `v` (R14, R303, R455). -/
structure Access where
  who : Who
  vf : Option (Fin 32)
  bar4 : Bool
  off : Nat
  size : Nat
  wr : Option Word            -- the word written; none reads
  poisoned : Bool             -- the write came in a poisoned TLP (R456)
  same : List Meet := []      -- what hardware did to the register in the access's own cycle, already done (R20)
  deriving DecidableEq, Repr

/-- A write that clears counts: the word, and the counts the register-bus cycle of the write adds to, by index, with how much it
adds to each (R20, R75). -/
structure CountClear where
  word : Word
  same : List (Nat × Nat)
  deriving DecidableEq, Repr

/-- What a SEC-DED code finds in a stored word beside the data (R322). -/
inductive Ecc where
  | clean
  | corr        -- one bit wrong: corrected on a read
  | uncorr      -- not correctable
  deriving DecidableEq, Repr

/-- What a read finds in a stored word (R322): what the code says, and the bits in which the data delivered differ from what was
stored: of an uncorrectable word those that have flipped, of a correction gone wrong those it leaves wrong; 0 where the data are
as they were stored. -/
structure Flaw where
  ecc : Ecc
  wrong : Nat := 0
  deriving DecidableEq, Repr

/-- The code finds nothing. -/
def Flaw.clean : Flaw := { ecc := .clean }
/-- One bit was wrong, and is corrected. -/
def Flaw.corr : Flaw := { ecc := .corr }
/-- The word is not correctable, its data bits as stored. -/
def Flaw.uncorr : Flaw := { ecc := .uncorr }

/-- An operand of a Saeno instruction: an immediate field, or a register (Table 7-3, R = 1). -/
inductive Opnd where
  | imm (v : Nat)
  | reg (r : Fin 32)
  deriving DecidableEq, Repr

/-- What a host clears or sets so that withheld messages may go (R513). -/
inductive Unmask where
  | vector (vec : Fin 2048)       -- a vector's Mask bit cleared
  | function (fn : Fin 33)        -- Function Mask cleared; 0 the PF, 1 + v the VF v
  | msixEnable (fn : Fin 33)
  | busMaster (fn : Fin 33)
  deriving DecidableEq, Repr

/-- An Announce message of the master that the alternate BMCA selects (R247, R261, R263): its PTP domain, the grandmaster's
identity, clockClass and stepsRemoved, the UTC offset, the leap second it announces for the present UTC day (0 none, 1 insert, 2
delete), and its interval in ticks. -/
structure Announce where
  domain : Nat
  gm : Nat
  cls : Nat
  steps : Nat
  utc : Int
  leap : Fin 3
  interval : Nat
  deriving DecidableEq, Repr

/-- What PTP brings in a tick: an Announce, a Sync, the path delay in ns as measured last (R247). -/
structure PtpMeas where
  announce : Option Announce
  sync : Bool
  delay : Int
  deriving DecidableEq, Repr

/-- Quality levels of ESMC information PDUs, best first (R247): SSU-A and better qualify; `lower` stands for every level between
SSU-A and DNU. -/
inductive Quality where
  | eprtc | prtc | eprc | prc | ssuA | lower | dnu
  deriving DecidableEq, Repr

/-- What the SYNCE lane brings in a tick: an ESMC PDU, lane lock, and the recovered frequency against XI1's nominal in ppb. -/
structure SynceMeas where
  esmc : Option Quality
  lock : Bool
  freq : Int
  deriving DecidableEq, Repr

/-- What REF10M_IN shows in a tick: a signal with no loss of 10 µs, and its frequency against XI1's nominal in ppb. -/
structure FreqMeas where
  signal : Bool
  freq : Int
  deriving DecidableEq, Repr

/-- What Rinom measures in a tick of 62.5 ms (R250 to R252, R261). -/
structure Meas where
  ptp : PtpMeas
  synce : SynceMeas
  ref10m : FreqMeas
  tee : Int                   -- AT minus the reference in use as its signal arrives, 2^-8 ns
  drift : Int                 -- AT minus the timescale Rinom realises, 2^-8 ns
  ferr : Nat                  -- magnitude of the frequency error, 2^-10 ppb
  jump : Nat                  -- phase difference of a switch of time reference, 2^-8 ns
  label : Option Int          -- the time reference's label, TAI in 1/3072 ns
  delayReq : Bool             -- Rinom sends a Delay_Req in it (R248)
  deriving DecidableEq, Repr

/-- A signed command as it is delivered: its bytes, and whether the modulus hash matches its key slot and its signature
is valid over them (R578, R579). -/
structure Token where
  bytes : List Byte
  sigOk : Bool
  deriving DecidableEq, Repr

/-- A clock source that a monitor watches (Table 16-3). Loops: 0 SYS_PLL, 1 FAB_PLL, 2 MEM_PLL, 3 DDR_PLL_A, 4 DDR_PLL_B,
5 CFG_PLL, 6 Rinom DPLL. -/
inductive ClkSrc where
  | sosc | fosc | xi0 | xi1 | refclk
  | loop (i : Fin 7)
  | phy
  deriving DecidableEq, Repr

/-- What a source of stream words returns to the configuration controller (R369, R381). -/
inductive SrcRead where
  | words (l : List Word)    -- the words host memory returns; a flash load reads the flash itself
  | ended                    -- the source ended
  | flashErr | hostErr
  | linkFail (layer : Fin 4)
  deriving DecidableEq, Repr

/-- A memory request of a vertical port: one or two 64-byte beats, aligned to their own length; a write brings its words
and byte enables, bit i for byte i (R276). -/
structure MemReq where
  write : Bool
  addr : Nat
  beats : Nat
  data : List (BitVec 64)
  be : Nat
  deriving DecidableEq, Repr

/-- A queue request of a vertical port (R305): a push with its entry's words, or a pop. -/
inductive QueueOp where
  | push (entry : List (BitVec 64)) (sof poison : Bool)
  | pop
  deriving DecidableEq, Repr

/-- A received Ethernet frame, destination address to the last byte before the FCS, with what its check found; its first byte
crossed the balls `age` fc before the present one, `frac` sixteenths of an fc into it, and its last header byte arrived `hdrAge` fc
before it (R306, R311, R445). -/
structure RxFrame where
  bytes : List Byte
  fcsOk : Bool
  other : Bool               -- an error that is no FCS error (R441)
  age : Nat
  frac : Fin 16
  hdrAge : Nat
  deriving DecidableEq, Repr

/-- Words 0 and 1 of a DMA descriptor: what it does, and how much (Table 18-2). -/
structure DescHead where
  w0 : Word
  w1 : Word
  deriving DecidableEq, Repr

/-- The addresses of a DMA descriptor: words 2 and 3, words 4 and 5 (Table 18-2). -/
structure DescAddr where
  haddr : BitVec 64
  mla : BitVec 64
  deriving DecidableEq, Repr

/-- A DMA descriptor as the channel reads it from its ring (Table 18-2). -/
structure Desc extends DescHead, DescAddr where
  deriving DecidableEq, Repr

/-- What host memory returns to a read of the DMA engine: its bytes, the 64-bit words of them whose completions came poisoned,
and whether a completion timeout or an aborted completion ended it (R458). -/
structure HostRead where
  bytes : List Byte
  poisoned : List Nat
  failed : Bool
  deriving DecidableEq, Repr

/-- A request whose vertical-transfer timer reaches its bound (R536): the oldest unanswered one of a vertical port, one of a
sequencer's memory port, that of a descriptor of the host DMA engine, or the oldest access through BAR2 that waits for a bank. -/
inductive VtWaiter where
  | port (layer : Fin 4) (port : Fin 32)
  | seq (k : Fin 4)
  | dma (chan : Fin 32)
  | bar2 (bank : Fin 32)
  deriving DecidableEq, Repr

/-- A non-posted request to the host that times out (R539): a descriptor of the host DMA engine with what its read returned, the
read of a configuration load, or that of a readback. -/
inductive HostWaiter where
  | dma (chan : Fin 32) (d : Desc) (r : HostRead)
  | load
  | readback
  deriving DecidableEq, Repr

/-- Why a snapshot copy that ended is not valid (Table 24-2). -/
inductive SnapFault where
  | cowovf | dirty
  deriving DecidableEq, Repr

/-- A browse engine (Table 12-3). -/
inductive BrowseEng where
  | cfgl (k : Fin 4)
  | unit (u : Fin 48)
  | coef (k : Fin 4)
  | pgm (k : Fin 4)
  deriving DecidableEq, Repr

/-- What a browse engine reads in one of its cycles. -/
inductive BrowseAt where
  | slot (word : Nat)                 -- a 128-bit stored-slot word, by content key / 16
  | plane (layer plane : Fin 4) (tile : Fin 64) (group : Nat)
  | mem (key : Nat)                   -- a bank or cache word, or a tag
  | coef (key : Nat)
  | pgm (k : Fin 4) (addr : BitVec 16)
  deriving DecidableEq, Repr

/-- The commands. -/
inductive Instr where
  /-- PLAIN_WRITE (R17). -/
  | plainWrite (a : Access)
  /-- TL_AT_LO (R232). -/
  | tlAtLo (who : Who)
  /-- REC_RDDATA (R531). -/
  | recRddata (who : Who)
  /-- SFN_CYCLE_WRAP (R217). -/
  | sfnCycleWrap
  /-- FRAME_BOUNDARY (R225). -/
  | frameBoundary (ref : Int)
  /-- UPSET (R68). -/
  | upset (layer plane : Fin 4) (tile : Fin 64) (group : Nat) (flip : BitVec 65)
  /-- PLANE_UPSET (R69). -/
  | planeUpset (layer plane : Fin 4) (tile : Fin 64) (group : Nat) (found : Flaw)
  /-- SET_RESET_RELEASE (R58). -/
  | setResetRelease
  /-- REGIONAL_SET_RESET_RELEASE (R393). -/
  | regionalSetResetRelease (layer : Fin 4) (region : Fin 8)
  /-- SHAFT_CORR (R98). -/
  | shaftCorr (b : Fin 3) (g : Fin 256) (flip : BitVec 71)
  /-- SHAFT_SWAP (R100). -/
  | shaftSwap (b : Fin 3) (g : Fin 256)
  /-- CORRECTION_WINDOW (R99). -/
  | correctionWindow
  /-- VL_SHCLR (R103). -/
  | vlShclr (who : Who) (v : CountClear)
  /-- ECC_PUCLR (R74). -/
  | eccPuclr (who : Who) (v : CountClear)
  /-- ECC_HCCLR (R150). -/
  | eccHcclr (who : Who) (v : CountClear)
  /-- WAITAT (R160). -/
  | waitat (k : Fin 4) (e : Flaw) (target : BitVec 41)
  /-- WAITATR (R189). -/
  | waitatr (k : Fin 4) (e : Flaw) (a b : Fin 32)
  /-- WAITREL (R190). -/
  | waitrel (k : Fin 4) (e : Flaw) (o : Opnd)
  /-- ALIGN (R191). -/
  | align (k : Fin 4) (e : Flaw) (a : Fin 32) (period : BitVec 34)
  /-- TIMELINE_WAIT_END (R160). -/
  | timelineWaitEnd (k : Fin 4)
  /-- PREFETCH (R114). -/
  | prefetch (k : Fin 4) (e : Flaw) (o : Opnd)
  /-- REFILL_COMPLETE (R114). -/
  | refillComplete (layer : Fin 4) (region : Fin 8) (plane : Fin 4) (errs : List (Nat × Flaw))
  /-- SWITCH (R117). -/
  | switch (k : Fin 4) (e : Flaw) (o : Opnd)
  /-- SWITCH_STALL (R118). -/
  | switchStall (k : Fin 4)
  /-- PENDING_ALT (R165). -/
  | pendingAlt (k : Fin 4)
  /-- FLOPSEL (R194). -/
  | flopsel (k : Fin 4) (e : Flaw) (o : Opnd)
  /-- CAPTURE (R195). -/
  | capture (k : Fin 4) (e : Flaw) (o : Opnd)
  /-- BR (R196). -/
  | br (k : Fin 4) (e : Flaw) (target : BitVec 16)
  /-- BRC (R196). -/
  | brc (k : Fin 4) (e : Flaw) (cond : BitVec 8) (target : BitVec 16)
  /-- CALL (R197). -/
  | call (k : Fin 4) (e : Flaw) (target : BitVec 16)
  /-- RET (R197). -/
  | ret (k : Fin 4) (e : Flaw)
  /-- LOOP (R198). -/
  | loop (k : Fin 4) (e : Flaw) (last : BitVec 16) (o : Opnd)
  /-- HALT (R200). -/
  | halt (k : Fin 4) (e : Flaw)
  /-- NOP (R187). -/
  | nop (k : Fin 4) (e : Flaw)
  /-- ILLEGAL (R167). -/
  | illegal (k : Fin 4) (e : Flaw) (w : BitVec 64)
  /-- PROGRAM_WRITE_BACK (R156). -/
  | programWriteBack (k : Fin 4) (addr : BitVec 16)
  /-- MOVI (R201). -/
  | movi (k : Fin 4) (e : Flaw) (d : Fin 32) (v : Word)
  /-- ADD (R201). -/
  | add (k : Fin 4) (e : Flaw) (d a : Fin 32) (o : Opnd)
  /-- SUB (R201). -/
  | sub (k : Fin 4) (e : Flaw) (d a : Fin 32) (o : Opnd)
  /-- AND (R201). -/
  | and (k : Fin 4) (e : Flaw) (d a : Fin 32) (o : Opnd)
  /-- OR (R201). -/
  | or (k : Fin 4) (e : Flaw) (d a : Fin 32) (o : Opnd)
  /-- XOR (R201). -/
  | xor (k : Fin 4) (e : Flaw) (d a : Fin 32) (o : Opnd)
  /-- SHL (R201). -/
  | shl (k : Fin 4) (e : Flaw) (d a : Fin 32) (o : Opnd)
  /-- SHR (R201). -/
  | shr (k : Fin 4) (e : Flaw) (d a : Fin 32) (arith : Bool) (o : Opnd)
  /-- CMP (R201). -/
  | cmp (k : Fin 4) (e : Flaw) (a : Fin 32) (o : Opnd)
  /-- MOVS (R202). -/
  | movs (k : Fin 4) (e : Flaw) (d : Fin 32) (sel : BitVec 4)
  /-- QPUSH (R204). -/
  | qpush (k : Fin 4) (e : Flaw) (a : Fin 32) (o : Opnd)
  /-- QPOP (R205). -/
  | qpop (k : Fin 4) (e : Flaw) (d : Fin 32) (o : Opnd)
  /-- SEQ_PORT_ACCESS (R203). -/
  | seqPortAccess (k : Fin 4) (abort : Bool) (entry md : Flaw)
  /-- QWAIT (R206). -/
  | qwait (k : Fin 4) (e : Flaw) (full : Bool) (o : Opnd)
  /-- QWAIT_END (R206). -/
  | qwaitEnd (k : Fin 4)
  /-- HCOEF (R208). -/
  | hcoef (k : Fin 4) (e : Flaw) (a b : Fin 32) (tile group : BitVec 6) (count : BitVec 7)
  /-- HCOEF_GROUP_WRITE (R208). -/
  | hcoefGroupWrite (k : Fin 4) (abort : Bool) (errs : List (Nat × Flaw))
  /-- RAISE (R210). -/
  | raise (k : Fin 4) (e : Flaw) (sev event : BitVec 3) (a : Fin 32)
  /-- LOG (R211). -/
  | log (k : Fin 4) (e : Flaw) (a : Fin 32) (count : BitVec 4) (type : Byte) (sev : BitVec 3)
  /-- EVCLR (R212). -/
  | evclr (k : Fin 4) (e : Flaw) (o : Opnd)
  /-- BARRIER (R171). -/
  | barrier (k : Fin 4) (e : Flaw) (mask : BitVec 4) (flag : Fin 16)
  /-- BARRIER_COMPLETE (R171). -/
  | barrierComplete (flag : Fin 16)
  /-- BARRIER_TIMEOUT (R173). -/
  | barrierTimeout (flag : Fin 16)
  /-- SIGNAL (R174). -/
  | signal (k : Fin 4) (e : Flaw) (flag : Fin 16)
  /-- WAIT (R174). -/
  | wait (k : Fin 4) (e : Flaw) (flag : Fin 16)
  /-- FLAG_WAIT_END (R174). -/
  | flagWaitEnd (k : Fin 4)
  /-- WAIT_TIMEOUT (R174). -/
  | waitTimeout (k : Fin 4)
  /-- START (R178). -/
  | start (who : Who) (k : Fin 4) (v : Word)
  /-- SEQ_STARTED (R222). -/
  | seqStarted (k : Fin 4)
  /-- STOP (R179). -/
  | stop (who : Who) (k : Fin 4) (v : Word)
  /-- OPERAND_SET (R138). -/
  | operandSet (layer : Fin 4) (tile : Fin 64) (block : Fin 32) (e0 e1 : Flaw)
  /-- HORN_RESULT (R139). -/
  | hornResult (layer : Fin 4) (tile : Fin 64) (block : Fin 32)
  /-- COEFFICIENT_WRITE_BACK (R147). -/
  | coefficientWriteBack (layer : Fin 4) (tile : Fin 64) (block : Fin 32) (addr : BitVec 10)
  /-- RELEASE (R221). -/
  | release (who : Who) (v : Word)
  /-- RELTO_TIMEOUT (R221). -/
  | reltoTimeout
  /-- REBASE (R224). -/
  | rebase (who : Who) (v : Word)
  /-- AT_COPY_CORR (R231). -/
  | atCopyCorr (copy : Fin 5) (flips : BitVec 50 × BitVec 50 × BitVec 50)
  /-- DEPARTURE (R233). -/
  | departure (port : Fin 32) (q : Fin 32768) (errs : List (Nat × Flaw))
  /-- TL_DEPCFG (R236). -/
  | tlDepcfg (who : Who) (v : Word)
  /-- TL_SYSCTL (R238). -/
  | tlSysctl (who : Who) (i : Fin 4) (v : Word)
  /-- SYSREF_PULSE (R237). -/
  | sysrefPulse (i : Fin 4)
  /-- PPS_PULSE (R239). -/
  | ppsPulse
  /-- RINOM_TICK (R250). -/
  | rinomTick (m : Meas)
  /-- MODEL_SAMPLE (R255). -/
  | modelSample (sample temp : Int)
  /-- TK_MODEL_REFIT (R256). -/
  | tkModelRefit
  /-- MODEL_LOG_WRITE (R256). -/
  | modelLogWrite
  /-- LEAP_SECOND (R261). -/
  | leapSecond
  /-- RINOM_RESET (R245). -/
  | rinomReset
  /-- RINOM_WATCHDOG (R245). -/
  | rinomWatchdog
  /-- PPS_IN (R248). -/
  | ppsIn (gap : Nat)
  /-- ZDA (R247). -/
  | zda (utc endMs : Nat)
  /-- INFO (R267). -/
  | info (who : Who) (len : BitVec 12)
  /-- ATTEST (R270). -/
  | attest (who : Who) (len : BitVec 12)
  /-- GET_KEY (R269). -/
  | getKey (who : Who) (len : BitVec 12)
  /-- SET_REF (R267). -/
  | setRef (who : Who) (len : BitVec 12)
  /-- SET_LOCK (R267). -/
  | setLock (who : Who) (len : BitVec 12)
  /-- SET_ASYM (R248). -/
  | setAsym (who : Who) (len : BitVec 12)
  /-- SET_LEAP (R263). -/
  | setLeap (who : Who) (len : BitVec 12)
  /-- FORCE (R250). -/
  | force (who : Who) (len : BitVec 12)
  /-- SET_TIME (R268). -/
  | setTime (who : Who) (len : BitVec 12) (sigOk : Bool)
  /-- SET_MODEL (R254). -/
  | setModel (who : Who) (len : BitVec 12)
  /-- MODEL_READ (R267). -/
  | modelRead (who : Who) (len : BitVec 12)
  /-- MODEL_RESET (R257). -/
  | modelReset (who : Who) (len : BitVec 12)
  /-- LOG_READ (R246). -/
  | logRead (who : Who) (len : BitVec 12)
  /-- SET_TOD (R263). -/
  | setTod (who : Who) (len : BitVec 12)
  /-- TK_MB_DONE (R265). -/
  | tkMbDone
  /-- PORT_REQUEST (R276). -/
  | portRequest (layer : Fin 4) (port : Fin 32) (r : MemReq)
  /-- PERFORM_CYCLE (R607). -/
  | performCycle (unit : Fin 48) (cyc : Fin 5) (errs : List (Nat × Flaw))
  /-- PORT_RESPONSE (R279). -/
  | portResponse (layer : Fin 4) (port : Fin 32)
  /-- BAR2_READ (R274). -/
  | bar2Read (vf : Option (Fin 32)) (off len : Nat) (errs : List (Nat × Flaw))
  /-- BAR2_WRITE (R274). -/
  | bar2Write (vf : Option (Fin 32)) (off : Nat) (data : List (Option Byte)) (poisoned : Bool) (errs : List (Nat × Flaw))
  /-- COLLIDED_REWRITE (R286). -/
  | collidedRewrite (bank : Fin 32)
  /-- OWNER (R283). -/
  | owner (who : Who) (n : Fin 32) (v : Word)
  /-- MEM_OWNER_DONE (R283). -/
  | memOwnerDone (n : Fin 32)
  /-- BANK_CLEAR (R287). -/
  | bankClear (who : Who) (n : Fin 32) (v : Word)
  /-- LINE_FILL (R291). -/
  | lineFill (line : Nat) (errs : List (Nat × Flaw))
  /-- FLUSH (R292). -/
  | flush (who : Who)
  /-- FLUSHINV (R292). -/
  | flushinv (who : Who)
  /-- INVALIDATE (R292). -/
  | invalidate (who : Who)
  /-- MEM_CMO_DONE (R292). -/
  | memCmoDone
  /-- ROTATION_RESET (R282). -/
  | rotationReset
  /-- ALLOC (R299). -/
  | alloc (who : Who) (c : Fin 32)
  /-- FREE (R300). -/
  | free (who : Who) (c : Fin 32) (queue : Fin 1024)
  /-- PUSH (R303). -/
  | push (vf : Option (Fin 32)) (q : Fin 32768) (v : Word)
  /-- PUBLISH (R298). -/
  | publish (q : Fin 32768)
  /-- POP (R303). -/
  | pop (vf : Option (Fin 32)) (q : Fin 32768) (v : Word)
  /-- QUEUE_REQUEST (R305). -/
  | queueRequest (layer : Fin 4) (port : Fin 32) (q : Fin 32768) (op : QueueOp)
  /-- FRAME (R306). -/
  | frame (port : Fin 32) (x : RxFrame)
  /-- FLOW_TABLE_WRITE (R319). -/
  | flowTableWrite (who : Who) (v : Word)
  /-- FLOW_TABLE_READ (R319). -/
  | flowTableRead (who : Who) (v : Word)
  /-- QC_HOL (R317). -/
  | qcHol (q : Fin 32768) (errs : List (Nat × Flaw))
  /-- WRITE_BACK (R325). -/
  | writeBack (unit : Fin 48)
  /-- SLOT_WRITE_BACK (R326). -/
  | slotWriteBack (word : Nat)
  /-- BROWSE_READ (R334). -/
  | browseRead (at_ : BrowseAt) (found : Flaw)
  /-- BROWSE_PASS (R333). -/
  | browsePass (e : BrowseEng)
  /-- BROWSE_LATE (R333). -/
  | browseLate (e : BrowseEng)
  /-- BORROW (R336). -/
  | borrow (unit : Fin 48) (errs : List (Nat × Flaw))
  /-- GRAZE_WRITE_BACK (R337). -/
  | grazeWriteBack (unit : Fin 48) (failed : List (Fin 64))
  /-- ECC_SRADD (R343). -/
  | eccSradd (who : Who) (v : Word)
  /-- VL_CORR (R352). -/
  | vlCorr (joint : Fin 9) (g : BitVec 12) (flip : BitVec 71)
  /-- VL_SWAP (R352). -/
  | vlSwap (joint : Fin 9) (g : BitVec 12)
  /-- VL_PHASE_WARN (R351). -/
  | vlPhaseWarn (joint : Fin 9) (offset : Int)
  /-- VL_FIFO_SLIP (R351). -/
  | vlFifoSlip (joint : Fin 9)
  /-- VL_RETRY (R355). -/
  | vlRetry (link : Fin 5) (again : Bool)
  /-- POWER_UP_LANE_TEST (R358). -/
  | powerUpLaneTest (bad : List (Fin 9 × Nat × Nat)) (shaft : List (Fin 3 × Fin 256 × Nat)) (bond : List (Nat × Nat))
  /-- DRAIN_END (R361). -/
  | drainEnd (die : Fin 9)
  /-- VL_FENCE_DONE (R360). -/
  | vlFenceDone (die : Fin 9)
  /-- LOAD (R387). -/
  | load (who : Who) (v : Word)
  /-- ABORT (R387). -/
  | abort (who : Who) (v : Word)
  /-- BOOT (R384). -/
  | boot
  /-- HEADER (R381). -/
  | header (r : SrcRead)
  /-- REGISTER_WRITE (R372). -/
  | registerWrite (r : SrcRead)
  /-- FRAME_BLOCK (R374). -/
  | frameBlock (r : SrcRead)
  /-- NO_OP (R371). -/
  | noOp (r : SrcRead)
  /-- FILL (R375). -/
  | fill (r : SrcRead)
  /-- END (R371). -/
  | endPacket (r : SrcRead)
  /-- VERIFY (R370). -/
  | verify (r : SrcRead) (keyOk sigOk : Bool)
  /-- CHECK (R382). -/
  | check (link : Option (Fin 4))
  /-- STAGE_TIMEOUT (R380). -/
  | stageTimeout
  /-- ERASE (R388). -/
  | erase (who : Who) (v : Word)
  /-- PROGRAM (R388). -/
  | program (who : Who) (v : Word) (data : Option (List Byte))
  /-- CFG_FLASH_DONE (R388). -/
  | cfgFlashDone (ok : Bool)
  /-- READ (R400). -/
  | read (who : Who) (v : Word)
  /-- RESTORE (R401). -/
  | restore (who : Who) (v : Word) (r : HostRead)
  /-- READBACK_ABORT (R400). -/
  | readbackAbort (who : Who) (v : Word)
  /-- READBACK_FRAME (R398). -/
  | readbackFrame (errs : List (Nat × Flaw))
  /-- CFG_RB_DONE (R400). -/
  | cfgRbDone
  /-- ARM (R402). -/
  | arm (who : Who) (v : Word)
  /-- DISARM (R402). -/
  | disarm (who : Who) (v : Word)
  /-- CAPTURE_RELEASE (R403). -/
  | captureRelease (who : Who) (v : Word)
  /-- ARM_TARGET (R402). -/
  | armTarget
  /-- CLK_TRIP (R411). -/
  | clkTrip (src : ClkSrc)
  /-- FOSC_READY (R409). -/
  | foscReady
  /-- CLK_DEGRADED (R411). -/
  | clkDegraded
  /-- SOURCE_GOOD (R408). -/
  | sourceGood (src : ClkSrc)
  /-- DIVIDER_RAMP_STEP (R416). -/
  | dividerRampStep (d : Fin 26)
  /-- PRIMARY (R414). -/
  | primary (who : Who) (d : Fin 26) (v : Word)
  /-- GATE_OPEN (R418). -/
  | gateOpen (who : Who) (r : Fin 2) (v : Word)
  /-- GATE_REQUEST (R419). -/
  | gateRequest (who : Who) (r : Fin 2) (v : Word)
  /-- GATE_CLOSE (R419). -/
  | gateClose (bit : Fin 64)
  /-- CLK_GATE_FORCED (R419). -/
  | clkGateForced (bit : Fin 64)
  /-- SENSOR_SAMPLE (R426). -/
  | sensorSample (l : List (Fin 62 × Option Int))
  /-- THERM_GRADIENT (R434). -/
  | thermGradient (n : Fin 4)
  /-- RESTART (R431). -/
  | restart (who : Who) (v : Word)
  /-- PORT_ENABLE (R440). -/
  | portEnable (who : Who) (p : Fin 32) (v : Word)
  /-- FH_LINK_UP (R440). -/
  | fhLinkUp (p : Fin 32)
  /-- FH_LINK_DOWN (R448). -/
  | fhLinkDown (p : Fin 32) (leaving : Bool)
  /-- LAG_MEMBER_ACTIVE (R448). -/
  | lagMemberActive (p : Fin 32)
  /-- JESD_ENABLE (R450). -/
  | jesdEnable (who : Who) (k : Fin 16) (v : Word)
  /-- JESD_LINK_UP (R449). -/
  | jesdLinkUp (k : Fin 16)
  /-- JESD_LINK_DOWN (R449). -/
  | jesdLinkDown (k : Fin 16)
  /-- RECEIVE_MULTIBLOCK (R451). -/
  | receiveMultiblock (k : Fin 16) (samples : List Byte) (crc : Nat)
  /-- TRANSMIT_MULTIBLOCK (R452). -/
  | transmitMultiblock (k : Fin 16) (errs : List (Nat × Flaw))
  /-- PERST_N (R453). -/
  | perstN (high : Bool)
  /-- PCIE_LINK_UP (R453). -/
  | pcieLinkUp
  /-- PCIE_LINK_DOWN (R412). -/
  | pcieLinkDown
  /-- FLR (R455). -/
  | flr (v : Fin 32)
  /-- DEV_DMA_TAIL (R457). -/
  | devDmaTail (who : Who) (c : Fin 32) (v : Word)
  /-- HOST_TO_QUEUE (R458). -/
  | hostToQueue (c : Fin 32) (d : DescHead) (r : HostRead)
  /-- QUEUE_TO_HOST (R458). -/
  | queueToHost (c : Fin 32) (d : DescHead) (haddr : BitVec 64)
  /-- HOST_TO_MLA (R458). -/
  | hostToMla (c : Fin 32) (d : DescHead) (r : HostRead) (mla : BitVec 64)
  /-- MLA_TO_HOST (R458). -/
  | mlaToHost (c : Fin 32) (d : DescHead) (addr : DescAddr)
  /-- DDR_TRAINING (R459). -/
  | ddrTraining (failed : List (Fin 16))
  /-- REFRESH_RATE_READ (R461). -/
  | refreshRateRead (rates : List (Fin 16 × Fin 4))
  /-- DDR_RETRAIN (R476). -/
  | ddrRetrain (n : Fin 16) (passed : Bool)
  /-- TRST_N (R488). -/
  | trstN (high : Bool)
  /-- BYPASS (R463). -/
  | bypass
  /-- IDCODE (R463). -/
  | idcode
  /-- SAMPLE_PRELOAD (R463). -/
  | samplePreload (cells : List Bool)
  /-- EXTEST (R463). -/
  | extest
  /-- CLAMP (R463). -/
  | clamp
  /-- HIGHZ (R463). -/
  | highz
  /-- SMB_DEV_ID (R464). -/
  | smbDevId
  /-- SMB_THERM_BAND (R464). -/
  | smbThermBand
  /-- SMB_TEMPERATURE (R464). -/
  | smbTemperature
  /-- SMB_STATUS (R464). -/
  | smbStatus
  /-- SMB_TL_TEE (R464). -/
  | smbTlTee
  /-- ADAPTATION_REQUEST (R475). -/
  | adaptationRequest (who : Who) (p : Fin 32) (v : Word)
  /-- ADAPTATION_RUN (R471). -/
  | adaptationRun (p : Fin 32) (width : BitVec 7) (height : BitVec 10)
  /-- EYE_UPDATE (R472). -/
  | eyeUpdate (p : Fin 32) (width : BitVec 7) (height : BitVec 10)
  /-- SENSOR_RUN_REQUEST (R475). -/
  | sensorRunRequest (who : Who) (v : Word)
  /-- SENSOR_RUN_START (R474). -/
  | sensorRunStart (die : Fin 10) (quiet : Bool)
  /-- SENSOR_RUN (R474). -/
  | sensorRun (die : Fin 10) (done : Bool) (bad : List (Fin 60))
  /-- POR_N (R488). -/
  | porN (rail : Option (Fin 11))
  /-- SRST_N (R491). -/
  | srstN (flushed : Bool)
  /-- BROWNOUT_START (R485). -/
  | brownoutStart (rail : Fin 11) (mv : Nat)
  /-- BROWNOUT_WARN (R485). -/
  | brownoutWarn (rail : Fin 11) (mn mv dur : Nat)
  /-- RAIL_RESET (R487). -/
  | railReset (rail : Fin 11) (mv : Nat)
  /-- RAIL_ABOVE_RESET (R482). -/
  | railAboveReset (rail : Fin 11) (mv : Nat)
  /-- SYS (R491). -/
  | sys (who : Who) (v : Word) (flushed : Bool)
  /-- FABRIC (R543). -/
  | fabric (who : Who) (v : Word)
  /-- MGMT (R492). -/
  | mgmt (who : Who) (v : Word)
  /-- MGMT_WDOG (R540). -/
  | mgmtWdog (sec : Fin 15) (flushed : Bool)
  /-- ENTER (R499). -/
  | enter (who : Who) (v : Word)
  /-- PWR_READY (R499). -/
  | pwrReady
  /-- EXIT (R502). -/
  | exit (who : Who) (v : Word)
  /-- WAKE (R502). -/
  | wake
  /-- PWR_WAKE (R502). -/
  | pwrWake
  /-- PWR_BOOT (R505). -/
  | pwrBoot
  /-- STACK_START (R495). -/
  | stackStart
  /-- OPTIME_STORE (R525). -/
  | optimeStore
  /-- EVENT_CYCLE (R511). -/
  | eventCycle
  /-- EVENT_INPUT_LATCH (R516). -/
  | eventInputLatch (src : Fin 1024)
  /-- EVT_PEND (R513). -/
  | evtPend (who : Who) (w : Fin 32) (v : Word)
  /-- RECORD_WRITE (R528). -/
  | recordWrite
  /-- FREEZE (R530). -/
  | freeze (who : Who)
  /-- THAW (R530). -/
  | thaw (who : Who)
  /-- REC_FREEZE_END (R530). -/
  | recFreezeEnd
  /-- NONCE (R532). -/
  | nonce (who : Who)
  /-- NONCE_EXPIRY (R532). -/
  | nonceExpiry
  /-- CLEAR (R532). -/
  | clear (who : Who) (token : Option Token)
  /-- REC_CLEARED (R532). -/
  | recCleared
  /-- VT_TIMEOUT (R536). -/
  | vtTimeout (x : VtWaiter)
  /-- BUS_TIMEOUT (R538). -/
  | busTimeout (who : Who) (write : Bool) (off : Nat)
  /-- PCIE_COMPLETION_TIMEOUT (R539). -/
  | pcieCompletionTimeout (x : HostWaiter)
  /-- DEV_WDKICK (R541). -/
  | devWdkick (who : Who) (v : Word)
  /-- DEV_WDOG (R541). -/
  | devWdog (sec : Fin 15) (flushed : Bool)
  /-- START_CAPTURE (R556). -/
  | startCapture (who : Who) (v : Word)
  /-- RPL_FREEZE (R558). -/
  | rplFreeze (who : Who) (v : Word)
  /-- RPL_TRIGGER (R558). -/
  | rplTrigger
  /-- RPL_FROZEN (R558). -/
  | rplFrozen
  /-- RPL_GAP (R556). -/
  | rplGap
  /-- CRC_PERIOD (R567). -/
  | crcPeriod
  /-- RPL_SNAP_DONE (R561). -/
  | rplSnapDone (fail : Option SnapFault)
  /-- REPLAY_ENTER (R563). -/
  | replayEnter (who : Who) (v : Word)
  /-- REPLAY_START (R563). -/
  | replayStart
  /-- INJECTION (R564). -/
  | injection
  /-- REPLAY_EXIT (R565). -/
  | replayExit (who : Who) (v : Word)
  /-- STORE (R572). -/
  | store (who : Who) (v : Word)
  /-- NVS_STORED (R572). -/
  | nvsStored (written : Bool)
  /-- NVS_IVAL (R571). -/
  | nvsIval (who : Who) (v : Word)
  /-- PROGKEY (R575). -/
  | progkey (who : Who) (v : Word) (burned : Bool)
  /-- ADVANCE (R582). -/
  | advance (who : Who) (v : Word)
  /-- SR_CLEAR (R578). -/
  | srClear (token : Option Token)
  /-- LIFECYCLE (R582). -/
  | lifecycle (token : Option Token) (burned : Bool)
  /-- REVOKE (R576). -/
  | revoke (token : Option Token) (burned : Bool)
  /-- ADD_KEY (R578). -/
  | addKey (token : Option Token) (burned : Bool)
  /-- SETTINGS_DEFAULT (R578). -/
  | settingsDefault (token : Option Token)
  /-- PATCH (R578). -/
  | patch (token : Option Token)
  /-- FC_BOUNDARY (R50). -/
  | fcBoundary
  /-- SNAPSHOT_TIMEOUT (R561). -/
  | snapshotTimeout
  /-- MSIX_UNMASK (R513). -/
  | msixUnmask (u : Unmask)
  deriving DecidableEq, Repr

end Sys2Proof
end

