-- ==== Sys2Proof/Decode.lean ====
section
/-!
DEFINITION. Sys2Proof/Decode.lean: the commands of this part come from its boundary and from its own clocks; the command
table gives no row any bits, so no word spells a command. The part's own Saeno programs are words, though: what each of them
spells is decoded here (R185 to R188).
-/
namespace Sys2Proof

/-- The command that a word spells by the bits of the command table: no row has bits. -/
def decodeTableWord (_nbits _w : Nat) : Option Instr := none

namespace Machine

/-! ## Words of a Saeno program (Tables 7-1 to 7-3) -/

def wOp (w : Nat) : Nat := nbits w 56 8
def wD (w : Nat) : Nat := nbits w 51 5
def wA (w : Nat) : Nat := nbits w 46 5
def wB (w : Nat) : Nat := nbits w 41 5
def wImm (w : Nat) : Nat := nbits w 0 41
def wR (w : Nat) : Bool := nbits w 40 1 == 1

def opAlign : Nat := 0x04
def opPrefetch : Nat := 0x10
def opSwitch : Nat := 0x11
def opBr : Nat := 0x20
def opBrc : Nat := 0x21
def opCall : Nat := 0x22
def opRet : Nat := 0x23
def opLoop : Nat := 0x24
def opHalt : Nat := 0x25
def opQwait : Nat := 0x42
def opBarrier : Nat := 0x70
def opSignal : Nat := 0x71
def opWait : Nat := 0x72

/-- What an instruction uses of its word: D, A and B; its immediate bits as places and widths, without R; whether it has R; the
immediate bits that must be 0 under R = 1, and whether A or B then counts as used (R185, R188). -/
structure OpRow where
  d : Bool
  a : Bool
  b : Bool
  imm : List (Nat × Nat)
  r : Bool
  rzero : List (Nat × Nat)
  ra : Bool
  rb : Bool
  deriving DecidableEq, Repr

/-- A row without a register-source bit. -/
def plainRow (d a b : Bool) (imm : List (Nat × Nat)) : OpRow :=
  { d := d, a := a, b := b, imm := imm, r := false, rzero := [], ra := false, rb := false }

/-- A row whose fields come from ga under R = 1. -/
def gaRow (imm rzero : List (Nat × Nat)) : OpRow :=
  { d := false, a := false, b := false, imm := imm, r := true, rzero := rzero, ra := true, rb := false }

/-- A row whose second operand comes from gb under R = 1. -/
def gbRow (d a : Bool) (imm rzero : List (Nat × Nat)) : OpRow :=
  { d := d, a := a, b := false, imm := imm, r := true, rzero := rzero, ra := false, rb := true }

/-- The row of an opcode; none: undefined (Tables 7-2 and 7-3). -/
def opRow (op : Nat) : Option OpRow :=
  match op with
  | 0x01 => some (plainRow false false false [(0, 41)])
  | 0x02 => some (plainRow false true true [])
  | 0x03 => some (gaRow [(0, 34)] [(0, 34)])
  | 0x04 => some (plainRow false true false [(0, 34)])
  | 0x10 => some (gaRow [(0, 10)] [(0, 10)])
  | 0x11 => some (gaRow [(0, 5)] [(0, 5)])
  | 0x12 => some (gaRow [(0, 7)] [(0, 7)])
  | 0x13 => some (gaRow [(0, 4)] [(0, 4)])
  | 0x20 => some (plainRow false false false [(0, 16)])
  | 0x21 => some (plainRow false false false [(0, 24)])
  | 0x22 => some (plainRow false false false [(0, 16)])
  | 0x23 => some (plainRow false false false [])
  | 0x24 => some (gaRow [(0, 32)] [(16, 16)])
  | 0x25 => some (plainRow false false false [])
  | 0x26 => some (plainRow false false false [])
  | 0x30 => some (plainRow true false false [(0, 32)])
  | 0x31 | 0x32 | 0x33 | 0x34 | 0x35 => some (gbRow true true [(0, 32)] [(0, 32)])
  | 0x36 => some (gbRow true true [(0, 5)] [(0, 5)])
  | 0x37 => some (gbRow true true [(0, 5), (39, 1)] [(0, 5)])
  | 0x38 => some (gbRow false true [(0, 32)] [(0, 32)])
  | 0x39 => some (plainRow true false false [(0, 4)])
  | 0x40 => some (gbRow false true [(0, 15)] [(0, 15)])
  | 0x41 => some (gbRow true false [(0, 15)] [(0, 15)])
  | 0x42 => some (gbRow false false [(0, 16)] [(0, 15)])
  | 0x50 => some (plainRow false true true [(0, 19)])
  | 0x60 => some (plainRow false true false [(0, 3), (4, 3)])
  | 0x61 => some (plainRow false true false [(0, 4), (16, 11)])
  | 0x62 => some (gaRow [(0, 32)] [(0, 32)])
  | 0x70 => some (plainRow false false false [(0, 8)])
  | 0x71 | 0x72 => some (plainRow false false false [(0, 4)])
  | _ => none

/-- Bits of a list of places and widths. -/
def fieldMask (l : List (Nat × Nat)) : Nat := l.foldl (fun m e => Nat.lor m ((2 ^ e.2 - 1) * 2 ^ e.1)) 0

/-- An undefined opcode, or a field that is not used and not 0 (R185, R188). -/
def illegalWord (w : Nat) : Bool :=
  match opRow (wOp w) with
  | none => true
  | some x =>
    let r := x.r && wR w
    let used := fieldMask (x.imm.filter (fun e => !(r && x.rzero.contains e)))
    let forced := if r then Nat.land (wImm w) (fieldMask x.rzero) else 0
    (wD w != 0 && !x.d) || (wA w != 0 && !(x.a || r && x.ra)) || (wB w != 0 && !(x.b || r && x.rb))
      || Nat.land (wImm w) (Nat.lor (if r then Nat.lor used (fieldMask x.rzero) else used) (if x.r then 2 ^ 40 else 0)) != wImm w
      || forced != 0

/-- A register field of a word. -/
def wReg (w lo : Nat) : Fin 32 := Fin.ofNat 32 (nbits w lo 5)

/-- The operand of a word: `n` bits of the immediate from `lo` on, or under R = 1 a register (Table 7-3). -/
def wOpnd (w lo n : Nat) (r : Fin 32) : Opnd := if wR w then .reg r else .imm (nbits w lo n)

/-- The instruction a program word spells on sequencer `k`, its fetch found as `e` (Tables 7-2 and 7-3): every word spells one, an
undefined opcode or a field that must be 0 the illegal one. -/
def saenoInstr (k : Fin 4) (e : Flaw) (w : Nat) : Instr :=
  let d := wReg w 51
  let a := wReg w 46
  let b := wReg w 41
  let flag : Fin 16 := Fin.ofNat 16 w
  if illegalWord w then .illegal k e (BitVec.ofNat 64 w)
  else match wOp w with
    | 0x01 => .waitat k e (BitVec.ofNat 41 w)
    | 0x02 => .waitatr k e a b
    | 0x03 => .waitrel k e (wOpnd w 0 34 a)
    | 0x04 => .align k e a (BitVec.ofNat 34 w)
    | 0x10 => .prefetch k e (wOpnd w 0 10 a)
    | 0x11 => .switch k e (wOpnd w 0 5 a)
    | 0x12 => .flopsel k e (wOpnd w 0 7 a)
    | 0x13 => .capture k e (wOpnd w 0 4 a)
    | 0x20 => .br k e (BitVec.ofNat 16 w)
    | 0x21 => .brc k e (BitVec.ofNat 8 (w / 2 ^ 16)) (BitVec.ofNat 16 w)
    | 0x22 => .call k e (BitVec.ofNat 16 w)
    | 0x23 => .ret k e
    | 0x24 => .loop k e (BitVec.ofNat 16 w) (wOpnd w 16 16 a)
    | 0x25 => .halt k e
    | 0x26 => .nop k e
    | 0x30 => .movi k e d (BitVec.ofNat 32 w)
    | 0x31 => .add k e d a (wOpnd w 0 32 b)
    | 0x32 => .sub k e d a (wOpnd w 0 32 b)
    | 0x33 => .and k e d a (wOpnd w 0 32 b)
    | 0x34 => .or k e d a (wOpnd w 0 32 b)
    | 0x35 => .xor k e d a (wOpnd w 0 32 b)
    | 0x36 => .shl k e d a (wOpnd w 0 5 b)
    | 0x37 => .shr k e d a (nbits w 39 1 == 1) (wOpnd w 0 5 b)
    | 0x38 => .cmp k e a (wOpnd w 0 32 b)
    | 0x39 => .movs k e d (BitVec.ofNat 4 w)
    | 0x40 => .qpush k e a (wOpnd w 0 15 b)
    | 0x41 => .qpop k e d (wOpnd w 0 15 b)
    | 0x42 => .qwait k e (nbits w 15 1 == 1) (wOpnd w 0 15 b)
    | 0x50 => .hcoef k e a b (BitVec.ofNat 6 w) (BitVec.ofNat 6 (w / 2 ^ 6)) (BitVec.ofNat 7 (w / 2 ^ 12))
    | 0x60 => .raise k e (BitVec.ofNat 3 (w / 2 ^ 4)) (BitVec.ofNat 3 w) a
    | 0x61 => .log k e a (BitVec.ofNat 4 w) (BitVec.ofNat 8 (w / 2 ^ 16)) (BitVec.ofNat 3 (w / 2 ^ 24))
    | 0x62 => .evclr k e (wOpnd w 0 32 a)
    | 0x70 => .barrier k e (BitVec.ofNat 4 (w / 2 ^ 4)) flag
    | 0x71 => .signal k e flag
    | 0x72 => .wait k e flag
    | _ => .illegal k e (BitVec.ofNat 64 w)

end Machine
end Sys2Proof
end

