-- ==== Sys2Proof/Config.lean ====
section
/-!
DEFINITION. Sys2Proof/Config.lean: what the spec leaves open. Every constant here has no body, so nothing can be
proved of its value; the assumption log names each.
-/
namespace Sys2Proof

/-- A fresh value of `w` bits, the `n`-th drawn: what the spec calls undefined or leaves unstated (log 2). -/
opaque Config.freeBits : (w : Nat) → (n : Nat) → BitVec w

/-- The value on a wire of a combinational loop in an fc (R84, log 3). -/
opaque Config.loopBit : (wire : Nat) → (fc : Nat) → Bool

/-- One word taken into the digest of an image or of a settings copy, in place of SHA-512 (R559, log 60). -/
opaque Config.digestStep : (digest : Nat) → (word : BitVec 32) → Nat

/-- Full time in a copy of AT no two of whose counters agree, until it is reloaded (R231, log 29). -/
opaque Config.failedCopy : (copy : Nat) → (fc : Nat) → Nat

end Sys2Proof
end

