-- ==== Sys2Proof/Machine/RegMap.lean ====
section
/-!
DEFINITION. Sys2Proof/Machine/RegMap.lean: the register index of Table 26-4 (R591) and the field maps of the
chapters' register tables: offset of every register, every field, and one row per register with its access
codes (R17) and its reset value (R19).
-/
namespace Sys2Proof.Machine
open Sys2Proof

/-- DEV_ID: 26_register_summary, Table 26-3. -/
def Rg.DEV_ID : Nat := 0x0
def F.DEV_ID_PART : Fld := ⟨Rg.DEV_ID, 16, 16⟩
def F.DEV_ID_STEP : Fld := ⟨Rg.DEV_ID, 0, 8⟩

/-- DEV_GRADE: 26_register_summary, Table 26-3. -/
def Rg.DEV_GRADE : Nat := 0x4
def F.DEV_GRADE_GRADE : Fld := ⟨Rg.DEV_GRADE, 0, 1⟩

/-- DEV_WDCFG: 23_faults_guarantees, Table 23-5. -/
def Rg.DEV_WDCFG : Nat := 0x100
def F.DEV_WDCFG_EN : Fld := ⟨Rg.DEV_WDCFG, 31, 1⟩
def F.DEV_WDCFG_HOSTKICK : Fld := ⟨Rg.DEV_WDCFG, 30, 1⟩
def F.DEV_WDCFG_SRCEN : Fld := ⟨Rg.DEV_WDCFG, 29, 1⟩
def F.DEV_WDCFG_TO : Fld := ⟨Rg.DEV_WDCFG, 24, 5⟩
def F.DEV_WDCFG_KSRC : Fld := ⟨Rg.DEV_WDCFG, 0, 10⟩

/-- DEV_WDKICK: 23_faults_guarantees, Table 23-5. -/
def Rg.DEV_WDKICK : Nat := 0x104
def F.DEV_WDKICK_KEY : Fld := ⟨Rg.DEV_WDKICK, 0, 32⟩

/-- DEV_WDSTAT: 23_faults_guarantees, Table 23-5. -/
def Rg.DEV_WDSTAT : Nat := 0x108
def F.DEV_WDSTAT_EXPIRED : Fld := ⟨Rg.DEV_WDSTAT, 31, 1⟩
def F.DEV_WDSTAT_WIN : Fld := ⟨Rg.DEV_WDSTAT, 16, 8⟩
def F.DEV_WDSTAT_REMAIN : Fld := ⟨Rg.DEV_WDSTAT, 0, 16⟩

/-- DEV_FLTCNT: 23_faults_guarantees, Table 23-5. -/
def Rg.DEV_FLTCNT : Nat := 0x10C
def F.DEV_FLTCNT_RESTARTS : Fld := ⟨Rg.DEV_FLTCNT, 24, 8⟩
def F.DEV_FLTCNT_VTTO : Fld := ⟨Rg.DEV_FLTCNT, 12, 12⟩
def F.DEV_FLTCNT_BUSTO : Fld := ⟨Rg.DEV_FLTCNT, 0, 12⟩

/-- DEV_VTLAST: 23_faults_guarantees, Table 23-5. -/
def Rg.DEV_VTLAST : Nat := 0x110
def F.DEV_VTLAST_MASTER : Fld := ⟨Rg.DEV_VTLAST, 29, 3⟩
def F.DEV_VTLAST_PORT : Fld := ⟨Rg.DEV_VTLAST, 23, 6⟩
def F.DEV_VTLAST_ADDR : Fld := ⟨Rg.DEV_VTLAST, 3, 20⟩
def F.DEV_VTLAST_VALID : Fld := ⟨Rg.DEV_VTLAST, 0, 1⟩

/-- DEV_BUSLAST: 23_faults_guarantees, Table 23-5. -/
def Rg.DEV_BUSLAST : Nat := 0x114
def F.DEV_BUSLAST_INIT : Fld := ⟨Rg.DEV_BUSLAST, 30, 2⟩
def F.DEV_BUSLAST_WRITE : Fld := ⟨Rg.DEV_BUSLAST, 29, 1⟩
def F.DEV_BUSLAST_OFFSET : Fld := ⟨Rg.DEV_BUSLAST, 2, 24⟩
def F.DEV_BUSLAST_VALID : Fld := ⟨Rg.DEV_BUSLAST, 0, 1⟩

/-- DEV_VF_CFG: 18_external_interfaces, Table 18-6. -/
def Rg.DEV_VF_CFG (v : Nat) : Nat := 0x200 + 0x4 * v
def F.DEV_VF_CFG_EN (v : Nat) : Fld := ⟨Rg.DEV_VF_CFG v, 31, 1⟩
def F.DEV_VF_CFG_BANK (v : Nat) : Fld := ⟨Rg.DEV_VF_CFG v, 5, 5⟩
def F.DEV_VF_CFG_QC (v : Nat) : Fld := ⟨Rg.DEV_VF_CFG v, 0, 5⟩

/-- DEV_DMA_BASE_LO: 18_external_interfaces, Table 18-6. -/
def Rg.DEV_DMA_BASE_LO (c : Nat) : Nat := 0x1000 + 0x20 * c
def F.DEV_DMA_BASE_LO_ADDR (c : Nat) : Fld := ⟨Rg.DEV_DMA_BASE_LO c, 6, 26⟩

/-- DEV_DMA_BASE_HI: 18_external_interfaces, Table 18-6. -/
def Rg.DEV_DMA_BASE_HI (c : Nat) : Nat := 0x1004 + 0x20 * c
def F.DEV_DMA_BASE_HI_ADDRH (c : Nat) : Fld := ⟨Rg.DEV_DMA_BASE_HI c, 0, 32⟩

/-- DEV_DMA_CTL: 18_external_interfaces, Table 18-6. -/
def Rg.DEV_DMA_CTL (c : Nat) : Nat := 0x1008 + 0x20 * c
def F.DEV_DMA_CTL_EN (c : Nat) : Fld := ⟨Rg.DEV_DMA_CTL c, 31, 1⟩
def F.DEV_DMA_CTL_ERR (c : Nat) : Fld := ⟨Rg.DEV_DMA_CTL c, 30, 1⟩
def F.DEV_DMA_CTL_SZ (c : Nat) : Fld := ⟨Rg.DEV_DMA_CTL c, 0, 4⟩

/-- DEV_DMA_HEAD: 18_external_interfaces, Table 18-6. -/
def Rg.DEV_DMA_HEAD (c : Nat) : Nat := 0x100C + 0x20 * c
def F.DEV_DMA_HEAD_HEAD (c : Nat) : Fld := ⟨Rg.DEV_DMA_HEAD c, 0, 12⟩

/-- DEV_DMA_TAIL: 18_external_interfaces, Table 18-6. -/
def Rg.DEV_DMA_TAIL (c : Nat) : Nat := 0x1010 + 0x20 * c
def F.DEV_DMA_TAIL_TAIL (c : Nat) : Fld := ⟨Rg.DEV_DMA_TAIL c, 0, 12⟩

/-- CLK_OSCCFG: 16_clocks, Table 16-6. -/
def Rg.CLK_OSCCFG : Nat := 0x10000
def F.CLK_OSCCFG_XI0MODE : Fld := ⟨Rg.CLK_OSCCFG, 5, 1⟩
def F.CLK_OSCCFG_XI1MODE : Fld := ⟨Rg.CLK_OSCCFG, 4, 1⟩
def F.CLK_OSCCFG_XI1SEL : Fld := ⟨Rg.CLK_OSCCFG, 0, 3⟩

/-- CLK_OSCSTAT: 16_clocks, Table 16-6. -/
def Rg.CLK_OSCSTAT : Nat := 0x10004
def F.CLK_OSCSTAT_FOSCRDY : Fld := ⟨Rg.CLK_OSCSTAT, 31, 1⟩
def F.CLK_OSCSTAT_SOSCOK : Fld := ⟨Rg.CLK_OSCSTAT, 30, 1⟩
def F.CLK_OSCSTAT_XI0OK : Fld := ⟨Rg.CLK_OSCSTAT, 29, 1⟩
def F.CLK_OSCSTAT_XI1OK : Fld := ⟨Rg.CLK_OSCSTAT, 28, 1⟩
def F.CLK_OSCSTAT_REFCLKOK : Fld := ⟨Rg.CLK_OSCSTAT, 27, 1⟩
def F.CLK_OSCSTAT_FOSCRST : Fld := ⟨Rg.CLK_OSCSTAT, 16, 8⟩

/-- CLK_PLLSTAT: 16_clocks, Table 16-6. -/
def Rg.CLK_PLLSTAT : Nat := 0x10008
def F.CLK_PLLSTAT_LOOPS : Fld := ⟨Rg.CLK_PLLSTAT, 0, 28⟩

/-- CLK_GATE0: 16_clocks, Table 16-7. -/
def Rg.CLK_GATE0 : Nat := 0x10010
def F.CLK_GATE0_SDS : Fld := ⟨Rg.CLK_GATE0, 0, 32⟩

/-- CLK_GATE1: 16_clocks, Table 16-7. -/
def Rg.CLK_GATE1 : Nat := 0x10014
def F.CLK_GATE1_FHTS : Fld := ⟨Rg.CLK_GATE1, 20, 1⟩
def F.CLK_GATE1_FHMAC : Fld := ⟨Rg.CLK_GATE1, 19, 1⟩
def F.CLK_GATE1_RPL : Fld := ⟨Rg.CLK_GATE1, 18, 1⟩
def F.CLK_GATE1_CFG : Fld := ⟨Rg.CLK_GATE1, 17, 1⟩
def F.CLK_GATE1_XSPI : Fld := ⟨Rg.CLK_GATE1, 16, 1⟩
def F.CLK_GATE1_DDRCH : Fld := ⟨Rg.CLK_GATE1, 0, 16⟩

/-- CLK_GATESTAT: 16_clocks, Table 16-7. -/
def Rg.CLK_GATESTAT (i : Nat) : Nat := 0x10018 + 0x4 * i
def F.CLK_GATESTAT_OPEN (i : Nat) : Fld := ⟨Rg.CLK_GATESTAT i, 0, 32⟩

/-- CLK_GATEERR: 16_clocks, Table 16-6. -/
def Rg.CLK_GATEERR : Nat := 0x10020
def F.CLK_GATEERR_VALID : Fld := ⟨Rg.CLK_GATEERR, 31, 1⟩
def F.CLK_GATEERR_KIND : Fld := ⟨Rg.CLK_GATEERR, 30, 1⟩
def F.CLK_GATEERR_BIT : Fld := ⟨Rg.CLK_GATEERR, 24, 6⟩

/-- CLK_DOM: 16_clocks, Table 16-6. -/
def Rg.CLK_DOM (d : Nat) : Nat := 0x10100 + 0x4 * d
def F.CLK_DOM_PRIMARY (d : Nat) : Fld := ⟨Rg.CLK_DOM d, 31, 1⟩
def F.CLK_DOM_RETREJ (d : Nat) : Fld := ⟨Rg.CLK_DOM d, 30, 1⟩
def F.CLK_DOM_TRIPPED (d : Nat) : Fld := ⟨Rg.CLK_DOM d, 29, 1⟩
def F.CLK_DOM_RAMP (d : Nat) : Fld := ⟨Rg.CLK_DOM d, 28, 1⟩
def F.CLK_DOM_SRC (d : Nat) : Fld := ⟨Rg.CLK_DOM d, 25, 3⟩
def F.CLK_DOM_DIV (d : Nat) : Fld := ⟨Rg.CLK_DOM d, 0, 16⟩

/-- PWR_CMD: 20_power_reset_startup, Table 20-8. -/
def Rg.PWR_CMD : Nat := 0x20000
def F.PWR_CMD_OP : Fld := ⟨Rg.PWR_CMD, 30, 2⟩
def F.PWR_CMD_TARGET : Fld := ⟨Rg.PWR_CMD, 28, 2⟩
def F.PWR_CMD_RETAIN : Fld := ⟨Rg.PWR_CMD, 27, 1⟩

/-- PWR_STAT: 20_power_reset_startup, Table 20-8. -/
def Rg.PWR_STAT : Nat := 0x20004
def F.PWR_STAT_STATE : Fld := ⟨Rg.PWR_STAT, 30, 2⟩
def F.PWR_STAT_READY : Fld := ⟨Rg.PWR_STAT, 29, 1⟩
def F.PWR_STAT_ENTERING : Fld := ⟨Rg.PWR_STAT, 28, 1⟩
def F.PWR_STAT_WAKING : Fld := ⟨Rg.PWR_STAT, 27, 1⟩
def F.PWR_STAT_CMDREJ : Fld := ⟨Rg.PWR_STAT, 26, 1⟩
def F.PWR_STAT_SEQERR : Fld := ⟨Rg.PWR_STAT, 25, 1⟩
def F.PWR_STAT_RETAINED : Fld := ⟨Rg.PWR_STAT, 24, 1⟩
def F.PWR_STAT_RAILOK : Fld := ⟨Rg.PWR_STAT, 0, 11⟩

/-- PWR_RST: 20_power_reset_startup, Table 20-8. -/
def Rg.PWR_RST : Nat := 0x20008
def F.PWR_RST_KEY : Fld := ⟨Rg.PWR_RST, 24, 8⟩
def F.PWR_RST_MGMT : Fld := ⟨Rg.PWR_RST, 2, 1⟩
def F.PWR_RST_FABRIC : Fld := ⟨Rg.PWR_RST, 1, 1⟩
def F.PWR_RST_SYS : Fld := ⟨Rg.PWR_RST, 0, 1⟩

/-- PWR_RSTCAUSE: 20_power_reset_startup, Table 20-8. -/
def Rg.PWR_RSTCAUSE : Nat := 0x2000C
def F.PWR_RSTCAUSE_RAIL : Fld := ⟨Rg.PWR_RSTCAUSE, 8, 5⟩
def F.PWR_RSTCAUSE_CAUSE : Fld := ⟨Rg.PWR_RSTCAUSE, 0, 8⟩

/-- PWR_PCC: 20_power_reset_startup, Table 20-8. -/
def Rg.PWR_PCC : Nat := 0x20010
def F.PWR_PCC_COUNT : Fld := ⟨Rg.PWR_PCC, 0, 24⟩

/-- PWR_OPTIME: 20_power_reset_startup, Table 20-8. -/
def Rg.PWR_OPTIME : Nat := 0x20014
def F.PWR_OPTIME_OPTIME : Fld := ⟨Rg.PWR_OPTIME, 0, 32⟩

/-- PWR_DIPLAST: 20_power_reset_startup, Table 20-8. -/
def Rg.PWR_DIPLAST : Nat := 0x20018
def F.PWR_DIPLAST_VALID : Fld := ⟨Rg.PWR_DIPLAST, 31, 1⟩
def F.PWR_DIPLAST_RAIL : Fld := ⟨Rg.PWR_DIPLAST, 27, 4⟩
def F.PWR_DIPLAST_MIN : Fld := ⟨Rg.PWR_DIPLAST, 16, 11⟩
def F.PWR_DIPLAST_DUR : Fld := ⟨Rg.PWR_DIPLAST, 0, 16⟩

/-- PWR_RAIL: 20_power_reset_startup, Table 20-8. -/
def Rg.PWR_RAIL (r : Nat) : Nat := 0x20100 + 0x4 * r
def F.PWR_RAIL_RST (r : Nat) : Fld := ⟨Rg.PWR_RAIL r, 31, 1⟩
def F.PWR_RAIL_WARN (r : Nat) : Fld := ⟨Rg.PWR_RAIL r, 30, 1⟩
def F.PWR_RAIL_MIN (r : Nat) : Fld := ⟨Rg.PWR_RAIL r, 16, 11⟩
def F.PWR_RAIL_MV (r : Nat) : Fld := ⟨Rg.PWR_RAIL r, 0, 11⟩

/-- THERM_CTL: 17_thermal, Table 17-6. -/
def Rg.THERM_CTL : Nat := 0x30000
def F.THERM_CTL_AUTORESTART : Fld := ⟨Rg.THERM_CTL, 31, 1⟩
def F.THERM_CTL_RESTART : Fld := ⟨Rg.THERM_CTL, 30, 1⟩

/-- THERM_STAT: 17_thermal, Table 17-6. -/
def Rg.THERM_STAT : Nat := 0x30004
def F.THERM_STAT_TRIPPED : Fld := ⟨Rg.THERM_STAT, 31, 1⟩
def F.THERM_STAT_LATCHED : Fld := ⟨Rg.THERM_STAT, 30, 1⟩
def F.THERM_STAT_TRIPS : Fld := ⟨Rg.THERM_STAT, 16, 8⟩
def F.THERM_STAT_DIE : Fld := ⟨Rg.THERM_STAT, 8, 4⟩
def F.THERM_STAT_GUARD : Fld := ⟨Rg.THERM_STAT, 0, 4⟩

/-- THERM_BAND: 17_thermal, Table 17-6. -/
def Rg.THERM_BAND : Nat := 0x30008
def F.THERM_BAND_BANDS : Fld := ⟨Rg.THERM_BAND, 0, 30⟩

/-- THERM_BROKEN_LO: 17_thermal, Table 17-6. -/
def Rg.THERM_BROKEN_LO : Nat := 0x3000C
def F.THERM_BROKEN_LO_S : Fld := ⟨Rg.THERM_BROKEN_LO, 0, 32⟩

/-- THERM_BROKEN_HI: 17_thermal, Table 17-6. -/
def Rg.THERM_BROKEN_HI : Nat := 0x30010
def F.THERM_BROKEN_HI_RD : Fld := ⟨Rg.THERM_BROKEN_HI, 28, 2⟩
def F.THERM_BROKEN_HI_S : Fld := ⟨Rg.THERM_BROKEN_HI, 0, 28⟩

/-- THERM_CALTH: 19_calibration, Table 19-4. -/
def Rg.THERM_CALTH : Nat := 0x30020
def F.THERM_CALTH_DDR : Fld := ⟨Rg.THERM_CALTH, 24, 5⟩
def F.THERM_CALTH_SENS : Fld := ⟨Rg.THERM_CALTH, 16, 5⟩
def F.THERM_CALTH_TK : Fld := ⟨Rg.THERM_CALTH, 8, 5⟩
def F.THERM_CALTH_SDS : Fld := ⟨Rg.THERM_CALTH, 0, 5⟩

/-- THERM_CALCTL: 19_calibration, Table 19-4. -/
def Rg.THERM_CALCTL : Nat := 0x30024
def F.THERM_CALCTL_CMDREJ : Fld := ⟨Rg.THERM_CALCTL, 31, 1⟩
def F.THERM_CALCTL_PEND : Fld := ⟨Rg.THERM_CALCTL, 16, 10⟩
def F.THERM_CALCTL_RUN : Fld := ⟨Rg.THERM_CALCTL, 0, 10⟩

/-- THERM_CAL_CNT: 19_calibration, Table 19-4. -/
def Rg.THERM_CAL_CNT (i : Nat) : Nat := 0x30040 + 0x8 * i
def F.THERM_CAL_CNT_BUSY (i : Nat) : Fld := ⟨Rg.THERM_CAL_CNT i, 31, 1⟩
def F.THERM_CAL_CNT_COUNT (i : Nat) : Fld := ⟨Rg.THERM_CAL_CNT i, 0, 16⟩

/-- THERM_CAL_TIME: 19_calibration, Table 19-4. -/
def Rg.THERM_CAL_TIME (i : Nat) : Nat := 0x30044 + 0x8 * i
def F.THERM_CAL_TIME_OPTIME (i : Nat) : Fld := ⟨Rg.THERM_CAL_TIME i, 0, 32⟩

/-- THERM_S: 17_thermal, Table 17-6. -/
def Rg.THERM_S (s : Nat) : Nat := 0x30100 + 0x4 * s
def F.THERM_S_STALE (s : Nat) : Fld := ⟨Rg.THERM_S s, 31, 1⟩
def F.THERM_S_BROKEN (s : Nat) : Fld := ⟨Rg.THERM_S s, 30, 1⟩
def F.THERM_S_TEMP (s : Nat) : Fld := ⟨Rg.THERM_S s, 0, 16⟩

/-- THERM_RD: 17_thermal, Table 17-6. -/
def Rg.THERM_RD (x : Nat) : Nat := 0x30200 + 0x4 * x
def F.THERM_RD_STALE (x : Nat) : Fld := ⟨Rg.THERM_RD x, 31, 1⟩
def F.THERM_RD_BROKEN (x : Nat) : Fld := ⟨Rg.THERM_RD x, 30, 1⟩
def F.THERM_RD_TEMP (x : Nat) : Fld := ⟨Rg.THERM_RD x, 0, 16⟩

/-- THERM_RDCFG: 17_thermal, Table 17-6. -/
def Rg.THERM_RDCFG (x : Nat) : Nat := 0x30208 + 0x4 * x
def F.THERM_RDCFG_BETA (x : Nat) : Fld := ⟨Rg.THERM_RDCFG x, 16, 16⟩
def F.THERM_RDCFG_HILIM (x : Nat) : Fld := ⟨Rg.THERM_RDCFG x, 8, 8⟩
def F.THERM_RDCFG_MODE (x : Nat) : Fld := ⟨Rg.THERM_RDCFG x, 0, 2⟩

/-- EVT_EN: 21_events_interrupts, Table 21-4. -/
def Rg.EVT_EN (w : Nat) : Nat := 0x40000 + 0x4 * w
def F.EVT_EN_EN (w : Nat) : Fld := ⟨Rg.EVT_EN w, 0, 32⟩

/-- EVT_MASK: 21_events_interrupts, Table 21-4. -/
def Rg.EVT_MASK (w : Nat) : Nat := 0x40080 + 0x4 * w
def F.EVT_MASK_MASK (w : Nat) : Fld := ⟨Rg.EVT_MASK w, 0, 32⟩

/-- EVT_PEND: 21_events_interrupts, Table 21-4. -/
def Rg.EVT_PEND (w : Nat) : Nat := 0x40100 + 0x4 * w
def F.EVT_PEND_PEND (w : Nat) : Fld := ⟨Rg.EVT_PEND w, 0, 32⟩

/-- EVT_CTL: 21_events_interrupts, Table 21-4. -/
def Rg.EVT_CTL : Nat := 0x40200
def F.EVT_CTL_ALERTSEV : Fld := ⟨Rg.EVT_CTL, 0, 4⟩

/-- EVT_STAT: 21_events_interrupts, Table 21-4. -/
def Rg.EVT_STAT : Nat := 0x40204
def F.EVT_STAT_FAULT : Fld := ⟨Rg.EVT_STAT, 31, 1⟩
def F.EVT_STAT_OVF : Fld := ⟨Rg.EVT_STAT, 30, 1⟩
def F.EVT_STAT_ALERT : Fld := ⟨Rg.EVT_STAT, 29, 1⟩

/-- EVT_SEL: 21_events_interrupts, Table 21-4. -/
def Rg.EVT_SEL : Nat := 0x40208
def F.EVT_SEL_SRC : Fld := ⟨Rg.EVT_SEL, 0, 10⟩

/-- EVT_SCNT: 21_events_interrupts, Table 21-4. -/
def Rg.EVT_SCNT : Nat := 0x4020C
def F.EVT_SCNT_COUNT : Fld := ⟨Rg.EVT_SCNT, 0, 16⟩

/-- EVT_STIME_LO: 21_events_interrupts, Table 21-4. -/
def Rg.EVT_STIME_LO : Nat := 0x40210
def F.EVT_STIME_LO_AT : Fld := ⟨Rg.EVT_STIME_LO, 0, 32⟩

/-- EVT_STIME_HI: 21_events_interrupts, Table 21-4. -/
def Rg.EVT_STIME_HI : Nat := 0x40214
def F.EVT_STIME_HI_HFN : Fld := ⟨Rg.EVT_STIME_HI, 16, 16⟩
def F.EVT_STIME_HI_ATH : Fld := ⟨Rg.EVT_STIME_HI, 0, 2⟩

/-- EVT_ROUTE: 21_events_interrupts, Table 21-4. -/
def Rg.EVT_ROUTE (s : Nat) : Nat := 0x41000 + 0x4 * s
def F.EVT_ROUTE_MSIXEN (s : Nat) : Fld := ⟨Rg.EVT_ROUTE s, 31, 1⟩
def F.EVT_ROUTE_REC (s : Nat) : Fld := ⟨Rg.EVT_ROUTE s, 30, 1⟩
def F.EVT_ROUTE_SEV (s : Nat) : Fld := ⟨Rg.EVT_ROUTE s, 24, 4⟩
def F.EVT_ROUTE_SEQMASK (s : Nat) : Fld := ⟨Rg.EVT_ROUTE s, 20, 4⟩
def F.EVT_ROUTE_EIN (s : Nat) : Fld := ⟨Rg.EVT_ROUTE s, 12, 5⟩
def F.EVT_ROUTE_VEC (s : Nat) : Fld := ⟨Rg.EVT_ROUTE s, 0, 11⟩

/-- REC_CMD: 22_event_recorder, Table 22-6. -/
def Rg.REC_CMD : Nat := 0x50000
def F.REC_CMD_OP : Fld := ⟨Rg.REC_CMD, 28, 4⟩

/-- REC_STAT: 22_event_recorder, Table 22-6. -/
def Rg.REC_STAT : Nat := 0x50004
def F.REC_STAT_FROZEN : Fld := ⟨Rg.REC_STAT, 31, 1⟩
def F.REC_STAT_EXPIRED : Fld := ⟨Rg.REC_STAT, 30, 1⟩
def F.REC_STAT_CLEARING : Fld := ⟨Rg.REC_STAT, 29, 1⟩
def F.REC_STAT_FFZFULL : Fld := ⟨Rg.REC_STAT, 28, 1⟩
def F.REC_STAT_CMDREJ : Fld := ⟨Rg.REC_STAT, 27, 1⟩

/-- REC_SEQ: 22_event_recorder, Table 22-6. -/
def Rg.REC_SEQ : Nat := 0x50008
def F.REC_SEQ_SEQ : Fld := ⟨Rg.REC_SEQ, 0, 32⟩

/-- REC_NEXT: 22_event_recorder, Table 22-6. -/
def Rg.REC_NEXT : Nat := 0x5000C
def F.REC_NEXT_OFS : Fld := ⟨Rg.REC_NEXT, 0, 20⟩

/-- REC_OLDEST: 22_event_recorder, Table 22-6. -/
def Rg.REC_OLDEST : Nat := 0x50010
def F.REC_OLDEST_OFS : Fld := ⟨Rg.REC_OLDEST, 0, 20⟩

/-- REC_FFZEND: 22_event_recorder, Table 22-6. -/
def Rg.REC_FFZEND : Nat := 0x50014
def F.REC_FFZEND_OFS : Fld := ⟨Rg.REC_FFZEND, 0, 16⟩

/-- REC_RDPTR: 22_event_recorder, Table 22-6. -/
def Rg.REC_RDPTR : Nat := 0x50018
def F.REC_RDPTR_OFS : Fld := ⟨Rg.REC_RDPTR, 2, 18⟩

/-- REC_RDDATA: 22_event_recorder, Table 22-6. -/
def Rg.REC_RDDATA : Nat := 0x5001C
def F.REC_RDDATA_DATA : Fld := ⟨Rg.REC_RDDATA, 0, 32⟩

/-- REC_STAGE: 22_event_recorder, Table 22-6. -/
def Rg.REC_STAGE : Nat := 0x50020
def F.REC_STAGE_LOST : Fld := ⟨Rg.REC_STAGE, 16, 16⟩
def F.REC_STAGE_DEPTH : Fld := ⟨Rg.REC_STAGE, 0, 7⟩

/-- REC_TADDR_LO: 22_event_recorder, Table 22-6. -/
def Rg.REC_TADDR_LO : Nat := 0x50024
def F.REC_TADDR_LO_ADDR : Fld := ⟨Rg.REC_TADDR_LO, 2, 30⟩

/-- REC_TADDR_HI: 22_event_recorder, Table 22-6. -/
def Rg.REC_TADDR_HI : Nat := 0x50028
def F.REC_TADDR_HI_ADDRH : Fld := ⟨Rg.REC_TADDR_HI, 0, 32⟩

/-- REC_TLEN: 22_event_recorder, Table 22-6. -/
def Rg.REC_TLEN : Nat := 0x5002C
def F.REC_TLEN_LEN : Fld := ⟨Rg.REC_TLEN, 0, 13⟩

/-- REC_NONCE: 22_event_recorder, Table 22-6. -/
def Rg.REC_NONCE (n : Nat) : Nat := 0x50030 + 0x4 * n
def F.REC_NONCE_NONCE (n : Nat) : Fld := ⟨Rg.REC_NONCE n, 0, 32⟩

/-- REC_CLRRES: 22_event_recorder, Table 22-6. -/
def Rg.REC_CLRRES : Nat := 0x50040
def F.REC_CLRRES_VALID : Fld := ⟨Rg.REC_CLRRES, 31, 1⟩
def F.REC_CLRRES_CODE : Fld := ⟨Rg.REC_CLRRES, 28, 3⟩

/-- NVS_CMD: 25_settings_security, Table 25-7. -/
def Rg.NVS_CMD : Nat := 0x60000
def F.NVS_CMD_OP : Fld := ⟨Rg.NVS_CMD, 28, 4⟩

/-- NVS_STAT: 25_settings_security, Table 25-7. -/
def Rg.NVS_STAT : Nat := 0x60004
def F.NVS_STAT_BUSY : Fld := ⟨Rg.NVS_STAT, 31, 1⟩
def F.NVS_STAT_DONE : Fld := ⟨Rg.NVS_STAT, 30, 1⟩
def F.NVS_STAT_CMDREJ : Fld := ⟨Rg.NVS_STAT, 29, 1⟩
def F.NVS_STAT_RESULT : Fld := ⟨Rg.NVS_STAT, 27, 2⟩
def F.NVS_STAT_DEFAULTS : Fld := ⟨Rg.NVS_STAT, 26, 1⟩
def F.NVS_STAT_COPY : Fld := ⟨Rg.NVS_STAT, 25, 1⟩
def F.NVS_STAT_ITEMS : Fld := ⟨Rg.NVS_STAT, 0, 14⟩

/-- NVS_GEN: 25_settings_security, Table 25-7. -/
def Rg.NVS_GEN : Nat := 0x60008
def F.NVS_GEN_GEN : Fld := ⟨Rg.NVS_GEN, 0, 32⟩

/-- NVS_IOFS: 25_settings_security, Table 25-7. -/
def Rg.NVS_IOFS : Nat := 0x6000C
def F.NVS_IOFS_OFFSET : Fld := ⟨Rg.NVS_IOFS, 2, 24⟩

/-- NVS_IVAL: 25_settings_security, Table 25-7. -/
def Rg.NVS_IVAL : Nat := 0x60010
def F.NVS_IVAL_VALUE : Fld := ⟨Rg.NVS_IVAL, 0, 32⟩

/-- NVS_SMB: 25_settings_security, Table 25-7. -/
def Rg.NVS_SMB : Nat := 0x60014
def F.NVS_SMB_ADDR : Fld := ⟨Rg.NVS_SMB, 0, 7⟩

/-- CFG_CMD: 14_configuration_loading, Table 14-10. -/
def Rg.CFG_CMD : Nat := 0x70000
def F.CFG_CMD_OP : Fld := ⟨Rg.CFG_CMD, 28, 4⟩
def F.CFG_CMD_SRCHOST : Fld := ⟨Rg.CFG_CMD, 2, 1⟩
def F.CFG_CMD_SLOT : Fld := ⟨Rg.CFG_CMD, 0, 2⟩

/-- CFG_STATUS: 14_configuration_loading, Table 14-10. -/
def Rg.CFG_STATUS : Nat := 0x70004
def F.CFG_STATUS_STAGE : Fld := ⟨Rg.CFG_STATUS, 29, 3⟩
def F.CFG_STATUS_DONE : Fld := ⟨Rg.CFG_STATUS, 28, 1⟩
def F.CFG_STATUS_PARTIAL : Fld := ⟨Rg.CFG_STATUS, 27, 1⟩
def F.CFG_STATUS_CMDREJ : Fld := ⟨Rg.CFG_STATUS, 26, 1⟩
def F.CFG_STATUS_LASTSLOT : Fld := ⟨Rg.CFG_STATUS, 24, 2⟩
def F.CFG_STATUS_LASTHOST : Fld := ⟨Rg.CFG_STATUS, 23, 1⟩
def F.CFG_STATUS_REASON : Fld := ⟨Rg.CFG_STATUS, 8, 8⟩
def F.CFG_STATUS_ATTEMPTS : Fld := ⟨Rg.CFG_STATUS, 4, 4⟩
def F.CFG_STATUS_CURSLOT : Fld := ⟨Rg.CFG_STATUS, 0, 2⟩

/-- CFG_ERRINFO: 14_configuration_loading, Table 14-10. -/
def Rg.CFG_ERRINFO : Nat := 0x70008
def F.CFG_ERRINFO_INFO : Fld := ⟨Rg.CFG_ERRINFO, 0, 32⟩

/-- CFG_ERRWORD: 14_configuration_loading, Table 14-10. -/
def Rg.CFG_ERRWORD : Nat := 0x7000C
def F.CFG_ERRWORD_WORD : Fld := ⟨Rg.CFG_ERRWORD, 0, 32⟩

/-- CFG_IDCODE: 14_configuration_loading, Table 14-10. -/
def Rg.CFG_IDCODE : Nat := 0x70010
def F.CFG_IDCODE_IDCODE : Fld := ⟨Rg.CFG_IDCODE, 0, 32⟩

/-- CFG_FAR: 14_configuration_loading, Table 14-10. -/
def Rg.CFG_FAR : Nat := 0x70014
def F.CFG_FAR_FAR : Fld := ⟨Rg.CFG_FAR, 0, 32⟩

/-- CFG_OPT: 14_configuration_loading, Table 14-10. -/
def Rg.CFG_OPT : Nat := 0x70018
def F.CFG_OPT_IMGVER : Fld := ⟨Rg.CFG_OPT, 16, 16⟩
def F.CFG_OPT_TCLOSED : Fld := ⟨Rg.CFG_OPT, 0, 1⟩

/-- CFG_KEY: 14_configuration_loading, Table 14-10. -/
def Rg.CFG_KEY : Nat := 0x7001C
def F.CFG_KEY_VALID : Fld := ⟨Rg.CFG_KEY, 2, 1⟩
def F.CFG_KEY_SLOT : Fld := ⟨Rg.CFG_KEY, 0, 2⟩

/-- CFG_BOOT: 14_configuration_loading, Table 14-10. -/
def Rg.CFG_BOOT : Nat := 0x70020
def F.CFG_BOOT_FALLBACK : Fld := ⟨Rg.CFG_BOOT, 31, 1⟩
def F.CFG_BOOT_BOOTSEL : Fld := ⟨Rg.CFG_BOOT, 16, 2⟩
def F.CFG_BOOT_NEXT : Fld := ⟨Rg.CFG_BOOT, 2, 2⟩
def F.CFG_BOOT_FIRST : Fld := ⟨Rg.CFG_BOOT, 0, 2⟩

/-- CFG_HADDR_LO: 14_configuration_loading, Table 14-10. -/
def Rg.CFG_HADDR_LO : Nat := 0x70024
def F.CFG_HADDR_LO_ADDR : Fld := ⟨Rg.CFG_HADDR_LO, 6, 26⟩

/-- CFG_HADDR_HI: 14_configuration_loading, Table 14-10. -/
def Rg.CFG_HADDR_HI : Nat := 0x70028
def F.CFG_HADDR_HI_ADDRH : Fld := ⟨Rg.CFG_HADDR_HI, 0, 32⟩

/-- CFG_HLEN: 14_configuration_loading, Table 14-10. -/
def Rg.CFG_HLEN : Nat := 0x7002C
def F.CFG_HLEN_LEN : Fld := ⟨Rg.CFG_HLEN, 0, 32⟩

/-- CFG_FLCMD: 14_configuration_loading, Table 14-10. -/
def Rg.CFG_FLCMD : Nat := 0x70030
def F.CFG_FLCMD_OP : Fld := ⟨Rg.CFG_FLCMD, 28, 4⟩
def F.CFG_FLCMD_BUSY : Fld := ⟨Rg.CFG_FLCMD, 27, 1⟩
def F.CFG_FLCMD_FLDONE : Fld := ⟨Rg.CFG_FLCMD, 26, 1⟩
def F.CFG_FLCMD_FLERR : Fld := ⟨Rg.CFG_FLCMD, 24, 2⟩

/-- CFG_FLADDR: 14_configuration_loading, Table 14-10. -/
def Rg.CFG_FLADDR : Nat := 0x70034
def F.CFG_FLADDR_ADDR : Fld := ⟨Rg.CFG_FLADDR, 0, 30⟩

/-- CFG_PLAST: 15_partial_readback, Table 15-4. -/
def Rg.CFG_PLAST : Nat := 0x70038
def F.CFG_PLAST_IMGVER : Fld := ⟨Rg.CFG_PLAST, 16, 16⟩
def F.CFG_PLAST_LAYER : Fld := ⟨Rg.CFG_PLAST, 14, 2⟩
def F.CFG_PLAST_REGION : Fld := ⟨Rg.CFG_PLAST, 11, 3⟩
def F.CFG_PLAST_SETRESET : Fld := ⟨Rg.CFG_PLAST, 10, 1⟩
def F.CFG_PLAST_PROG : Fld := ⟨Rg.CFG_PLAST, 9, 1⟩
def F.CFG_PLAST_VALID : Fld := ⟨Rg.CFG_PLAST, 0, 1⟩

/-- CFG_GPSAFE: 14_configuration_loading, Table 14-10. -/
def Rg.CFG_GPSAFE (w : Nat) : Nat := 0x70040 + 0x4 * w
def F.CFG_GPSAFE_SAFE (w : Nat) : Fld := ⟨Rg.CFG_GPSAFE w, 0, 32⟩

/-- CFG_RBCMD: 15_partial_readback, Table 15-4. -/
def Rg.CFG_RBCMD : Nat := 0x70100
def F.CFG_RBCMD_OP : Fld := ⟨Rg.CFG_RBCMD, 28, 4⟩

/-- CFG_RBFAR: 15_partial_readback, Table 15-4. -/
def Rg.CFG_RBFAR : Nat := 0x70104
def F.CFG_RBFAR_FAR : Fld := ⟨Rg.CFG_RBFAR, 0, 32⟩

/-- CFG_RBCOUNT: 15_partial_readback, Table 15-4. -/
def Rg.CFG_RBCOUNT : Nat := 0x70108
def F.CFG_RBCOUNT_COUNT : Fld := ⟨Rg.CFG_RBCOUNT, 0, 16⟩

/-- CFG_RBHADDR_LO: 15_partial_readback, Table 15-4. -/
def Rg.CFG_RBHADDR_LO : Nat := 0x7010C
def F.CFG_RBHADDR_LO_ADDR : Fld := ⟨Rg.CFG_RBHADDR_LO, 4, 28⟩

/-- CFG_RBHADDR_HI: 15_partial_readback, Table 15-4. -/
def Rg.CFG_RBHADDR_HI : Nat := 0x70110
def F.CFG_RBHADDR_HI_ADDRH : Fld := ⟨Rg.CFG_RBHADDR_HI, 0, 32⟩

/-- CFG_RBSTAT: 15_partial_readback, Table 15-4. -/
def Rg.CFG_RBSTAT : Nat := 0x70114
def F.CFG_RBSTAT_BUSY : Fld := ⟨Rg.CFG_RBSTAT, 31, 1⟩
def F.CFG_RBSTAT_DONE : Fld := ⟨Rg.CFG_RBSTAT, 30, 1⟩
def F.CFG_RBSTAT_CMDREJ : Fld := ⟨Rg.CFG_RBSTAT, 29, 1⟩
def F.CFG_RBSTAT_ERR : Fld := ⟨Rg.CFG_RBSTAT, 26, 3⟩
def F.CFG_RBSTAT_FRAMES : Fld := ⟨Rg.CFG_RBSTAT, 0, 16⟩

/-- CFG_CAPCTL: 15_partial_readback, Table 15-4. -/
def Rg.CFG_CAPCTL : Nat := 0x70120
def F.CFG_CAPCTL_ARM : Fld := ⟨Rg.CFG_CAPCTL, 31, 1⟩
def F.CFG_CAPCTL_DISARM : Fld := ⟨Rg.CFG_CAPCTL, 30, 1⟩
def F.CFG_CAPCTL_LAYER : Fld := ⟨Rg.CFG_CAPCTL, 28, 2⟩
def F.CFG_CAPCTL_REGION : Fld := ⟨Rg.CFG_CAPCTL, 25, 3⟩
def F.CFG_CAPCTL_HORN : Fld := ⟨Rg.CFG_CAPCTL, 24, 1⟩
def F.CFG_CAPCTL_RELEASE : Fld := ⟨Rg.CFG_CAPCTL, 0, 4⟩

/-- CFG_CAPAT_LO: 15_partial_readback, Table 15-4. -/
def Rg.CFG_CAPAT_LO : Nat := 0x70124
def F.CFG_CAPAT_LO_AT : Fld := ⟨Rg.CFG_CAPAT_LO, 0, 32⟩

/-- CFG_CAPAT_HI: 15_partial_readback, Table 15-4. -/
def Rg.CFG_CAPAT_HI : Nat := 0x70128
def F.CFG_CAPAT_HI_HF : Fld := ⟨Rg.CFG_CAPAT_HI, 2, 7⟩
def F.CFG_CAPAT_HI_ATH : Fld := ⟨Rg.CFG_CAPAT_HI, 0, 2⟩

/-- CFG_CAPSTAT: 15_partial_readback, Table 15-4. -/
def Rg.CFG_CAPSTAT : Nat := 0x7012C
def F.CFG_CAPSTAT_ARMED : Fld := ⟨Rg.CFG_CAPSTAT, 31, 1⟩
def F.CFG_CAPSTAT_ARMERR : Fld := ⟨Rg.CFG_CAPSTAT, 30, 1⟩
def F.CFG_CAPSTAT_MISSED : Fld := ⟨Rg.CFG_CAPSTAT, 29, 1⟩
def F.CFG_CAPSTAT_HELD : Fld := ⟨Rg.CFG_CAPSTAT, 0, 4⟩

/-- CFG_CAP_LO: 15_partial_readback, Table 15-4. -/
def Rg.CFG_CAP_LO (k : Nat) : Nat := 0x70140 + 0x8 * k
def F.CFG_CAP_LO_AT (k : Nat) : Fld := ⟨Rg.CFG_CAP_LO k, 0, 32⟩

/-- CFG_CAP_HI: 15_partial_readback, Table 15-4. -/
def Rg.CFG_CAP_HI (k : Nat) : Nat := 0x70144 + 0x8 * k
def F.CFG_CAP_HI_HFN (k : Nat) : Fld := ⟨Rg.CFG_CAP_HI k, 16, 16⟩
def F.CFG_CAP_HI_SRC (k : Nat) : Fld := ⟨Rg.CFG_CAP_HI k, 15, 1⟩
def F.CFG_CAP_HI_HORN (k : Nat) : Fld := ⟨Rg.CFG_CAP_HI k, 14, 1⟩
def F.CFG_CAP_HI_REGION (k : Nat) : Fld := ⟨Rg.CFG_CAP_HI k, 11, 3⟩
def F.CFG_CAP_HI_PLANE (k : Nat) : Fld := ⟨Rg.CFG_CAP_HI k, 9, 2⟩
def F.CFG_CAP_HI_OVR (k : Nat) : Fld := ⟨Rg.CFG_CAP_HI k, 8, 1⟩
def F.CFG_CAP_HI_OVRENT (k : Nat) : Fld := ⟨Rg.CFG_CAP_HI k, 6, 2⟩
def F.CFG_CAP_HI_ATH (k : Nat) : Fld := ⟨Rg.CFG_CAP_HI k, 0, 2⟩

/-- CFG_RMAP: 04_contexts, Table 4-8. -/
def Rg.CFG_RMAP (k : Nat) (w : Nat) : Nat := 0x72000 + 0x20 * k + 0x4 * w
def F.CFG_RMAP_TILES (k : Nat) (w : Nat) : Fld := ⟨Rg.CFG_RMAP k w, 0, 32⟩

/-- CFG_LR_PLN: 04_contexts, Table 4-9. -/
def Rg.CFG_LR_PLN (k : Nat) (j : Nat) : Nat := 0x72100 + 0x20 * k + 0x4 * j
def F.CFG_LR_PLN_HELD (k : Nat) (j : Nat) : Fld := ⟨Rg.CFG_LR_PLN k j, 31, 1⟩
def F.CFG_LR_PLN_CUR (k : Nat) (j : Nat) : Fld := ⟨Rg.CFG_LR_PLN k j, 28, 2⟩
def F.CFG_LR_PLN_STATE3 (k : Nat) (j : Nat) : Fld := ⟨Rg.CFG_LR_PLN k j, 26, 2⟩
def F.CFG_LR_PLN_SLOT3 (k : Nat) (j : Nat) : Fld := ⟨Rg.CFG_LR_PLN k j, 21, 5⟩
def F.CFG_LR_PLN_STATE2 (k : Nat) (j : Nat) : Fld := ⟨Rg.CFG_LR_PLN k j, 19, 2⟩
def F.CFG_LR_PLN_SLOT2 (k : Nat) (j : Nat) : Fld := ⟨Rg.CFG_LR_PLN k j, 14, 5⟩
def F.CFG_LR_PLN_STATE1 (k : Nat) (j : Nat) : Fld := ⟨Rg.CFG_LR_PLN k j, 12, 2⟩
def F.CFG_LR_PLN_SLOT1 (k : Nat) (j : Nat) : Fld := ⟨Rg.CFG_LR_PLN k j, 7, 5⟩
def F.CFG_LR_PLN_STATE0 (k : Nat) (j : Nat) : Fld := ⟨Rg.CFG_LR_PLN k j, 5, 2⟩
def F.CFG_LR_PLN_SLOT0 (k : Nat) (j : Nat) : Fld := ⟨Rg.CFG_LR_PLN k j, 0, 5⟩

/-- CFG_LR_SLOTV: 04_contexts, Table 4-10. -/
def Rg.CFG_LR_SLOTV (k : Nat) (j : Nat) : Nat := 0x72200 + 0x20 * k + 0x4 * j
def F.CFG_LR_SLOTV_VALID (k : Nat) (j : Nat) : Fld := ⟨Rg.CFG_LR_SLOTV k j, 0, 32⟩

/-- CFG_LR_SLOTU: 04_contexts, Table 4-10. -/
def Rg.CFG_LR_SLOTU (k : Nat) (j : Nat) : Nat := 0x72300 + 0x20 * k + 0x4 * j
def F.CFG_LR_SLOTU_UNRUN (k : Nat) (j : Nat) : Fld := ⟨Rg.CFG_LR_SLOTU k j, 0, 32⟩

/-- CFG_LR_CNT: 04_contexts, Table 4-11. -/
def Rg.CFG_LR_CNT (k : Nat) (j : Nat) : Nat := 0x72400 + 0x20 * k + 0x4 * j
def F.CFG_LR_CNT_STALLS (k : Nat) (j : Nat) : Fld := ⟨Rg.CFG_LR_CNT k j, 16, 16⟩
def F.CFG_LR_CNT_SWITCHES (k : Nat) (j : Nat) : Fld := ⟨Rg.CFG_LR_CNT k j, 0, 16⟩

/-- CFG_BRW: 04_contexts, Table 4-12. -/
def Rg.CFG_BRW (k : Nat) : Nat := 0x72500 + 0x4 * k
def F.CFG_BRW_LATE (k : Nat) : Fld := ⟨Rg.CFG_BRW k, 31, 1⟩
def F.CFG_BRW_PASSES (k : Nat) : Fld := ⟨Rg.CFG_BRW k, 0, 16⟩

/-- TL_CTL: 08_air_time, Table 8-5. -/
def Rg.TL_CTL : Nat := 0x80000
def F.TL_CTL_RELTO : Fld := ⟨Rg.TL_CTL, 8, 8⟩
def F.TL_CTL_RELMODE : Fld := ⟨Rg.TL_CTL, 3, 2⟩
def F.TL_CTL_REBASE : Fld := ⟨Rg.TL_CTL, 1, 1⟩
def F.TL_CTL_RELEASE : Fld := ⟨Rg.TL_CTL, 0, 1⟩

/-- TL_STATUS: 08_air_time, Table 8-5. -/
def Rg.TL_STATUS : Nat := 0x80004
def F.TL_STATUS_RELEASED : Fld := ⟨Rg.TL_STATUS, 31, 1⟩
def F.TL_STATUS_TKSTATE : Fld := ⟨Rg.TL_STATUS, 29, 2⟩
def F.TL_STATUS_DEGRADED : Fld := ⟨Rg.TL_STATUS, 28, 1⟩
def F.TL_STATUS_SLEWING : Fld := ⟨Rg.TL_STATUS, 27, 1⟩
def F.TL_STATUS_REBASEREJ : Fld := ⟨Rg.TL_STATUS, 26, 1⟩
def F.TL_STATUS_EPOCH : Fld := ⟨Rg.TL_STATUS, 16, 8⟩
def F.TL_STATUS_HFN : Fld := ⟨Rg.TL_STATUS, 0, 16⟩

/-- TL_AT_LO: 08_air_time, Table 8-6. -/
def Rg.TL_AT_LO : Nat := 0x80008
def F.TL_AT_LO_AT : Fld := ⟨Rg.TL_AT_LO, 0, 32⟩

/-- TL_AT_HI: 08_air_time, Table 8-6. -/
def Rg.TL_AT_HI : Nat := 0x8000C
def F.TL_AT_HI_HFN : Fld := ⟨Rg.TL_AT_HI, 16, 16⟩
def F.TL_AT_HI_ATH : Fld := ⟨Rg.TL_AT_HI, 0, 2⟩

/-- TL_OFFSET_LO: 08_air_time, Table 8-6. -/
def Rg.TL_OFFSET_LO : Nat := 0x80010
def F.TL_OFFSET_LO_OFS : Fld := ⟨Rg.TL_OFFSET_LO, 0, 32⟩

/-- TL_OFFSET_HI: 08_air_time, Table 8-6. -/
def Rg.TL_OFFSET_HI : Nat := 0x80014
def F.TL_OFFSET_HI_OFSH : Fld := ⟨Rg.TL_OFFSET_HI, 0, 2⟩

/-- TL_TEE: 08_air_time, Table 8-6. -/
def Rg.TL_TEE : Nat := 0x80018
def F.TL_TEE_TEE : Fld := ⟨Rg.TL_TEE, 0, 32⟩

/-- TL_FREQ: 08_air_time, Table 8-6. -/
def Rg.TL_FREQ : Nat := 0x8001C
def F.TL_FREQ_FOFS : Fld := ⟨Rg.TL_FREQ, 0, 32⟩

/-- TL_PPSCFG: 08_air_time, Table 8-6. -/
def Rg.TL_PPSCFG : Nat := 0x80020
def F.TL_PPSCFG_EN : Fld := ⟨Rg.TL_PPSCFG, 31, 1⟩
def F.TL_PPSCFG_QUAL : Fld := ⟨Rg.TL_PPSCFG, 30, 1⟩
def F.TL_PPSCFG_WIDTH : Fld := ⟨Rg.TL_PPSCFG, 0, 27⟩

/-- TL_DEPCFG: 08_air_time, Table 8-7. -/
def Rg.TL_DEPCFG : Nat := 0x80024
def F.TL_DEPCFG_EN : Fld := ⟨Rg.TL_DEPCFG, 31, 1⟩
def F.TL_DEPCFG_LATEACT : Fld := ⟨Rg.TL_DEPCFG, 30, 1⟩
def F.TL_DEPCFG_LATETOL : Fld := ⟨Rg.TL_DEPCFG, 0, 16⟩

/-- TL_DEPCNT: 08_air_time, Table 8-7. -/
def Rg.TL_DEPCNT : Nat := 0x80028
def F.TL_DEPCNT_DROP : Fld := ⟨Rg.TL_DEPCNT, 16, 16⟩
def F.TL_DEPCNT_LATE : Fld := ⟨Rg.TL_DEPCNT, 0, 16⟩

/-- TL_COPY: 08_air_time, Table 8-7. -/
def Rg.TL_COPY : Nat := 0x8002C
def F.TL_COPY_FAIL : Fld := ⟨Rg.TL_COPY, 16, 5⟩
def F.TL_COPY_CORR : Fld := ⟨Rg.TL_COPY, 0, 16⟩

/-- TL_SYSCTL: 08_air_time, Table 8-7. -/
def Rg.TL_SYSCTL (i : Nat) : Nat := 0x80040 + 0x10 * i
def F.TL_SYSCTL_EN (i : Nat) : Fld := ⟨Rg.TL_SYSCTL i, 31, 1⟩
def F.TL_SYSCTL_NSHOT (i : Nat) : Fld := ⟨Rg.TL_SYSCTL i, 30, 1⟩
def F.TL_SYSCTL_CFGERR (i : Nat) : Fld := ⟨Rg.TL_SYSCTL i, 29, 1⟩
def F.TL_SYSCTL_ACTIVE (i : Nat) : Fld := ⟨Rg.TL_SYSCTL i, 28, 1⟩
def F.TL_SYSCTL_COUNT (i : Nat) : Fld := ⟨Rg.TL_SYSCTL i, 16, 8⟩
def F.TL_SYSCTL_WIDTH (i : Nat) : Fld := ⟨Rg.TL_SYSCTL i, 0, 16⟩

/-- TL_SYSPER: 08_air_time, Table 8-7. -/
def Rg.TL_SYSPER (i : Nat) : Nat := 0x80044 + 0x10 * i
def F.TL_SYSPER_PERIOD (i : Nat) : Fld := ⟨Rg.TL_SYSPER i, 0, 32⟩

/-- TL_SYSOFS: 08_air_time, Table 8-7. -/
def Rg.TL_SYSOFS (i : Nat) : Nat := 0x80048 + 0x10 * i
def F.TL_SYSOFS_OFFSET (i : Nat) : Fld := ⟨Rg.TL_SYSOFS i, 0, 32⟩

/-- TK_STATE: 09_rinom_timekeeper, Table 9-8. -/
def Rg.TK_STATE : Nat := 0x90000
def F.TK_STATE_STATE : Fld := ⟨Rg.TK_STATE, 30, 2⟩
def F.TK_STATE_REFSEL : Fld := ⟨Rg.TK_STATE, 27, 3⟩
def F.TK_STATE_MODELST : Fld := ⟨Rg.TK_STATE, 25, 2⟩
def F.TK_STATE_ASSIST : Fld := ⟨Rg.TK_STATE, 24, 1⟩
def F.TK_STATE_FORCEH : Fld := ⟨Rg.TK_STATE, 23, 1⟩
def F.TK_STATE_FORCEF : Fld := ⟨Rg.TK_STATE, 22, 1⟩
def F.TK_STATE_EXTRAP : Fld := ⟨Rg.TK_STATE, 21, 1⟩
def F.TK_STATE_RESTART : Fld := ⟨Rg.TK_STATE, 20, 1⟩
def F.TK_STATE_ATOFF : Fld := ⟨Rg.TK_STATE, 19, 1⟩
def F.TK_STATE_SLEW : Fld := ⟨Rg.TK_STATE, 18, 1⟩
def F.TK_STATE_FREQSEL : Fld := ⟨Rg.TK_STATE, 16, 2⟩
def F.TK_STATE_STATETIME : Fld := ⟨Rg.TK_STATE, 0, 16⟩

/-- TK_INSTAT: 09_rinom_timekeeper, Table 9-8. -/
def Rg.TK_INSTAT : Nat := 0x90004
def F.TK_INSTAT_IN3 : Fld := ⟨Rg.TK_INSTAT, 24, 8⟩
def F.TK_INSTAT_IN2 : Fld := ⟨Rg.TK_INSTAT, 16, 8⟩
def F.TK_INSTAT_IN1 : Fld := ⟨Rg.TK_INSTAT, 8, 8⟩
def F.TK_INSTAT_IN0 : Fld := ⟨Rg.TK_INSTAT, 0, 8⟩

/-- TK_TEEBOUND: 09_rinom_timekeeper, Table 9-9. -/
def Rg.TK_TEEBOUND : Nat := 0x90008
def F.TK_TEEBOUND_BOUND : Fld := ⟨Rg.TK_TEEBOUND, 0, 32⟩

/-- TK_HOLDTIME: 09_rinom_timekeeper, Table 9-9. -/
def Rg.TK_HOLDTIME : Nat := 0x9000C
def F.TK_HOLDTIME_SEC : Fld := ⟨Rg.TK_HOLDTIME, 0, 32⟩

/-- TK_MODEL: 09_rinom_timekeeper, Table 9-9. -/
def Rg.TK_MODEL : Nat := 0x90010
def F.TK_MODEL_STALE : Fld := ⟨Rg.TK_MODEL, 31, 1⟩
def F.TK_MODEL_BINS : Fld := ⟨Rg.TK_MODEL, 16, 8⟩
def F.TK_MODEL_CALCNT : Fld := ⟨Rg.TK_MODEL, 0, 16⟩

/-- TK_CALTIME: 09_rinom_timekeeper, Table 9-9. -/
def Rg.TK_CALTIME : Nat := 0x90014
def F.TK_CALTIME_OPTIME : Fld := ⟨Rg.TK_CALTIME, 0, 32⟩

/-- TK_WALL_LO: 09_rinom_timekeeper, Table 9-9. -/
def Rg.TK_WALL_LO : Nat := 0x90018
def F.TK_WALL_LO_SEC : Fld := ⟨Rg.TK_WALL_LO, 0, 32⟩

/-- TK_WALL_HI: 09_rinom_timekeeper, Table 9-9. -/
def Rg.TK_WALL_HI : Nat := 0x9001C
def F.TK_WALL_HI_SECH : Fld := ⟨Rg.TK_WALL_HI, 0, 16⟩

/-- TK_UTC: 09_rinom_timekeeper, Table 9-9. -/
def Rg.TK_UTC : Nat := 0x90020
def F.TK_UTC_LEAP61 : Fld := ⟨Rg.TK_UTC, 17, 1⟩
def F.TK_UTC_LEAP59 : Fld := ⟨Rg.TK_UTC, 16, 1⟩
def F.TK_UTC_UTCOFS : Fld := ⟨Rg.TK_UTC, 0, 16⟩

/-- TK_TEMP: 09_rinom_timekeeper, Table 9-9. -/
def Rg.TK_TEMP : Nat := 0x90024
def F.TK_TEMP_STALE : Fld := ⟨Rg.TK_TEMP, 31, 1⟩
def F.TK_TEMP_TEMP : Fld := ⟨Rg.TK_TEMP, 0, 16⟩

/-- TK_LEARN: 09_rinom_timekeeper, Table 9-9. -/
def Rg.TK_LEARN : Nat := 0x90028
def F.TK_LEARN_OPTIME : Fld := ⟨Rg.TK_LEARN, 0, 32⟩

/-- TK_MBCMD: 09_rinom_timekeeper, Table 9-10. -/
def Rg.TK_MBCMD : Nat := 0x90040
def F.TK_MBCMD_GO : Fld := ⟨Rg.TK_MBCMD, 31, 1⟩
def F.TK_MBCMD_LEN : Fld := ⟨Rg.TK_MBCMD, 16, 12⟩
def F.TK_MBCMD_CMD : Fld := ⟨Rg.TK_MBCMD, 0, 8⟩

/-- TK_MBSTAT: 09_rinom_timekeeper, Table 9-10. -/
def Rg.TK_MBSTAT : Nat := 0x90044
def F.TK_MBSTAT_BUSY : Fld := ⟨Rg.TK_MBSTAT, 31, 1⟩
def F.TK_MBSTAT_DONE : Fld := ⟨Rg.TK_MBSTAT, 30, 1⟩
def F.TK_MBSTAT_OVR : Fld := ⟨Rg.TK_MBSTAT, 29, 1⟩
def F.TK_MBSTAT_STATUS : Fld := ⟨Rg.TK_MBSTAT, 16, 8⟩
def F.TK_MBSTAT_RLEN : Fld := ⟨Rg.TK_MBSTAT, 0, 12⟩

/-- TK_MBDATA: 09_rinom_timekeeper, Table 9-10. -/
def Rg.TK_MBDATA (i : Nat) : Nat := 0x90800 + 0x4 * i
def F.TK_MBDATA_DATA (i : Nat) : Fld := ⟨Rg.TK_MBDATA i, 0, 32⟩

/-- FH_PORT_CFG: 18_external_interfaces, Table 18-5. -/
def Rg.FH_PORT_CFG (p : Nat) : Nat := 0xA0000 + 0x20 * p
def F.FH_PORT_CFG_EN (p : Nat) : Fld := ⟨Rg.FH_PORT_CFG p, 31, 1⟩
def F.FH_PORT_CFG_NOFEC (p : Nat) : Fld := ⟨Rg.FH_PORT_CFG p, 30, 1⟩
def F.FH_PORT_CFG_MAXLEN (p : Nat) : Fld := ⟨Rg.FH_PORT_CFG p, 4, 14⟩
def F.FH_PORT_CFG_MODE (p : Nat) : Fld := ⟨Rg.FH_PORT_CFG p, 0, 4⟩

/-- FH_PORT_STAT: 18_external_interfaces, Table 18-5. -/
def Rg.FH_PORT_STAT (p : Nat) : Nat := 0xA0004 + 0x20 * p
def F.FH_PORT_STAT_UP (p : Nat) : Fld := ⟨Rg.FH_PORT_STAT p, 31, 1⟩
def F.FH_PORT_STAT_CFGERR (p : Nat) : Fld := ⟨Rg.FH_PORT_STAT p, 30, 1⟩
def F.FH_PORT_STAT_TIMDISC (p : Nat) : Fld := ⟨Rg.FH_PORT_STAT p, 0, 16⟩

/-- FH_PORT_RXERR: 18_external_interfaces, Table 18-5. -/
def Rg.FH_PORT_RXERR (p : Nat) : Nat := 0xA0008 + 0x20 * p
def F.FH_PORT_RXERR_FCS (p : Nat) : Fld := ⟨Rg.FH_PORT_RXERR p, 16, 16⟩
def F.FH_PORT_RXERR_OTHER (p : Nat) : Fld := ⟨Rg.FH_PORT_RXERR p, 0, 16⟩

/-- FH_TMPL_W0: 18_external_interfaces, Table 18-5. -/
def Rg.FH_TMPL_W0 (t : Nat) : Nat := 0xA4000 + 0x10 * t
def F.FH_TMPL_W0_DA (t : Nat) : Fld := ⟨Rg.FH_TMPL_W0 t, 0, 32⟩

/-- FH_TMPL_W1: 18_external_interfaces, Table 18-5. -/
def Rg.FH_TMPL_W1 (t : Nat) : Nat := 0xA4004 + 0x10 * t
def F.FH_TMPL_W1_SA (t : Nat) : Fld := ⟨Rg.FH_TMPL_W1 t, 16, 16⟩
def F.FH_TMPL_W1_DAH (t : Nat) : Fld := ⟨Rg.FH_TMPL_W1 t, 0, 16⟩

/-- FH_TMPL_W2: 18_external_interfaces, Table 18-5. -/
def Rg.FH_TMPL_W2 (t : Nat) : Nat := 0xA4008 + 0x10 * t
def F.FH_TMPL_W2_SAH (t : Nat) : Fld := ⟨Rg.FH_TMPL_W2 t, 0, 32⟩

/-- FH_TMPL_W3: 18_external_interfaces, Table 18-5. -/
def Rg.FH_TMPL_W3 (t : Nat) : Nat := 0xA400C + 0x10 * t
def F.FH_TMPL_W3_TAG (t : Nat) : Fld := ⟨Rg.FH_TMPL_W3 t, 16, 1⟩
def F.FH_TMPL_W3_TCI (t : Nat) : Fld := ⟨Rg.FH_TMPL_W3 t, 0, 16⟩

/-- FH_LAG: 18_external_interfaces, Table 18-5. -/
def Rg.FH_LAG (g : Nat) : Nat := 0xA6000 + 0x4 * g
def F.FH_LAG_EN (g : Nat) : Fld := ⟨Rg.FH_LAG g, 31, 1⟩
def F.FH_LAG_LOST (g : Nat) : Fld := ⟨Rg.FH_LAG g, 24, 7⟩
def F.FH_LAG_ACTIVE (g : Nat) : Fld := ⟨Rg.FH_LAG g, 16, 8⟩

/-- FH_LAG_MEMBERS: 18_external_interfaces, Table 18-5. -/
def Rg.FH_LAG_MEMBERS (g : Nat) : Nat := 0xA6020 + 0x4 * g
def F.FH_LAG_MEMBERS_MEMBERS (g : Nat) : Fld := ⟨Rg.FH_LAG_MEMBERS g, 0, 32⟩

/-- JESD_LINK_CFG: 18_external_interfaces, Table 18-5. -/
def Rg.JESD_LINK_CFG (k : Nat) : Nat := 0xA7000 + 0x10 * k
def F.JESD_LINK_CFG_EN (k : Nat) : Fld := ⟨Rg.JESD_LINK_CFG k, 31, 1⟩
def F.JESD_LINK_CFG_TX (k : Nat) : Fld := ⟨Rg.JESD_LINK_CFG k, 30, 1⟩
def F.JESD_LINK_CFG_SYSSEL (k : Nat) : Fld := ⟨Rg.JESD_LINK_CFG k, 28, 2⟩
def F.JESD_LINK_CFG_LOG2L (k : Nat) : Fld := ⟨Rg.JESD_LINK_CFG k, 26, 2⟩
def F.JESD_LINK_CFG_RATE (k : Nat) : Fld := ⟨Rg.JESD_LINK_CFG k, 21, 5⟩
def F.JESD_LINK_CFG_MM1 (k : Nat) : Fld := ⟨Rg.JESD_LINK_CFG k, 17, 4⟩
def F.JESD_LINK_CFG_SM1 (k : Nat) : Fld := ⟨Rg.JESD_LINK_CFG k, 15, 2⟩
def F.JESD_LINK_CFG_QUEUE (k : Nat) : Fld := ⟨Rg.JESD_LINK_CFG k, 0, 15⟩

/-- JESD_LINK_CFG2: 18_external_interfaces, Table 18-5. -/
def Rg.JESD_LINK_CFG2 (k : Nat) : Nat := 0xA7004 + 0x10 * k
def F.JESD_LINK_CFG2_EM1 (k : Nat) : Fld := ⟨Rg.JESD_LINK_CFG2 k, 28, 4⟩
def F.JESD_LINK_CFG2_RBD (k : Nat) : Fld := ⟨Rg.JESD_LINK_CFG2 k, 16, 12⟩
def F.JESD_LINK_CFG2_LEMCOFS (k : Nat) : Fld := ⟨Rg.JESD_LINK_CFG2 k, 0, 16⟩

/-- JESD_LINK_STAT: 18_external_interfaces, Table 18-5. -/
def Rg.JESD_LINK_STAT (k : Nat) : Nat := 0xA7008 + 0x10 * k
def F.JESD_LINK_STAT_UP (k : Nat) : Fld := ⟨Rg.JESD_LINK_STAT k, 31, 1⟩
def F.JESD_LINK_STAT_CFGERR (k : Nat) : Fld := ⟨Rg.JESD_LINK_STAT k, 30, 1⟩
def F.JESD_LINK_STAT_DROP (k : Nat) : Fld := ⟨Rg.JESD_LINK_STAT k, 10, 10⟩
def F.JESD_LINK_STAT_UNDERRUN (k : Nat) : Fld := ⟨Rg.JESD_LINK_STAT k, 0, 10⟩

/-- FH_FTDATA0: 11_queues, Table 11-12. -/
def Rg.FH_FTDATA0 : Nat := 0xAF000
def F.FH_FTDATA0_VALID : Fld := ⟨Rg.FH_FTDATA0, 31, 1⟩
def F.FH_FTDATA0_PORT : Fld := ⟨Rg.FH_FTDATA0, 25, 5⟩
def F.FH_FTDATA0_VLAN : Fld := ⟨Rg.FH_FTDATA0, 13, 12⟩
def F.FH_FTDATA0_MSGTYPE : Fld := ⟨Rg.FH_FTDATA0, 5, 8⟩

/-- FH_FTDATA1: 11_queues, Table 11-12. -/
def Rg.FH_FTDATA1 : Nat := 0xAF004
def F.FH_FTDATA1_PCMASK : Fld := ⟨Rg.FH_FTDATA1, 16, 16⟩
def F.FH_FTDATA1_PCID : Fld := ⟨Rg.FH_FTDATA1, 0, 16⟩

/-- FH_FTDATA2: 11_queues, Table 11-12. -/
def Rg.FH_FTDATA2 : Nat := 0xAF008
def F.FH_FTDATA2_QUEUE : Fld := ⟨Rg.FH_FTDATA2, 0, 15⟩

/-- FH_FTCMD: 11_queues, Table 11-12. -/
def Rg.FH_FTCMD : Nat := 0xAF00C
def F.FH_FTCMD_WRITE : Fld := ⟨Rg.FH_FTCMD, 31, 1⟩
def F.FH_FTCMD_READ : Fld := ⟨Rg.FH_FTCMD, 30, 1⟩
def F.FH_FTCMD_INDEX : Fld := ⟨Rg.FH_FTCMD, 0, 13⟩

/-- FH_FTCNT: 11_queues, Table 11-12. -/
def Rg.FH_FTCNT : Nat := 0xAF010
def F.FH_FTCNT_VALID : Fld := ⟨Rg.FH_FTCNT, 0, 14⟩

/-- FH_UMQ: 11_queues, Table 11-12. -/
def Rg.FH_UMQ (p : Nat) : Nat := 0xAF100 + 0x4 * p
def F.FH_UMQ_EN (p : Nat) : Fld := ⟨Rg.FH_UMQ p, 31, 1⟩
def F.FH_UMQ_QUEUE (p : Nat) : Fld := ⟨Rg.FH_UMQ p, 0, 15⟩

/-- FH_UMCNT: 11_queues, Table 11-12. -/
def Rg.FH_UMCNT (p : Nat) : Nat := 0xAF180 + 0x4 * p
def F.FH_UMCNT_DROP (p : Nat) : Fld := ⟨Rg.FH_UMCNT p, 16, 16⟩
def F.FH_UMCNT_UNMATCHED (p : Nat) : Fld := ⟨Rg.FH_UMCNT p, 0, 16⟩

/-- SDS_LANE_CFG: 18_external_interfaces, Table 18-5. -/
def Rg.SDS_LANE_CFG (p : Nat) : Nat := 0xB0000 + 0x20 * p
def F.SDS_LANE_CFG_RXPOL (p : Nat) : Fld := ⟨Rg.SDS_LANE_CFG p, 1, 1⟩
def F.SDS_LANE_CFG_TXPOL (p : Nat) : Fld := ⟨Rg.SDS_LANE_CFG p, 0, 1⟩

/-- SDS_LANE_EYE: 19_calibration, Table 19-4. -/
def Rg.SDS_LANE_EYE (p : Nat) : Nat := 0xB0004 + 0x20 * p
def F.SDS_LANE_EYE_STALE (p : Nat) : Fld := ⟨Rg.SDS_LANE_EYE p, 31, 1⟩
def F.SDS_LANE_EYE_VALID (p : Nat) : Fld := ⟨Rg.SDS_LANE_EYE p, 30, 1⟩
def F.SDS_LANE_EYE_WIDTH (p : Nat) : Fld := ⟨Rg.SDS_LANE_EYE p, 16, 7⟩
def F.SDS_LANE_EYE_HEIGHT (p : Nat) : Fld := ⟨Rg.SDS_LANE_EYE p, 0, 10⟩

/-- SDS_LANE_CAL: 19_calibration, Table 19-4. -/
def Rg.SDS_LANE_CAL (p : Nat) : Nat := 0xB0008 + 0x20 * p
def F.SDS_LANE_CAL_RUN (p : Nat) : Fld := ⟨Rg.SDS_LANE_CAL p, 31, 1⟩
def F.SDS_LANE_CAL_BUSY (p : Nat) : Fld := ⟨Rg.SDS_LANE_CAL p, 30, 1⟩
def F.SDS_LANE_CAL_CMDREJ (p : Nat) : Fld := ⟨Rg.SDS_LANE_CAL p, 29, 1⟩
def F.SDS_LANE_CAL_COUNT (p : Nat) : Fld := ⟨Rg.SDS_LANE_CAL p, 0, 16⟩

/-- SDS_LANE_CALT: 19_calibration, Table 19-4. -/
def Rg.SDS_LANE_CALT (p : Nat) : Nat := 0xB000C + 0x20 * p
def F.SDS_LANE_CALT_OPTIME (p : Nat) : Fld := ⟨Rg.SDS_LANE_CALT p, 0, 32⟩

/-- SDS_CALCFG: 19_calibration, Table 19-4. -/
def Rg.SDS_CALCFG : Nat := 0xB0400
def F.SDS_CALCFG_MINW : Fld := ⟨Rg.SDS_CALCFG, 16, 7⟩
def F.SDS_CALCFG_MINH : Fld := ⟨Rg.SDS_CALCFG, 0, 10⟩

/-- DDR_CFG: 18_external_interfaces, Table 18-6. -/
def Rg.DDR_CFG : Nat := 0xC0000
def F.DDR_CFG_RATE : Fld := ⟨Rg.DDR_CFG, 4, 2⟩
def F.DDR_CFG_DENS : Fld := ⟨Rg.DDR_CFG, 2, 2⟩
def F.DDR_CFG_NCH : Fld := ⟨Rg.DDR_CFG, 0, 2⟩

/-- DDR_CH_STAT: 18_external_interfaces, Table 18-6. -/
def Rg.DDR_CH_STAT (n : Nat) : Nat := 0xC0100 + 0x4 * n
def F.DDR_CH_STAT_TRAINED (n : Nat) : Fld := ⟨Rg.DDR_CH_STAT n, 31, 1⟩
def F.DDR_CH_STAT_SELFREF (n : Nat) : Fld := ⟨Rg.DDR_CH_STAT n, 30, 1⟩
def F.DDR_CH_STAT_REFX (n : Nat) : Fld := ⟨Rg.DDR_CH_STAT n, 27, 3⟩
def F.DDR_CH_STAT_RETRAINS (n : Nat) : Fld := ⟨Rg.DDR_CH_STAT n, 0, 16⟩

/-- MEM_CMO: 10_memory_layer, Table 10-5. -/
def Rg.MEM_CMO : Nat := 0xD0000
def F.MEM_CMO_GO : Fld := ⟨Rg.MEM_CMO, 31, 1⟩
def F.MEM_CMO_BUSY : Fld := ⟨Rg.MEM_CMO, 30, 1⟩
def F.MEM_CMO_DONE : Fld := ⟨Rg.MEM_CMO, 29, 1⟩
def F.MEM_CMO_OP : Fld := ⟨Rg.MEM_CMO, 0, 2⟩

/-- MEM_WAYMASK: 10_memory_layer, Table 10-5. -/
def Rg.MEM_WAYMASK (m : Nat) : Nat := 0xD0010 + 0x4 * m
def F.MEM_WAYMASK_WAYS (m : Nat) : Fld := ⟨Rg.MEM_WAYMASK m, 0, 16⟩

/-- MEM_SLICE_STAT: 10_memory_layer, Table 10-5. -/
def Rg.MEM_SLICE_STAT (s : Nat) : Nat := 0xD0040 + 0x4 * s
def F.MEM_SLICE_STAT_MISSES (s : Nat) : Fld := ⟨Rg.MEM_SLICE_STAT s, 16, 16⟩
def F.MEM_SLICE_STAT_HITS (s : Nat) : Fld := ⟨Rg.MEM_SLICE_STAT s, 0, 16⟩

/-- MEM_BANK_CFG: 10_memory_layer, Table 10-6. -/
def Rg.MEM_BANK_CFG (n : Nat) : Nat := 0xD0100 + 0x4 * n
def F.MEM_BANK_CFG_CLEAR (n : Nat) : Fld := ⟨Rg.MEM_BANK_CFG n, 31, 1⟩
def F.MEM_BANK_CFG_COLLEV (n : Nat) : Fld := ⟨Rg.MEM_BANK_CFG n, 5, 1⟩
def F.MEM_BANK_CFG_ECCMODE (n : Nat) : Fld := ⟨Rg.MEM_BANK_CFG n, 4, 1⟩
def F.MEM_BANK_CFG_OWNER (n : Nat) : Fld := ⟨Rg.MEM_BANK_CFG n, 0, 3⟩

/-- MEM_BANK_STAT: 10_memory_layer, Table 10-6. -/
def Rg.MEM_BANK_STAT (n : Nat) : Nat := 0xD0180 + 0x4 * n
def F.MEM_BANK_STAT_OWNPEND (n : Nat) : Fld := ⟨Rg.MEM_BANK_STAT n, 31, 1⟩
def F.MEM_BANK_STAT_CUROWNER (n : Nat) : Fld := ⟨Rg.MEM_BANK_STAT n, 28, 3⟩
def F.MEM_BANK_STAT_COLLCNT (n : Nat) : Fld := ⟨Rg.MEM_BANK_STAT n, 0, 16⟩

/-- MEM_COLLAST: 10_memory_layer, Table 10-7. -/
def Rg.MEM_COLLAST : Nat := 0xD0200
def F.MEM_COLLAST_BANK : Fld := ⟨Rg.MEM_COLLAST, 27, 5⟩
def F.MEM_COLLAST_WORD : Fld := ⟨Rg.MEM_COLLAST, 7, 20⟩
def F.MEM_COLLAST_BSRC : Fld := ⟨Rg.MEM_COLLAST, 4, 3⟩
def F.MEM_COLLAST_VALID : Fld := ⟨Rg.MEM_COLLAST, 0, 1⟩

/-- MEM_DENLAST: 10_memory_layer, Table 10-7. -/
def Rg.MEM_DENLAST : Nat := 0xD0204
def F.MEM_DENLAST_MASTER : Fld := ⟨Rg.MEM_DENLAST, 29, 3⟩
def F.MEM_DENLAST_PORT : Fld := ⟨Rg.MEM_DENLAST, 23, 6⟩
def F.MEM_DENLAST_ADDR : Fld := ⟨Rg.MEM_DENLAST, 3, 20⟩
def F.MEM_DENLAST_REASON : Fld := ⟨Rg.MEM_DENLAST, 1, 2⟩
def F.MEM_DENLAST_VALID : Fld := ⟨Rg.MEM_DENLAST, 0, 1⟩

/-- ECC_MODE: 12_ecc_repair, Table 12-8. -/
def Rg.ECC_MODE : Nat := 0xE0000
def F.ECC_MODE_CFGL : Fld := ⟨Rg.ECC_MODE, 16, 4⟩
def F.ECC_MODE_SLICE : Fld := ⟨Rg.ECC_MODE, 0, 16⟩

/-- ECC_GRZBANK: 12_ecc_repair, Table 12-8. -/
def Rg.ECC_GRZBANK : Nat := 0xE0004
def F.ECC_GRZBANK_EN : Fld := ⟨Rg.ECC_GRZBANK, 0, 32⟩

/-- ECC_GRZSLICE: 12_ecc_repair, Table 12-8. -/
def Rg.ECC_GRZSLICE : Nat := 0xE0008
def F.ECC_GRZSLICE_AUTOREPAIR : Fld := ⟨Rg.ECC_GRZSLICE, 31, 1⟩
def F.ECC_GRZSLICE_EN : Fld := ⟨Rg.ECC_GRZSLICE, 0, 16⟩

/-- ECC_WBSTAT: 12_ecc_repair, Table 12-8. -/
def Rg.ECC_WBSTAT : Nat := 0xE0010
def F.ECC_WBSTAT_WBOVF : Fld := ⟨Rg.ECC_WBSTAT, 0, 16⟩

/-- ECC_BRWMEM: 12_ecc_repair, Table 12-8. -/
def Rg.ECC_BRWMEM : Nat := 0xE0014
def F.ECC_BRWMEM_LATE : Fld := ⟨Rg.ECC_BRWMEM, 31, 1⟩
def F.ECC_BRWMEM_PASSES : Fld := ⟨Rg.ECC_BRWMEM, 0, 16⟩

/-- ECC_BRWFAB: 12_ecc_repair, Table 12-8. -/
def Rg.ECC_BRWFAB : Nat := 0xE0018
def F.ECC_BRWFAB_PGMLATE : Fld := ⟨Rg.ECC_BRWFAB, 4, 4⟩
def F.ECC_BRWFAB_COEFLATE : Fld := ⟨Rg.ECC_BRWFAB, 0, 4⟩

/-- ECC_MEMLAST: 12_ecc_repair, Table 12-9. -/
def Rg.ECC_MEMLAST : Nat := 0xE0020
def F.ECC_MEMLAST_KIND : Fld := ⟨Rg.ECC_MEMLAST, 30, 2⟩
def F.ECC_MEMLAST_INSTANCE : Fld := ⟨Rg.ECC_MEMLAST, 25, 5⟩
def F.ECC_MEMLAST_WORD : Fld := ⟨Rg.ECC_MEMLAST, 5, 20⟩
def F.ECC_MEMLAST_UNCORR : Fld := ⟨Rg.ECC_MEMLAST, 4, 1⟩
def F.ECC_MEMLAST_FOUND : Fld := ⟨Rg.ECC_MEMLAST, 2, 2⟩
def F.ECC_MEMLAST_TAGLOST : Fld := ⟨Rg.ECC_MEMLAST, 1, 1⟩
def F.ECC_MEMLAST_VALID : Fld := ⟨Rg.ECC_MEMLAST, 0, 1⟩

/-- ECC_CFGLLAST: 12_ecc_repair, Table 12-9. -/
def Rg.ECC_CFGLLAST : Nat := 0xE0024
def F.ECC_CFGLLAST_LAYER : Fld := ⟨Rg.ECC_CFGLLAST, 30, 2⟩
def F.ECC_CFGLLAST_SLOT : Fld := ⟨Rg.ECC_CFGLLAST, 25, 5⟩
def F.ECC_CFGLLAST_ADDR : Fld := ⟨Rg.ECC_CFGLLAST, 7, 18⟩
def F.ECC_CFGLLAST_BEAT : Fld := ⟨Rg.ECC_CFGLLAST, 4, 3⟩
def F.ECC_CFGLLAST_ROUTE : Fld := ⟨Rg.ECC_CFGLLAST, 3, 1⟩
def F.ECC_CFGLLAST_UNCORR : Fld := ⟨Rg.ECC_CFGLLAST, 2, 1⟩
def F.ECC_CFGLLAST_BROWSE : Fld := ⟨Rg.ECC_CFGLLAST, 1, 1⟩
def F.ECC_CFGLLAST_VALID : Fld := ⟨Rg.ECC_CFGLLAST, 0, 1⟩

/-- ECC_GRZSTAT: 12_ecc_repair, Table 12-8. -/
def Rg.ECC_GRZSTAT : Nat := 0xE0028
def F.ECC_GRZSTAT_FAILS : Fld := ⟨Rg.ECC_GRZSTAT, 16, 16⟩
def F.ECC_GRZSTAT_BORROWS : Fld := ⟨Rg.ECC_GRZSTAT, 0, 16⟩

/-- ECC_GRZLAST: 12_ecc_repair, Table 12-9. -/
def Rg.ECC_GRZLAST : Nat := 0xE002C
def F.ECC_GRZLAST_KIND : Fld := ⟨Rg.ECC_GRZLAST, 30, 2⟩
def F.ECC_GRZLAST_INSTANCE : Fld := ⟨Rg.ECC_GRZLAST, 25, 5⟩
def F.ECC_GRZLAST_SUBARRAY : Fld := ⟨Rg.ECC_GRZLAST, 14, 11⟩
def F.ECC_GRZLAST_ROW : Fld := ⟨Rg.ECC_GRZLAST, 8, 6⟩
def F.ECC_GRZLAST_REPAIRED : Fld := ⟨Rg.ECC_GRZLAST, 1, 1⟩
def F.ECC_GRZLAST_VALID : Fld := ⟨Rg.ECC_GRZLAST, 0, 1⟩

/-- ECC_SRADD: 12_ecc_repair, Table 12-8. -/
def Rg.ECC_SRADD : Nat := 0xE0030
def F.ECC_SRADD_GO : Fld := ⟨Rg.ECC_SRADD, 31, 1⟩
def F.ECC_SRADD_CLASS : Fld := ⟨Rg.ECC_SRADD, 28, 3⟩
def F.ECC_SRADD_INSTANCE : Fld := ⟨Rg.ECC_SRADD, 23, 5⟩
def F.ECC_SRADD_SUBARRAY : Fld := ⟨Rg.ECC_SRADD, 12, 11⟩
def F.ECC_SRADD_ROW : Fld := ⟨Rg.ECC_SRADD, 6, 6⟩

/-- ECC_SRRES: 12_ecc_repair, Table 12-8. -/
def Rg.ECC_SRRES : Nat := 0xE0034
def F.ECC_SRRES_VALID : Fld := ⟨Rg.ECC_SRRES, 31, 1⟩
def F.ECC_SRRES_CODE : Fld := ⟨Rg.ECC_SRRES, 28, 3⟩
def F.ECC_SRRES_USED : Fld := ⟨Rg.ECC_SRRES, 0, 9⟩

/-- ECC_BANK_CNT: 12_ecc_repair, Table 12-8. -/
def Rg.ECC_BANK_CNT (n : Nat) : Nat := 0xE0100 + 0x4 * n
def F.ECC_BANK_CNT_UNCORR (n : Nat) : Fld := ⟨Rg.ECC_BANK_CNT n, 16, 16⟩
def F.ECC_BANK_CNT_CORR (n : Nat) : Fld := ⟨Rg.ECC_BANK_CNT n, 0, 16⟩

/-- ECC_SLICE_CNT: 12_ecc_repair, Table 12-8. -/
def Rg.ECC_SLICE_CNT (s : Nat) : Nat := 0xE0180 + 0x4 * s
def F.ECC_SLICE_CNT_UNCORR (s : Nat) : Fld := ⟨Rg.ECC_SLICE_CNT s, 16, 16⟩
def F.ECC_SLICE_CNT_CORR (s : Nat) : Fld := ⟨Rg.ECC_SLICE_CNT s, 0, 16⟩

/-- ECC_CFGL_CNT: 12_ecc_repair, Table 12-8. -/
def Rg.ECC_CFGL_CNT (k : Nat) : Nat := 0xE01C0 + 0x4 * k
def F.ECC_CFGL_CNT_UNCORR (k : Nat) : Fld := ⟨Rg.ECC_CFGL_CNT k, 16, 16⟩
def F.ECC_CFGL_CNT_CORR (k : Nat) : Fld := ⟨Rg.ECC_CFGL_CNT k, 0, 16⟩

/-- ECC_PUPSET: 02_tine, Table 2-8. -/
def Rg.ECC_PUPSET (k : Nat) : Nat := 0xE0800 + 0x4 * k
def F.ECC_PUPSET_COUNT (k : Nat) : Fld := ⟨Rg.ECC_PUPSET k, 0, 32⟩

/-- ECC_PULAST: 02_tine, Table 2-9. -/
def Rg.ECC_PULAST : Nat := 0xE0810
def F.ECC_PULAST_LAYER : Fld := ⟨Rg.ECC_PULAST, 30, 2⟩
def F.ECC_PULAST_PLANE : Fld := ⟨Rg.ECC_PULAST, 28, 2⟩
def F.ECC_PULAST_GROUP : Fld := ⟨Rg.ECC_PULAST, 24, 4⟩
def F.ECC_PULAST_TINE : Fld := ⟨Rg.ECC_PULAST, 6, 18⟩
def F.ECC_PULAST_ACTIVE : Fld := ⟨Rg.ECC_PULAST, 5, 1⟩
def F.ECC_PULAST_UNCORR : Fld := ⟨Rg.ECC_PULAST, 4, 1⟩
def F.ECC_PULAST_VALID : Fld := ⟨Rg.ECC_PULAST, 0, 1⟩

/-- ECC_PUCLR: 02_tine, Table 2-9. -/
def Rg.ECC_PUCLR : Nat := 0xE0814
def F.ECC_PUCLR_CLR : Fld := ⟨Rg.ECC_PUCLR, 0, 4⟩

/-- ECC_RULAST: 03_antler_routing, Table 3-5. -/
def Rg.ECC_RULAST : Nat := 0xE0818
def F.ECC_RULAST_LAYER : Fld := ⟨Rg.ECC_RULAST, 30, 2⟩
def F.ECC_RULAST_PLANE : Fld := ⟨Rg.ECC_RULAST, 28, 2⟩
def F.ECC_RULAST_TILE : Fld := ⟨Rg.ECC_RULAST, 22, 6⟩
def F.ECC_RULAST_KIND : Fld := ⟨Rg.ECC_RULAST, 20, 2⟩
def F.ECC_RULAST_GROUP : Fld := ⟨Rg.ECC_RULAST, 9, 11⟩
def F.ECC_RULAST_ACTIVE : Fld := ⟨Rg.ECC_RULAST, 5, 1⟩
def F.ECC_RULAST_UNCORR : Fld := ⟨Rg.ECC_RULAST, 4, 1⟩
def F.ECC_RULAST_VALID : Fld := ⟨Rg.ECC_RULAST, 0, 1⟩

/-- ECC_HCCOR: 05_horn_blocks, Table 5-6. -/
def Rg.ECC_HCCOR (k : Nat) : Nat := 0xE0820 + 0x4 * k
def F.ECC_HCCOR_COUNT (k : Nat) : Fld := ⟨Rg.ECC_HCCOR k, 0, 32⟩

/-- ECC_HCLAST: 05_horn_blocks, Table 5-7. -/
def Rg.ECC_HCLAST : Nat := 0xE0830
def F.ECC_HCLAST_LAYER : Fld := ⟨Rg.ECC_HCLAST, 30, 2⟩
def F.ECC_HCLAST_TILE : Fld := ⟨Rg.ECC_HCLAST, 24, 6⟩
def F.ECC_HCLAST_BLOCK : Fld := ⟨Rg.ECC_HCLAST, 19, 5⟩
def F.ECC_HCLAST_ADDR : Fld := ⟨Rg.ECC_HCLAST, 9, 10⟩
def F.ECC_HCLAST_UNCORR : Fld := ⟨Rg.ECC_HCLAST, 4, 1⟩
def F.ECC_HCLAST_VALID : Fld := ⟨Rg.ECC_HCLAST, 0, 1⟩

/-- ECC_HULAST: 05_horn_blocks, Table 5-7. -/
def Rg.ECC_HULAST : Nat := 0xE0834
def F.ECC_HULAST_LAYER : Fld := ⟨Rg.ECC_HULAST, 30, 2⟩
def F.ECC_HULAST_PLANE : Fld := ⟨Rg.ECC_HULAST, 28, 2⟩
def F.ECC_HULAST_TILE : Fld := ⟨Rg.ECC_HULAST, 22, 6⟩
def F.ECC_HULAST_BLOCK : Fld := ⟨Rg.ECC_HULAST, 17, 5⟩
def F.ECC_HULAST_ACTIVE : Fld := ⟨Rg.ECC_HULAST, 5, 1⟩
def F.ECC_HULAST_UNCORR : Fld := ⟨Rg.ECC_HULAST, 4, 1⟩
def F.ECC_HULAST_VALID : Fld := ⟨Rg.ECC_HULAST, 0, 1⟩

/-- ECC_HCCLR: 05_horn_blocks, Table 5-6. -/
def Rg.ECC_HCCLR : Nat := 0xE0838
def F.ECC_HCCLR_CLR : Fld := ⟨Rg.ECC_HCCLR, 0, 4⟩

/-- VL_FENSTAT: 13_vertical_links, Table 13-5. -/
def Rg.VL_FENSTAT : Nat := 0xF0000
def F.VL_FENSTAT_PHASE : Fld := ⟨Rg.VL_FENSTAT, 0, 18⟩

/-- VL_TEST: 13_vertical_links, Table 13-5. -/
def Rg.VL_TEST : Nat := 0xF0004
def F.VL_TEST_DONE : Fld := ⟨Rg.VL_TEST, 31, 1⟩
def F.VL_TEST_RUNNING : Fld := ⟨Rg.VL_TEST, 30, 1⟩
def F.VL_TEST_FAILED : Fld := ⟨Rg.VL_TEST, 0, 16⟩

/-- VL_GSEL: 13_vertical_links, Table 13-6. -/
def Rg.VL_GSEL : Nat := 0xF0008
def F.VL_GSEL_JOINT : Fld := ⟨Rg.VL_GSEL, 28, 4⟩
def F.VL_GSEL_GROUP : Fld := ⟨Rg.VL_GSEL, 0, 12⟩

/-- VL_GSTAT: 13_vertical_links, Table 13-6. -/
def Rg.VL_GSTAT : Nat := 0xF000C
def F.VL_GSTAT_FAILED : Fld := ⟨Rg.VL_GSTAT, 31, 1⟩
def F.VL_GSTAT_SWAPPEND : Fld := ⟨Rg.VL_GSTAT, 30, 1⟩
def F.VL_GSTAT_SPARES : Fld := ⟨Rg.VL_GSTAT, 27, 3⟩
def F.VL_GSTAT_NOGROUP : Fld := ⟨Rg.VL_GSTAT, 26, 1⟩
def F.VL_GSTAT_FAILLANE : Fld := ⟨Rg.VL_GSTAT, 17, 7⟩
def F.VL_GSTAT_CORRCNT : Fld := ⟨Rg.VL_GSTAT, 0, 16⟩

/-- VL_GMAP: 13_vertical_links, Table 13-6. -/
def Rg.VL_GMAP : Nat := 0xF0010
def F.VL_GMAP_SP : Fld := ⟨Rg.VL_GMAP, 0, 32⟩

/-- VL_LNKLAST: 13_vertical_links, Table 13-7. -/
def Rg.VL_LNKLAST : Nat := 0xF0014
def F.VL_LNKLAST_JOINT : Fld := ⟨Rg.VL_LNKLAST, 28, 4⟩
def F.VL_LNKLAST_KIND : Fld := ⟨Rg.VL_LNKLAST, 25, 3⟩
def F.VL_LNKLAST_GROUP : Fld := ⟨Rg.VL_LNKLAST, 13, 12⟩
def F.VL_LNKLAST_POSITION : Fld := ⟨Rg.VL_LNKLAST, 6, 7⟩
def F.VL_LNKLAST_VALID : Fld := ⟨Rg.VL_LNKLAST, 0, 1⟩

/-- VL_RETRY: 13_vertical_links, Table 13-5. -/
def Rg.VL_RETRY : Nat := 0xF0018
def F.VL_RETRY_CFG : Fld := ⟨Rg.VL_RETRY, 16, 16⟩
def F.VL_RETRY_BASE : Fld := ⟨Rg.VL_RETRY, 0, 16⟩

/-- VL_ABORT: 13_vertical_links, Table 13-5. -/
def Rg.VL_ABORT : Nat := 0xF001C
def F.VL_ABORT_HOST : Fld := ⟨Rg.VL_ABORT, 28, 4⟩
def F.VL_ABORT_L4 : Fld := ⟨Rg.VL_ABORT, 21, 7⟩
def F.VL_ABORT_L3 : Fld := ⟨Rg.VL_ABORT, 14, 7⟩
def F.VL_ABORT_L2 : Fld := ⟨Rg.VL_ABORT, 7, 7⟩
def F.VL_ABORT_L1 : Fld := ⟨Rg.VL_ABORT, 0, 7⟩

/-- VL_J_STAT: 13_vertical_links, Table 13-7. -/
def Rg.VL_J_STAT (j : Nat) : Nat := 0xF0100 + 0x4 * j
def F.VL_J_STAT_FAILED (j : Nat) : Fld := ⟨Rg.VL_J_STAT j, 31, 1⟩
def F.VL_J_STAT_SPGONE (j : Nat) : Fld := ⟨Rg.VL_J_STAT j, 30, 1⟩
def F.VL_J_STAT_DEGRADED (j : Nat) : Fld := ⟨Rg.VL_J_STAT j, 16, 12⟩
def F.VL_J_STAT_CORRCNT (j : Nat) : Fld := ⟨Rg.VL_J_STAT j, 0, 16⟩

/-- VL_J_PHASE: 13_vertical_links, Table 13-7. -/
def Rg.VL_J_PHASE (j : Nat) : Nat := 0xF0140 + 0x4 * j
def F.VL_J_PHASE_SLIP (j : Nat) : Fld := ⟨Rg.VL_J_PHASE j, 31, 1⟩
def F.VL_J_PHASE_WARN (j : Nat) : Fld := ⟨Rg.VL_J_PHASE j, 30, 1⟩
def F.VL_J_PHASE_MINMARGIN (j : Nat) : Fld := ⟨Rg.VL_J_PHASE j, 8, 8⟩
def F.VL_J_PHASE_OFFSET (j : Nat) : Fld := ⟨Rg.VL_J_PHASE j, 0, 8⟩

/-- VL_SHCFG: 03_antler_routing, Table 3-9. -/
def Rg.VL_SHCFG : Nat := 0xF0F00
def F.VL_SHCFG_THRESH : Fld := ⟨Rg.VL_SHCFG, 0, 5⟩

/-- VL_SHCLR: 03_antler_routing, Table 3-9. -/
def Rg.VL_SHCLR : Nat := 0xF0F04
def F.VL_SHCLR_CLR : Fld := ⟨Rg.VL_SHCLR, 0, 3⟩

/-- VL_BG_STAT: 03_antler_routing, Table 3-10. -/
def Rg.VL_BG_STAT (b : Nat) (g : Nat) : Nat := 0xF1000 + 0x400 * b + 0x4 * g
def F.VL_BG_STAT_FAILED (b : Nat) (g : Nat) : Fld := ⟨Rg.VL_BG_STAT b g, 31, 1⟩
def F.VL_BG_STAT_SWAPPEND (b : Nat) (g : Nat) : Fld := ⟨Rg.VL_BG_STAT b g, 30, 1⟩
def F.VL_BG_STAT_SPARES (b : Nat) (g : Nat) : Fld := ⟨Rg.VL_BG_STAT b g, 27, 3⟩
def F.VL_BG_STAT_DRV (b : Nat) (g : Nat) : Fld := ⟨Rg.VL_BG_STAT b g, 25, 2⟩
def F.VL_BG_STAT_FAILLANE (b : Nat) (g : Nat) : Fld := ⟨Rg.VL_BG_STAT b g, 17, 7⟩
def F.VL_BG_STAT_CORRCNT (b : Nat) (g : Nat) : Fld := ⟨Rg.VL_BG_STAT b g, 0, 16⟩

/-- VL_BG_MAP: 03_antler_routing, Table 3-11. -/
def Rg.VL_BG_MAP (b : Nat) (g : Nat) : Nat := 0xF2000 + 0x400 * b + 0x4 * g
def F.VL_BG_MAP_SP3 (b : Nat) (g : Nat) : Fld := ⟨Rg.VL_BG_MAP b g, 24, 8⟩
def F.VL_BG_MAP_SP2 (b : Nat) (g : Nat) : Fld := ⟨Rg.VL_BG_MAP b g, 16, 8⟩
def F.VL_BG_MAP_SP1 (b : Nat) (g : Nat) : Fld := ⟨Rg.VL_BG_MAP b g, 8, 8⟩
def F.VL_BG_MAP_SP0 (b : Nat) (g : Nat) : Fld := ⟨Rg.VL_BG_MAP b g, 0, 8⟩

/-- SEQ_CTL: 06_sequencer_model, Table 6-7. -/
def Rg.SEQ_CTL (k : Nat) : Nat := 0x100000 + 0x10000 * k
def F.SEQ_CTL_STOP (k : Nat) : Fld := ⟨Rg.SEQ_CTL k, 17, 1⟩
def F.SEQ_CTL_START (k : Nat) : Fld := ⟨Rg.SEQ_CTL k, 16, 1⟩
def F.SEQ_CTL_MISSFAULT (k : Nat) : Fld := ⟨Rg.SEQ_CTL k, 9, 1⟩
def F.SEQ_CTL_AUTOSTART (k : Nat) : Fld := ⟨Rg.SEQ_CTL k, 8, 1⟩
def F.SEQ_CTL_ENTRY (k : Nat) : Fld := ⟨Rg.SEQ_CTL k, 0, 3⟩

/-- SEQ_STATUS: 06_sequencer_model, Table 6-8. -/
def Rg.SEQ_STATUS (k : Nat) : Nat := 0x100004 + 0x10000 * k
def F.SEQ_STATUS_STATE (k : Nat) : Fld := ⟨Rg.SEQ_STATUS k, 29, 3⟩
def F.SEQ_STATUS_INALT (k : Nat) : Fld := ⟨Rg.SEQ_STATUS k, 28, 1⟩
def F.SEQ_STATUS_INFAULT (k : Nat) : Fld := ⟨Rg.SEQ_STATUS k, 27, 1⟩
def F.SEQ_STATUS_ALTPEND (k : Nat) : Fld := ⟨Rg.SEQ_STATUS k, 26, 1⟩
def F.SEQ_STATUS_BADSTART (k : Nat) : Fld := ⟨Rg.SEQ_STATUS k, 25, 1⟩
def F.SEQ_STATUS_NZCV (k : Nat) : Fld := ⟨Rg.SEQ_STATUS k, 21, 4⟩
def F.SEQ_STATUS_CSD (k : Nat) : Fld := ⟨Rg.SEQ_STATUS k, 16, 5⟩
def F.SEQ_STATUS_LSD (k : Nat) : Fld := ⟨Rg.SEQ_STATUS k, 13, 3⟩

/-- SEQ_PC: 06_sequencer_model, Table 6-9. -/
def Rg.SEQ_PC (k : Nat) : Nat := 0x100008 + 0x10000 * k
def F.SEQ_PC_PC (k : Nat) : Fld := ⟨Rg.SEQ_PC k, 0, 16⟩

/-- SEQ_CFG: 06_sequencer_model, Table 6-9. -/
def Rg.SEQ_CFG (k : Nat) : Nat := 0x10000C + 0x10000 * k
def F.SEQ_CFG_WAITTO (k : Nat) : Fld := ⟨Rg.SEQ_CFG k, 16, 16⟩
def F.SEQ_CFG_BARTO (k : Nat) : Fld := ⟨Rg.SEQ_CFG k, 0, 16⟩

/-- SEQ_FAULT: 06_sequencer_model, Table 6-9. -/
def Rg.SEQ_FAULT (k : Nat) : Nat := 0x100010 + 0x10000 * k
def F.SEQ_FAULT_CAUSE (k : Nat) : Fld := ⟨Rg.SEQ_FAULT k, 24, 8⟩
def F.SEQ_FAULT_FPC (k : Nat) : Fld := ⟨Rg.SEQ_FAULT k, 0, 16⟩

/-- SEQ_ALT: 06_sequencer_model, Table 6-9. -/
def Rg.SEQ_ALT (k : Nat) : Nat := 0x100014 + 0x10000 * k
def F.SEQ_ALT_REASON (k : Nat) : Fld := ⟨Rg.SEQ_ALT k, 24, 8⟩
def F.SEQ_ALT_REGION (k : Nat) : Fld := ⟨Rg.SEQ_ALT k, 16, 3⟩
def F.SEQ_ALT_APC (k : Nat) : Fld := ⟨Rg.SEQ_ALT k, 0, 16⟩

/-- SEQ_SP_LO: 06_sequencer_model, Table 6-10. -/
def Rg.SEQ_SP_LO (k : Nat) : Nat := 0x100018 + 0x10000 * k
def F.SEQ_SP_LO_AT (k : Nat) : Fld := ⟨Rg.SEQ_SP_LO k, 0, 32⟩

/-- SEQ_SP_HI: 06_sequencer_model, Table 6-10. -/
def Rg.SEQ_SP_HI (k : Nat) : Nat := 0x10001C + 0x10000 * k
def F.SEQ_SP_HI_HF (k : Nat) : Fld := ⟨Rg.SEQ_SP_HI k, 2, 7⟩
def F.SEQ_SP_HI_ATH (k : Nat) : Fld := ⟨Rg.SEQ_SP_HI k, 0, 2⟩

/-- SEQ_MISS: 06_sequencer_model, Table 6-10. -/
def Rg.SEQ_MISS (k : Nat) : Nat := 0x100020 + 0x10000 * k
def F.SEQ_MISS_COUNT (k : Nat) : Fld := ⟨Rg.SEQ_MISS k, 16, 16⟩
def F.SEQ_MISS_LATE (k : Nat) : Fld := ⟨Rg.SEQ_MISS k, 0, 16⟩

/-- SEQ_EVIN: 06_sequencer_model, Table 6-10. -/
def Rg.SEQ_EVIN (k : Nat) : Nat := 0x100024 + 0x10000 * k
def F.SEQ_EVIN_PEND (k : Nat) : Fld := ⟨Rg.SEQ_EVIN k, 0, 32⟩

/-- SEQ_PMERR: 06_sequencer_model, Table 6-10. -/
def Rg.SEQ_PMERR (k : Nat) : Nat := 0x100028 + 0x10000 * k
def F.SEQ_PMERR_UNCORR (k : Nat) : Fld := ⟨Rg.SEQ_PMERR k, 16, 16⟩
def F.SEQ_PMERR_CORR (k : Nat) : Fld := ⟨Rg.SEQ_PMERR k, 0, 16⟩

/-- SEQ_G: 06_sequencer_model, Table 6-10. -/
def Rg.SEQ_G (k : Nat) (i : Nat) : Nat := 0x100100 + 0x10000 * k + 0x4 * i
def F.SEQ_G_VALUE (k : Nat) (i : Nat) : Fld := ⟨Rg.SEQ_G k i, 0, 32⟩

/-- SEQ0_BARARR: 06_sequencer_model, Table 6-11. -/
def Rg.SEQ0_BARARR (n : Nat) : Nat := 0x100800 + 0x4 * n
def F.SEQ0_BARARR_ARR (n : Nat) : Fld := ⟨Rg.SEQ0_BARARR n, 0, 32⟩

/-- SEQ0_FLAGS: 06_sequencer_model, Table 6-11. -/
def Rg.SEQ0_FLAGS : Nat := 0x100808
def F.SEQ0_FLAGS_ISBAR : Fld := ⟨Rg.SEQ0_FLAGS, 16, 16⟩
def F.SEQ0_FLAGS_SET : Fld := ⟨Rg.SEQ0_FLAGS, 0, 16⟩

/-- QC_STAT: 11_queues, Table 11-10. -/
def Rg.QC_STAT (c : Nat) : Nat := 0x200000 + 0x10000 * c
def F.QC_STAT_ALLOC (c : Nat) : Fld := ⟨Rg.QC_STAT c, 0, 11⟩

/-- QC_ABASE: 11_queues, Table 11-10. -/
def Rg.QC_ABASE (c : Nat) : Nat := 0x200010 + 0x10000 * c
def F.QC_ABASE_OFS (c : Nat) : Fld := ⟨Rg.QC_ABASE c, 0, 23⟩

/-- QC_AMBASE: 11_queues, Table 11-10. -/
def Rg.QC_AMBASE (c : Nat) : Nat := 0x200014 + 0x10000 * c
def F.QC_AMBASE_OFS (c : Nat) : Fld := ⟨Rg.QC_AMBASE c, 0, 23⟩

/-- QC_ACFG: 11_queues, Table 11-10. -/
def Rg.QC_ACFG (c : Nat) : Nat := 0x200018 + 0x10000 * c
def F.QC_ACFG_ESZ (c : Nat) : Fld := ⟨Rg.QC_ACFG c, 29, 2⟩
def F.QC_ACFG_SZ (c : Nat) : Fld := ⟨Rg.QC_ACFG c, 25, 4⟩
def F.QC_ACFG_PROD (c : Nat) : Fld := ⟨Rg.QC_ACFG c, 10, 10⟩
def F.QC_ACFG_CONS (c : Nat) : Fld := ⟨Rg.QC_ACFG c, 0, 10⟩

/-- QC_ACMD: 11_queues, Table 11-10. -/
def Rg.QC_ACMD (c : Nat) : Nat := 0x20001C + 0x10000 * c
def F.QC_ACMD_OP (c : Nat) : Fld := ⟨Rg.QC_ACMD c, 30, 2⟩
def F.QC_ACMD_QUEUE (c : Nat) : Fld := ⟨Rg.QC_ACMD c, 0, 10⟩

/-- QC_ARES: 11_queues, Table 11-10. -/
def Rg.QC_ARES (c : Nat) : Nat := 0x200020 + 0x10000 * c
def F.QC_ARES_VALID (c : Nat) : Fld := ⟨Rg.QC_ARES c, 31, 1⟩
def F.QC_ARES_CODE (c : Nat) : Fld := ⟨Rg.QC_ARES c, 28, 3⟩
def F.QC_ARES_QUEUE (c : Nat) : Fld := ⟨Rg.QC_ARES c, 0, 15⟩

/-- QC_PLAST: 11_queues, Table 11-10. -/
def Rg.QC_PLAST (c : Nat) : Nat := 0x200030 + 0x10000 * c
def F.QC_PLAST_VALID (c : Nat) : Fld := ⟨Rg.QC_PLAST c, 31, 1⟩
def F.QC_PLAST_REASON (c : Nat) : Fld := ⟨Rg.QC_PLAST c, 29, 2⟩
def F.QC_PLAST_QUEUE (c : Nat) : Fld := ⟨Rg.QC_PLAST c, 16, 10⟩
def F.QC_PLAST_SEQ (c : Nat) : Fld := ⟨Rg.QC_PLAST c, 0, 16⟩

/-- QC_Q_CFG: 11_queues, Table 11-11. -/
def Rg.QC_Q_CFG (c : Nat) (i : Nat) : Nat := 0x208000 + 0x10000 * c + 0x20 * i
def F.QC_Q_CFG_EN (c : Nat) (i : Nat) : Fld := ⟨Rg.QC_Q_CFG c i, 31, 1⟩
def F.QC_Q_CFG_ALL (c : Nat) (i : Nat) : Fld := ⟨Rg.QC_Q_CFG c i, 0, 31⟩

/-- QC_Q_RBASE: 11_queues, Table 11-11. -/
def Rg.QC_Q_RBASE (c : Nat) (i : Nat) : Nat := 0x208004 + 0x10000 * c + 0x20 * i
def F.QC_Q_RBASE_OFS (c : Nat) (i : Nat) : Fld := ⟨Rg.QC_Q_RBASE c i, 0, 23⟩

/-- QC_Q_MBASE: 11_queues, Table 11-11. -/
def Rg.QC_Q_MBASE (c : Nat) (i : Nat) : Nat := 0x208008 + 0x10000 * c + 0x20 * i
def F.QC_Q_MBASE_OFS (c : Nat) (i : Nat) : Fld := ⟨Rg.QC_Q_MBASE c i, 0, 23⟩

/-- QC_Q_STAT: 11_queues, Table 11-11. -/
def Rg.QC_Q_STAT (c : Nat) (i : Nat) : Nat := 0x20800C + 0x10000 * c + 0x20 * i
def F.QC_Q_STAT_FULL (c : Nat) (i : Nat) : Fld := ⟨Rg.QC_Q_STAT c i, 31, 1⟩
def F.QC_Q_STAT_EMPTY (c : Nat) (i : Nat) : Fld := ⟨Rg.QC_Q_STAT c i, 30, 1⟩
def F.QC_Q_STAT_COUNT (c : Nat) (i : Nat) : Fld := ⟨Rg.QC_Q_STAT c i, 0, 17⟩

/-- QC_Q_PTR: 11_queues, Table 11-11. -/
def Rg.QC_Q_PTR (c : Nat) (i : Nat) : Nat := 0x208010 + 0x10000 * c + 0x20 * i
def F.QC_Q_PTR_TAIL (c : Nat) (i : Nat) : Fld := ⟨Rg.QC_Q_PTR c i, 16, 16⟩
def F.QC_Q_PTR_HEAD (c : Nat) (i : Nat) : Fld := ⟨Rg.QC_Q_PTR c i, 0, 16⟩

/-- QC_Q_HOL: 11_queues, Table 11-11. -/
def Rg.QC_Q_HOL (c : Nat) (i : Nat) : Nat := 0x208014 + 0x10000 * c + 0x20 * i
def F.QC_Q_HOL_EN (c : Nat) (i : Nat) : Fld := ⟨Rg.QC_Q_HOL c i, 31, 1⟩
def F.QC_Q_HOL_ACT (c : Nat) (i : Nat) : Fld := ⟨Rg.QC_Q_HOL c i, 29, 2⟩
def F.QC_Q_HOL_TO (c : Nat) (i : Nat) : Fld := ⟨Rg.QC_Q_HOL c i, 0, 16⟩

/-- QC_Q_DROPS: 11_queues, Table 11-11. -/
def Rg.QC_Q_DROPS (c : Nat) (i : Nat) : Nat := 0x208018 + 0x10000 * c + 0x20 * i
def F.QC_Q_DROPS_HOLDISC (c : Nat) (i : Nat) : Fld := ⟨Rg.QC_Q_DROPS c i, 16, 16⟩
def F.QC_Q_DROPS_OVF (c : Nat) (i : Nat) : Fld := ⟨Rg.QC_Q_DROPS c i, 0, 16⟩

/-- RPL_CMD: 24_replay, Table 24-4. -/
def Rg.RPL_CMD : Nat := 0x500000
def F.RPL_CMD_OP : Fld := ⟨Rg.RPL_CMD, 28, 4⟩
def F.RPL_CMD_SNAPSEL : Fld := ⟨Rg.RPL_CMD, 4, 1⟩
def F.RPL_CMD_FORCE : Fld := ⟨Rg.RPL_CMD, 3, 1⟩
def F.RPL_CMD_ENTRY : Fld := ⟨Rg.RPL_CMD, 0, 3⟩

/-- RPL_STAT: 24_replay, Table 24-4. -/
def Rg.RPL_STAT : Nat := 0x500004
def F.RPL_STAT_MODE : Fld := ⟨Rg.RPL_STAT, 30, 2⟩
def F.RPL_STAT_FROZEN : Fld := ⟨Rg.RPL_STAT, 29, 1⟩
def F.RPL_STAT_CMDREJ : Fld := ⟨Rg.RPL_STAT, 28, 1⟩
def F.RPL_STAT_REJ : Fld := ⟨Rg.RPL_STAT, 25, 3⟩
def F.RPL_STAT_DONE : Fld := ⟨Rg.RPL_STAT, 24, 1⟩
def F.RPL_STAT_GUARDDIFF : Fld := ⟨Rg.RPL_STAT, 23, 1⟩
def F.RPL_STAT_CAUSE : Fld := ⟨Rg.RPL_STAT, 0, 4⟩

/-- RPL_RING: 24_replay, Table 24-4. -/
def Rg.RPL_RING : Nat := 0x500010
def F.RPL_RING_SZ : Fld := ⟨Rg.RPL_RING, 16, 7⟩
def F.RPL_RING_BASE : Fld := ⟨Rg.RPL_RING, 0, 7⟩

/-- RPL_SNAP: 24_replay, Table 24-4. -/
def Rg.RPL_SNAP : Nat := 0x500014
def F.RPL_SNAP_ARM : Fld := ⟨Rg.RPL_SNAP, 31, 1⟩
def F.RPL_SNAP_LEAD : Fld := ⟨Rg.RPL_SNAP, 29, 2⟩
def F.RPL_SNAP_REGS : Fld := ⟨Rg.RPL_SNAP, 16, 12⟩
def F.RPL_SNAP_LAYERS : Fld := ⟨Rg.RPL_SNAP, 12, 4⟩
def F.RPL_SNAP_BASE : Fld := ⟨Rg.RPL_SNAP, 0, 7⟩

/-- RPL_BANKS: 24_replay, Table 24-4. -/
def Rg.RPL_BANKS : Nat := 0x500018
def F.RPL_BANKS_BANKS : Fld := ⟨Rg.RPL_BANKS, 0, 32⟩

/-- RPL_CAPQC: 24_replay, Table 24-4. -/
def Rg.RPL_CAPQC : Nat := 0x50001C
def F.RPL_CAPQC_QC : Fld := ⟨Rg.RPL_CAPQC, 0, 32⟩

/-- RPL_TRIG: 24_replay, Table 24-4. -/
def Rg.RPL_TRIG : Nat := 0x500020
def F.RPL_TRIG_EN : Fld := ⟨Rg.RPL_TRIG, 31, 1⟩
def F.RPL_TRIG_SRC : Fld := ⟨Rg.RPL_TRIG, 16, 10⟩
def F.RPL_TRIG_DELAY : Fld := ⟨Rg.RPL_TRIG, 0, 16⟩

/-- RPL_CRCCFG: 24_replay, Table 24-4. -/
def Rg.RPL_CRCCFG : Nat := 0x500024
def F.RPL_CRCCFG_EN : Fld := ⟨Rg.RPL_CRCCFG, 31, 1⟩
def F.RPL_CRCCFG_PERIOD : Fld := ⟨Rg.RPL_CRCCFG, 0, 24⟩

/-- RPL_CRCQ: 24_replay, Table 24-4. -/
def Rg.RPL_CRCQ (n : Nat) : Nat := 0x500040 + 0x4 * n
def F.RPL_CRCQ_EN (n : Nat) : Fld := ⟨Rg.RPL_CRCQ n, 31, 1⟩
def F.RPL_CRCQ_QUEUE (n : Nat) : Fld := ⟨Rg.RPL_CRCQ n, 0, 15⟩

/-- RPL_SNAP_LO: 24_replay, Table 24-4. -/
def Rg.RPL_SNAP_LO (b : Nat) : Nat := 0x500080 + 0x8 * b
def F.RPL_SNAP_LO_AT (b : Nat) : Fld := ⟨Rg.RPL_SNAP_LO b, 0, 32⟩

/-- RPL_SNAP_HI: 24_replay, Table 24-4. -/
def Rg.RPL_SNAP_HI (b : Nat) : Nat := 0x500084 + 0x8 * b
def F.RPL_SNAP_HI_VALID (b : Nat) : Fld := ⟨Rg.RPL_SNAP_HI b, 31, 1⟩
def F.RPL_SNAP_HI_COVERED (b : Nat) : Fld := ⟨Rg.RPL_SNAP_HI b, 30, 1⟩
def F.RPL_SNAP_HI_FAIL (b : Nat) : Fld := ⟨Rg.RPL_SNAP_HI b, 27, 3⟩
def F.RPL_SNAP_HI_HF (b : Nat) : Fld := ⟨Rg.RPL_SNAP_HI b, 2, 7⟩
def F.RPL_SNAP_HI_ATH (b : Nat) : Fld := ⟨Rg.RPL_SNAP_HI b, 0, 2⟩

/-- RPL_MISCNT: 24_replay, Table 24-4. -/
def Rg.RPL_MISCNT : Nat := 0x5000A0
def F.RPL_MISCNT_COUNT : Fld := ⟨Rg.RPL_MISCNT, 0, 16⟩

/-- RPL_MISLAST: 24_replay, Table 24-4. -/
def Rg.RPL_MISLAST : Nat := 0x5000A4
def F.RPL_MISLAST_VALID : Fld := ⟨Rg.RPL_MISLAST, 31, 1⟩
def F.RPL_MISLAST_QIDX : Fld := ⟨Rg.RPL_MISLAST, 26, 4⟩
def F.RPL_MISLAST_PIDX : Fld := ⟨Rg.RPL_MISLAST, 0, 22⟩

/-- RPL_GAPS: 24_replay, Table 24-4. -/
def Rg.RPL_GAPS : Nat := 0x5000A8
def F.RPL_GAPS_RXDISC : Fld := ⟨Rg.RPL_GAPS, 16, 16⟩
def F.RPL_GAPS_GAPS : Fld := ⟨Rg.RPL_GAPS, 0, 16⟩

/-- SEC_CMD: 25_settings_security, Table 25-7. -/
def Rg.SEC_CMD : Nat := 0x600000
def F.SEC_CMD_OP : Fld := ⟨Rg.SEC_CMD, 28, 4⟩

/-- SEC_STAT: 25_settings_security, Table 25-7. -/
def Rg.SEC_STAT : Nat := 0x600004
def F.SEC_STAT_BUSY : Fld := ⟨Rg.SEC_STAT, 31, 1⟩
def F.SEC_STAT_DONE : Fld := ⟨Rg.SEC_STAT, 30, 1⟩
def F.SEC_STAT_CMDREJ : Fld := ⟨Rg.SEC_STAT, 29, 1⟩
def F.SEC_STAT_RESULT : Fld := ⟨Rg.SEC_STAT, 20, 4⟩
def F.SEC_STAT_OPCODE : Fld := ⟨Rg.SEC_STAT, 12, 8⟩
def F.SEC_STAT_LCS : Fld := ⟨Rg.SEC_STAT, 0, 2⟩

/-- SEC_KEYS: 25_settings_security, Table 25-7. -/
def Rg.SEC_KEYS : Nat := 0x600008
def F.SEC_KEYS_REV : Fld := ⟨Rg.SEC_KEYS, 4, 4⟩
def F.SEC_KEYS_PROV : Fld := ⟨Rg.SEC_KEYS, 0, 4⟩

/-- SEC_CMDSEQ: 25_settings_security, Table 25-7. -/
def Rg.SEC_CMDSEQ : Nat := 0x60000C
def F.SEC_CMDSEQ_CSEQ : Fld := ⟨Rg.SEC_CMDSEQ, 0, 32⟩

/-- SEC_CADDR_LO: 25_settings_security, Table 25-7. -/
def Rg.SEC_CADDR_LO : Nat := 0x600010
def F.SEC_CADDR_LO_ADDR : Fld := ⟨Rg.SEC_CADDR_LO, 2, 30⟩

/-- SEC_CADDR_HI: 25_settings_security, Table 25-7. -/
def Rg.SEC_CADDR_HI : Nat := 0x600014
def F.SEC_CADDR_HI_ADDRH : Fld := ⟨Rg.SEC_CADDR_HI, 0, 32⟩

/-- SEC_CLEN: 25_settings_security, Table 25-7. -/
def Rg.SEC_CLEN : Nat := 0x600018
def F.SEC_CLEN_LEN : Fld := ⟨Rg.SEC_CLEN, 0, 23⟩

/-- SEC_KSLOT: 25_settings_security, Table 25-7. -/
def Rg.SEC_KSLOT : Nat := 0x60001C
def F.SEC_KSLOT_SLOT : Fld := ⟨Rg.SEC_KSLOT, 0, 2⟩

/-- SEC_SERIAL: 25_settings_security, Table 25-7. -/
def Rg.SEC_SERIAL (i : Nat) : Nat := 0x600020 + 0x4 * i
def F.SEC_SERIAL_SERIAL (i : Nat) : Fld := ⟨Rg.SEC_SERIAL i, 0, 32⟩

/-- SEC_KHASH: 25_settings_security, Table 25-7. -/
def Rg.SEC_KHASH (w : Nat) : Nat := 0x600040 + 0x4 * w
def F.SEC_KHASH_HASH (w : Nat) : Fld := ⟨Rg.SEC_KHASH w, 0, 32⟩

/-- SEC_KRD: 25_settings_security, Table 25-7. -/
def Rg.SEC_KRD (w : Nat) : Nat := 0x600080 + 0x4 * w
def F.SEC_KRD_HASH (w : Nat) : Fld := ⟨Rg.SEC_KRD w, 0, 32⟩

/-- SEC_MFGHASH: 25_settings_security, Table 25-7. -/
def Rg.SEC_MFGHASH (w : Nat) : Nat := 0x6000C0 + 0x4 * w
def F.SEC_MFGHASH_HASH (w : Nat) : Fld := ⟨Rg.SEC_MFGHASH w, 0, 32⟩

/-- One row of the register index: where its registers lie (base, then up to two index steps with their counts),
which bits software sets, locks, clears by writing 1, clears by reading, or writes as triggers (R17), and the value
after reset (R19). -/
structure RegRow where
  base : Nat
  n1 : Nat
  s1 : Nat
  n2 : Nat
  s2 : Nat
  rw : BitVec 32
  lk : BitVec 32
  w1c : BitVec 32
  rc : BitVec 32
  nvs : BitVec 32
  rst : BitVec 32
  deriving DecidableEq, Repr

/-- The registers of the block at 0x0. -/
def regRows0 : List RegRow :=
  [ ⟨0x0, 1, 0x4000000, 1, 0x4000000, 0x0, 0x0, 0x0, 0x0, 0x0, 0x963200B0⟩,
    ⟨0x4, 1, 0x4000000, 1, 0x4000000, 0x0, 0x0, 0x0, 0x0, 0x0, 0x0⟩,
    ⟨0x100, 1, 0x4000000, 1, 0x4000000, 0xFF0003FF, 0x0, 0x0, 0x0, 0xFF0003FF, 0x50000000⟩,
    ⟨0x104, 1, 0x4000000, 1, 0x4000000, 0x0, 0x0, 0x0, 0x0, 0x0, 0x0⟩,
    ⟨0x108, 1, 0x4000000, 1, 0x4000000, 0x0, 0x0, 0x0, 0x80000000, 0x0, 0x0⟩,
    ⟨0x10C, 1, 0x4000000, 1, 0x4000000, 0x0, 0x0, 0x0, 0xFFFFFF, 0x0, 0x0⟩,
    ⟨0x110, 1, 0x4000000, 1, 0x4000000, 0x0, 0x0, 0x0, 0x1, 0x0, 0x0⟩,
    ⟨0x114, 1, 0x4000000, 1, 0x4000000, 0x0, 0x0, 0x0, 0x1, 0x0, 0x0⟩,
    ⟨0x200, 32, 0x4, 1, 0x4, 0x800003FF, 0x0, 0x0, 0x0, 0x800003FF, 0x0⟩,
    ⟨0x1000, 32, 0x20, 1, 0x20, 0xFFFFFFC0, 0x0, 0x0, 0x0, 0x0, 0x0⟩,
    ⟨0x1004, 32, 0x20, 1, 0x20, 0xFFFFFFFF, 0x0, 0x0, 0x0, 0x0, 0x0⟩,
    ⟨0x1008, 32, 0x20, 1, 0x20, 0x8000000F, 0x0, 0x40000000, 0x0, 0x0, 0x4⟩,
    ⟨0x100C, 32, 0x20, 1, 0x20, 0x0, 0x0, 0x0, 0x0, 0x0, 0x0⟩,
    ⟨0x1010, 32, 0x20, 1, 0x20, 0xFFF, 0x0, 0x0, 0x0, 0x0, 0x0⟩ ]

/-- The registers of the block at 0x10000. -/
def regRows1 : List RegRow :=
  [ ⟨0x10000, 1, 0x4000000, 1, 0x4000000, 0x37, 0x0, 0x0, 0x0, 0x37, 0x3⟩,
    ⟨0x10004, 1, 0x4000000, 1, 0x4000000, 0x0, 0x0, 0x0, 0xFF0000, 0x0, 0x40000000⟩,
    ⟨0x10008, 1, 0x4000000, 1, 0x4000000, 0x0, 0x0, 0x0, 0x0, 0x0, 0x0⟩,
    ⟨0x10010, 1, 0x4000000, 1, 0x4000000, 0xFFFFFFFF, 0x0, 0x0, 0x0, 0x0, 0x0⟩,
    ⟨0x10014, 1, 0x4000000, 1, 0x4000000, 0x1FFFFF, 0x0, 0x0, 0x0, 0x0, 0x0⟩,
    ⟨0x10018, 2, 0x4, 1, 0x4, 0x0, 0x0, 0x0, 0x0, 0x0, 0x0⟩,
    ⟨0x10020, 1, 0x4000000, 1, 0x4000000, 0x0, 0x0, 0x0, 0x80000000, 0x0, 0x0⟩,
    ⟨0x10104, 25, 0x4, 1, 0x4, 0x0, 0x0, 0x20000000, 0x40000000, 0x0, 0x6000000⟩ ]

/-- The registers of the block at 0x20000. -/
def regRows2 : List RegRow :=
  [ ⟨0x20000, 1, 0x4000000, 1, 0x4000000, 0x38000000, 0x0, 0x0, 0x0, 0x0, 0x10000000⟩,
    ⟨0x20004, 1, 0x4000000, 1, 0x4000000, 0x0, 0x0, 0x2000000, 0x4000000, 0x0, 0x0⟩,
    ⟨0x20008, 1, 0x4000000, 1, 0x4000000, 0x0, 0x0, 0x0, 0x0, 0x0, 0x0⟩,
    ⟨0x2000C, 1, 0x4000000, 1, 0x4000000, 0x0, 0x0, 0x0, 0x0, 0x0, 0x1⟩,
    ⟨0x20010, 1, 0x4000000, 1, 0x4000000, 0x0, 0x0, 0x0, 0x0, 0x0, 0x0⟩,
    ⟨0x20014, 1, 0x4000000, 1, 0x4000000, 0x0, 0x0, 0x0, 0x0, 0x0, 0x0⟩,
    ⟨0x20018, 1, 0x4000000, 1, 0x4000000, 0x0, 0x0, 0x0, 0x80000000, 0x0, 0x0⟩,
    ⟨0x20100, 11, 0x4, 1, 0x4, 0x0, 0x0, 0x0, 0x7FF0000, 0x0, 0x7FF0000⟩ ]

/-- The registers of the block at 0x30000. -/
def regRows3 : List RegRow :=
  [ ⟨0x30000, 1, 0x4000000, 1, 0x4000000, 0x80000000, 0x0, 0x0, 0x0, 0x80000000, 0x80000000⟩,
    ⟨0x30004, 1, 0x4000000, 1, 0x4000000, 0x0, 0x0, 0x0, 0x0, 0x0, 0x0⟩,
    ⟨0x30008, 1, 0x4000000, 1, 0x4000000, 0x0, 0x0, 0x0, 0x0, 0x0, 0x9249249⟩,
    ⟨0x3000C, 1, 0x4000000, 1, 0x4000000, 0x0, 0x0, 0x0, 0x0, 0x0, 0x0⟩,
    ⟨0x30010, 1, 0x4000000, 1, 0x4000000, 0x0, 0x0, 0x0, 0x0, 0x0, 0x0⟩,
    ⟨0x30020, 1, 0x4000000, 1, 0x4000000, 0x1F1F1F1F, 0x0, 0x0, 0x0, 0x1F1F1F1F, 0x80A0306⟩,
    ⟨0x30024, 1, 0x4000000, 1, 0x4000000, 0x0, 0x0, 0x0, 0x80000000, 0x0, 0x0⟩,
    ⟨0x30040, 10, 0x8, 1, 0x8, 0x0, 0x0, 0x0, 0x0, 0x0, 0x0⟩,
    ⟨0x30044, 10, 0x8, 1, 0x8, 0x0, 0x0, 0x0, 0x0, 0x0, 0x0⟩,
    ⟨0x30100, 60, 0x4, 1, 0x4, 0x0, 0x0, 0x0, 0x0, 0x0, 0x0⟩,
    ⟨0x30200, 2, 0x4, 1, 0x4, 0x0, 0x0, 0x0, 0x0, 0x0, 0x0⟩,
    ⟨0x30208, 2, 0x4, 1, 0x4, 0xFFFFFF03, 0x0, 0x0, 0x0, 0xFFFFFF03, 0xD6B5501⟩ ]

/-- The registers of the block at 0x40000. -/
def regRows4 : List RegRow :=
  [ ⟨0x40000, 32, 0x4, 1, 0x4, 0xFFFFFFFF, 0x0, 0x0, 0x0, 0xFFFFFFFF, 0xFFFFFFFF⟩,
    ⟨0x40080, 32, 0x4, 1, 0x4, 0xFFFFFFFF, 0x0, 0x0, 0x0, 0xFFFFFFFF, 0xFFFFFFFF⟩,
    ⟨0x40100, 32, 0x4, 1, 0x4, 0x0, 0x0, 0xFFFFFFFF, 0x0, 0x0, 0x0⟩,
    ⟨0x40200, 1, 0x4000000, 1, 0x4000000, 0xF, 0x0, 0x0, 0x0, 0xF, 0x2⟩,
    ⟨0x40204, 1, 0x4000000, 1, 0x4000000, 0x0, 0x0, 0xC0000000, 0x0, 0x0, 0x0⟩,
    ⟨0x40208, 1, 0x4000000, 1, 0x4000000, 0x3FF, 0x0, 0x0, 0x0, 0x0, 0x0⟩,
    ⟨0x4020C, 1, 0x4000000, 1, 0x4000000, 0x0, 0x0, 0x0, 0xFFFF, 0x0, 0x0⟩,
    ⟨0x40210, 1, 0x4000000, 1, 0x4000000, 0x0, 0x0, 0x0, 0x0, 0x0, 0x0⟩,
    ⟨0x40214, 1, 0x4000000, 1, 0x4000000, 0x0, 0x0, 0x0, 0x0, 0x0, 0x0⟩,
    ⟨0x41000, 1024, 0x4, 1, 0x4, 0xC0F1F7FF, 0x0, 0x0, 0x0, 0xC0F1F7FF, 0x40000000⟩ ]

/-- The registers of the block at 0x50000. -/
def regRows5 : List RegRow :=
  [ ⟨0x50000, 1, 0x4000000, 1, 0x4000000, 0x0, 0x0, 0x0, 0x0, 0x0, 0x0⟩,
    ⟨0x50004, 1, 0x4000000, 1, 0x4000000, 0x0, 0x0, 0x0, 0x48000000, 0x0, 0x0⟩,
    ⟨0x50008, 1, 0x4000000, 1, 0x4000000, 0x0, 0x0, 0x0, 0x0, 0x0, 0x0⟩,
    ⟨0x5000C, 1, 0x4000000, 1, 0x4000000, 0x0, 0x0, 0x0, 0x0, 0x0, 0x10000⟩,
    ⟨0x50010, 1, 0x4000000, 1, 0x4000000, 0x0, 0x0, 0x0, 0x0, 0x0, 0x10000⟩,
    ⟨0x50014, 1, 0x4000000, 1, 0x4000000, 0x0, 0x0, 0x0, 0x0, 0x0, 0x0⟩,
    ⟨0x50018, 1, 0x4000000, 1, 0x4000000, 0xFFFFC, 0x0, 0x0, 0x0, 0x0, 0x0⟩,
    ⟨0x5001C, 1, 0x4000000, 1, 0x4000000, 0x0, 0x0, 0x0, 0x0, 0x0, 0x0⟩,
    ⟨0x50020, 1, 0x4000000, 1, 0x4000000, 0x0, 0x0, 0x0, 0x0, 0x0, 0x0⟩,
    ⟨0x50024, 1, 0x4000000, 1, 0x4000000, 0xFFFFFFFC, 0x0, 0x0, 0x0, 0x0, 0x0⟩,
    ⟨0x50028, 1, 0x4000000, 1, 0x4000000, 0xFFFFFFFF, 0x0, 0x0, 0x0, 0x0, 0x0⟩,
    ⟨0x5002C, 1, 0x4000000, 1, 0x4000000, 0x1FFF, 0x0, 0x0, 0x0, 0x0, 0x0⟩,
    ⟨0x50030, 4, 0x4, 1, 0x4, 0x0, 0x0, 0x0, 0x0, 0x0, 0x0⟩,
    ⟨0x50040, 1, 0x4000000, 1, 0x4000000, 0x0, 0x0, 0x0, 0x80000000, 0x0, 0x0⟩ ]

/-- The registers of the block at 0x60000. -/
def regRows6 : List RegRow :=
  [ ⟨0x60000, 1, 0x4000000, 1, 0x4000000, 0x0, 0x0, 0x0, 0x0, 0x0, 0x0⟩,
    ⟨0x60004, 1, 0x4000000, 1, 0x4000000, 0x0, 0x0, 0x40000000, 0x20000000, 0x0, 0x0⟩,
    ⟨0x60008, 1, 0x4000000, 1, 0x4000000, 0x0, 0x0, 0x0, 0x0, 0x0, 0x0⟩,
    ⟨0x6000C, 1, 0x4000000, 1, 0x4000000, 0x3FFFFFC, 0x0, 0x0, 0x0, 0x0, 0x0⟩,
    ⟨0x60010, 1, 0x4000000, 1, 0x4000000, 0xFFFFFFFF, 0x0, 0x0, 0x0, 0x0, 0x0⟩,
    ⟨0x60014, 1, 0x4000000, 1, 0x4000000, 0x7F, 0x7F, 0x0, 0x0, 0x7F, 0x62⟩ ]

/-- The registers of the block at 0x70000. -/
def regRows7 : List RegRow :=
  [ ⟨0x70000, 1, 0x4000000, 1, 0x4000000, 0x0, 0x0, 0x0, 0x0, 0x0, 0x0⟩,
    ⟨0x70004, 1, 0x4000000, 1, 0x4000000, 0x0, 0x0, 0x0, 0x4000000, 0x0, 0x0⟩,
    ⟨0x70008, 1, 0x4000000, 1, 0x4000000, 0x0, 0x0, 0x0, 0x0, 0x0, 0x0⟩,
    ⟨0x7000C, 1, 0x4000000, 1, 0x4000000, 0x0, 0x0, 0x0, 0x0, 0x0, 0x0⟩,
    ⟨0x70010, 1, 0x4000000, 1, 0x4000000, 0x0, 0x0, 0x0, 0x0, 0x0, 0x196320B1⟩,
    ⟨0x70014, 1, 0x4000000, 1, 0x4000000, 0x0, 0x0, 0x0, 0x0, 0x0, 0x0⟩,
    ⟨0x70018, 1, 0x4000000, 1, 0x4000000, 0x0, 0x0, 0x0, 0x0, 0x0, 0x0⟩,
    ⟨0x7001C, 1, 0x4000000, 1, 0x4000000, 0x0, 0x0, 0x0, 0x0, 0x0, 0x0⟩,
    ⟨0x70020, 1, 0x4000000, 1, 0x4000000, 0x8000000F, 0x0, 0x0, 0x0, 0x8000000F, 0x80000009⟩,
    ⟨0x70024, 1, 0x4000000, 1, 0x4000000, 0xFFFFFFC0, 0x0, 0x0, 0x0, 0x0, 0x0⟩,
    ⟨0x70028, 1, 0x4000000, 1, 0x4000000, 0xFFFFFFFF, 0x0, 0x0, 0x0, 0x0, 0x0⟩,
    ⟨0x7002C, 1, 0x4000000, 1, 0x4000000, 0xFFFFFFFF, 0x0, 0x0, 0x0, 0x0, 0x0⟩,
    ⟨0x70030, 1, 0x4000000, 1, 0x4000000, 0x0, 0x0, 0x4000000, 0x0, 0x0, 0x0⟩,
    ⟨0x70034, 1, 0x4000000, 1, 0x4000000, 0x3FFFFFFF, 0x0, 0x0, 0x0, 0x0, 0x0⟩,
    ⟨0x70038, 1, 0x4000000, 1, 0x4000000, 0x0, 0x0, 0x0, 0x0, 0x0, 0x0⟩,
    ⟨0x70040, 4, 0x4, 1, 0x4, 0xFFFFFFFF, 0x0, 0x0, 0x0, 0xFFFFFFFF, 0x0⟩,
    ⟨0x70100, 1, 0x4000000, 1, 0x4000000, 0x0, 0x0, 0x0, 0x0, 0x0, 0x0⟩,
    ⟨0x70104, 1, 0x4000000, 1, 0x4000000, 0xFFFFFFFF, 0x0, 0x0, 0x0, 0x0, 0x0⟩,
    ⟨0x70108, 1, 0x4000000, 1, 0x4000000, 0xFFFF, 0x0, 0x0, 0x0, 0x0, 0x1⟩,
    ⟨0x7010C, 1, 0x4000000, 1, 0x4000000, 0xFFFFFFF0, 0x0, 0x0, 0x0, 0x0, 0x0⟩,
    ⟨0x70110, 1, 0x4000000, 1, 0x4000000, 0xFFFFFFFF, 0x0, 0x0, 0x0, 0x0, 0x0⟩,
    ⟨0x70114, 1, 0x4000000, 1, 0x4000000, 0x0, 0x0, 0x40000000, 0x20000000, 0x0, 0x0⟩,
    ⟨0x70120, 1, 0x4000000, 1, 0x4000000, 0x3F000000, 0x0, 0x0, 0x0, 0x0, 0x0⟩,
    ⟨0x70124, 1, 0x4000000, 1, 0x4000000, 0xFFFFFFFF, 0x0, 0x0, 0x0, 0x0, 0x0⟩,
    ⟨0x70128, 1, 0x4000000, 1, 0x4000000, 0x1FF, 0x0, 0x0, 0x0, 0x0, 0x0⟩,
    ⟨0x7012C, 1, 0x4000000, 1, 0x4000000, 0x0, 0x0, 0x0, 0x60000000, 0x0, 0x0⟩,
    ⟨0x70140, 4, 0x8, 1, 0x8, 0x0, 0x0, 0x0, 0x0, 0x0, 0x0⟩,
    ⟨0x70144, 4, 0x8, 1, 0x8, 0x0, 0x0, 0x0, 0x0, 0x0, 0x0⟩,
    ⟨0x72000, 4, 0x20, 8, 0x4, 0x0, 0x0, 0x0, 0x0, 0x0, 0x0⟩,
    ⟨0x72100, 4, 0x20, 8, 0x4, 0x0, 0x0, 0x0, 0x0, 0x0, 0x0⟩,
    ⟨0x72200, 4, 0x20, 8, 0x4, 0x0, 0x0, 0x0, 0x0, 0x0, 0x0⟩,
    ⟨0x72300, 4, 0x20, 8, 0x4, 0x0, 0x0, 0x0, 0x0, 0x0, 0x0⟩,
    ⟨0x72400, 4, 0x20, 8, 0x4, 0x0, 0x0, 0x0, 0xFFFFFFFF, 0x0, 0x0⟩,
    ⟨0x72500, 4, 0x4, 1, 0x4, 0x0, 0x0, 0x80000000, 0x0, 0x0, 0x0⟩ ]

/-- The registers of the block at 0x80000. -/
def regRows8 : List RegRow :=
  [ ⟨0x80000, 1, 0x4000000, 1, 0x4000000, 0xFF18, 0x0, 0x0, 0x0, 0xFF18, 0x3C08⟩,
    ⟨0x80004, 1, 0x4000000, 1, 0x4000000, 0x0, 0x0, 0x0, 0x4000000, 0x0, 0x60000000⟩,
    ⟨0x80008, 1, 0x4000000, 1, 0x4000000, 0x0, 0x0, 0x0, 0x0, 0x0, 0x0⟩,
    ⟨0x8000C, 1, 0x4000000, 1, 0x4000000, 0x0, 0x0, 0x0, 0x0, 0x0, 0x0⟩,
    ⟨0x80010, 1, 0x4000000, 1, 0x4000000, 0xFFFFFFFF, 0x0, 0x0, 0x0, 0xFFFFFFFF, 0x0⟩,
    ⟨0x80014, 1, 0x4000000, 1, 0x4000000, 0x3, 0x0, 0x0, 0x0, 0x3, 0x0⟩,
    ⟨0x80018, 1, 0x4000000, 1, 0x4000000, 0x0, 0x0, 0x0, 0x0, 0x0, 0x0⟩,
    ⟨0x8001C, 1, 0x4000000, 1, 0x4000000, 0x0, 0x0, 0x0, 0x0, 0x0, 0x0⟩,
    ⟨0x80020, 1, 0x4000000, 1, 0x4000000, 0xC7FFFFFF, 0x0, 0x0, 0x0, 0xC7FFFFFF, 0x45DC0000⟩,
    ⟨0x80024, 1, 0x4000000, 1, 0x4000000, 0xC000FFFF, 0x0, 0x0, 0x0, 0x0, 0x1000⟩,
    ⟨0x80028, 1, 0x4000000, 1, 0x4000000, 0x0, 0x0, 0x0, 0xFFFFFFFF, 0x0, 0x0⟩,
    ⟨0x8002C, 1, 0x4000000, 1, 0x4000000, 0x0, 0x0, 0x0, 0x0, 0x0, 0x0⟩,
    ⟨0x80040, 4, 0x10, 1, 0x10, 0xC0FFFFFF, 0x0, 0x0, 0x20000000, 0x0, 0x80008⟩,
    ⟨0x80044, 4, 0x10, 1, 0x10, 0xFFFFFFFF, 0x0, 0x0, 0x0, 0x0, 0x4000⟩,
    ⟨0x80048, 4, 0x10, 1, 0x10, 0xFFFFFFFF, 0x0, 0x0, 0x0, 0x0, 0x0⟩ ]

/-- The registers of the block at 0x90000. -/
def regRows9 : List RegRow :=
  [ ⟨0x90000, 1, 0x4000000, 1, 0x4000000, 0x0, 0x0, 0x0, 0x100000, 0x0, 0xC0000000⟩,
    ⟨0x90004, 1, 0x4000000, 1, 0x4000000, 0x0, 0x0, 0x0, 0x0, 0x0, 0x0⟩,
    ⟨0x90008, 1, 0x4000000, 1, 0x4000000, 0x0, 0x0, 0x0, 0x0, 0x0, 0xFFFFFFFF⟩,
    ⟨0x9000C, 1, 0x4000000, 1, 0x4000000, 0x0, 0x0, 0x0, 0x0, 0x0, 0x0⟩,
    ⟨0x90010, 1, 0x4000000, 1, 0x4000000, 0x0, 0x0, 0x0, 0x0, 0x0, 0x0⟩,
    ⟨0x90014, 1, 0x4000000, 1, 0x4000000, 0x0, 0x0, 0x0, 0x0, 0x0, 0x0⟩,
    ⟨0x90018, 1, 0x4000000, 1, 0x4000000, 0x0, 0x0, 0x0, 0x0, 0x0, 0x0⟩,
    ⟨0x9001C, 1, 0x4000000, 1, 0x4000000, 0x0, 0x0, 0x0, 0x0, 0x0, 0x0⟩,
    ⟨0x90020, 1, 0x4000000, 1, 0x4000000, 0x0, 0x0, 0x0, 0x0, 0x0, 0x25⟩,
    ⟨0x90024, 1, 0x4000000, 1, 0x4000000, 0x0, 0x0, 0x0, 0x0, 0x0, 0x0⟩,
    ⟨0x90028, 1, 0x4000000, 1, 0x4000000, 0x0, 0x0, 0x0, 0x0, 0x0, 0x0⟩,
    ⟨0x90040, 1, 0x4000000, 1, 0x4000000, 0xFFF00FF, 0x0, 0x0, 0x0, 0x0, 0x0⟩,
    ⟨0x90044, 1, 0x4000000, 1, 0x4000000, 0x0, 0x0, 0x60000000, 0x0, 0x0, 0x0⟩,
    ⟨0x90800, 512, 0x4, 1, 0x4, 0xFFFFFFFF, 0x0, 0x0, 0x0, 0x0, 0x0⟩ ]

/-- The registers of the block at 0xA0000. -/
def regRowsA : List RegRow :=
  [ ⟨0xA0000, 32, 0x20, 1, 0x20, 0xC003FFFF, 0x0, 0x0, 0x0, 0xC003FFFF, 0x5F20⟩,
    ⟨0xA0004, 32, 0x20, 1, 0x20, 0x0, 0x0, 0x0, 0x4000FFFF, 0x0, 0x0⟩,
    ⟨0xA0008, 32, 0x20, 1, 0x20, 0x0, 0x0, 0x0, 0xFFFFFFFF, 0x0, 0x0⟩,
    ⟨0xA4000, 256, 0x10, 1, 0x10, 0xFFFFFFFF, 0x0, 0x0, 0x0, 0x0, 0x0⟩,
    ⟨0xA4004, 256, 0x10, 1, 0x10, 0xFFFFFFFF, 0x0, 0x0, 0x0, 0x0, 0x0⟩,
    ⟨0xA4008, 256, 0x10, 1, 0x10, 0xFFFFFFFF, 0x0, 0x0, 0x0, 0x0, 0x0⟩,
    ⟨0xA400C, 256, 0x10, 1, 0x10, 0x1FFFF, 0x0, 0x0, 0x0, 0x0, 0x0⟩,
    ⟨0xA6000, 8, 0x4, 1, 0x4, 0x80000000, 0x0, 0x0, 0x7F000000, 0x80000000, 0x0⟩,
    ⟨0xA6020, 8, 0x4, 1, 0x4, 0xFFFFFFFF, 0x0, 0x0, 0x0, 0xFFFFFFFF, 0x0⟩,
    ⟨0xA7000, 16, 0x10, 1, 0x10, 0xFFFFFFFF, 0x0, 0x0, 0x0, 0xFFFFFFFF, 0xE00000⟩,
    ⟨0xA7004, 16, 0x10, 1, 0x10, 0xFFFFFFFF, 0x0, 0x0, 0x0, 0xFFFFFFFF, 0x0⟩,
    ⟨0xA7008, 16, 0x10, 1, 0x10, 0x0, 0x0, 0x0, 0x400FFFFF, 0x0, 0x0⟩,
    ⟨0xAF000, 1, 0x4000000, 1, 0x4000000, 0xBFFFFFE0, 0x0, 0x0, 0x0, 0x0, 0x0⟩,
    ⟨0xAF004, 1, 0x4000000, 1, 0x4000000, 0xFFFFFFFF, 0x0, 0x0, 0x0, 0x0, 0x0⟩,
    ⟨0xAF008, 1, 0x4000000, 1, 0x4000000, 0x7FFF, 0x0, 0x0, 0x0, 0x0, 0x0⟩,
    ⟨0xAF00C, 1, 0x4000000, 1, 0x4000000, 0x1FFF, 0x0, 0x0, 0x0, 0x0, 0x0⟩,
    ⟨0xAF010, 1, 0x4000000, 1, 0x4000000, 0x0, 0x0, 0x0, 0x0, 0x0, 0x0⟩,
    ⟨0xAF100, 32, 0x4, 1, 0x4, 0x80007FFF, 0x0, 0x0, 0x0, 0x80007FFF, 0x0⟩,
    ⟨0xAF180, 32, 0x4, 1, 0x4, 0x0, 0x0, 0x0, 0xFFFFFFFF, 0x0, 0x0⟩ ]

/-- The registers of the block at 0xB0000. -/
def regRowsB : List RegRow :=
  [ ⟨0xB0000, 32, 0x20, 1, 0x20, 0x3, 0x0, 0x0, 0x0, 0x3, 0x0⟩,
    ⟨0xB0004, 32, 0x20, 1, 0x20, 0x0, 0x0, 0x0, 0x0, 0x0, 0x0⟩,
    ⟨0xB0008, 32, 0x20, 1, 0x20, 0x0, 0x0, 0x0, 0x20000000, 0x0, 0x0⟩,
    ⟨0xB000C, 32, 0x20, 1, 0x20, 0x0, 0x0, 0x0, 0x0, 0x0, 0x0⟩,
    ⟨0xB0400, 1, 0x4000000, 1, 0x4000000, 0x7F03FF, 0x0, 0x0, 0x0, 0x7F03FF, 0x100014⟩ ]

/-- The registers of the block at 0xC0000. -/
def regRowsC : List RegRow :=
  [ ⟨0xC0000, 1, 0x4000000, 1, 0x4000000, 0x3F, 0x0, 0x0, 0x0, 0x3F, 0x3A⟩,
    ⟨0xC0100, 16, 0x4, 1, 0x4, 0x0, 0x0, 0x0, 0x0, 0x0, 0x0⟩ ]

/-- The registers of the block at 0xD0000. -/
def regRowsD : List RegRow :=
  [ ⟨0xD0000, 1, 0x4000000, 1, 0x4000000, 0x3, 0x0, 0x20000000, 0x0, 0x0, 0x0⟩,
    ⟨0xD0010, 5, 0x4, 1, 0x4, 0xFFFF, 0x0, 0x0, 0x0, 0xFFFF, 0xFFFF⟩,
    ⟨0xD0040, 16, 0x4, 1, 0x4, 0x0, 0x0, 0x0, 0xFFFFFFFF, 0x0, 0x0⟩,
    ⟨0xD0100, 32, 0x4, 1, 0x4, 0x37, 0x0, 0x0, 0x0, 0x37, 0x7⟩,
    ⟨0xD0180, 32, 0x4, 1, 0x4, 0x0, 0x0, 0x0, 0xFFFF, 0x0, 0x70000000⟩,
    ⟨0xD0200, 1, 0x4000000, 1, 0x4000000, 0x0, 0x0, 0x0, 0x1, 0x0, 0x0⟩,
    ⟨0xD0204, 1, 0x4000000, 1, 0x4000000, 0x0, 0x0, 0x0, 0x1, 0x0, 0x0⟩ ]

/-- The registers of the block at 0xE0000. -/
def regRowsE : List RegRow :=
  [ ⟨0xE0000, 1, 0x4000000, 1, 0x4000000, 0xFFFFF, 0x0, 0x0, 0x0, 0xFFFFF, 0x0⟩,
    ⟨0xE0004, 1, 0x4000000, 1, 0x4000000, 0xFFFFFFFF, 0x0, 0x0, 0x0, 0xFFFFFFFF, 0xFFFFFFFF⟩,
    ⟨0xE0008, 1, 0x4000000, 1, 0x4000000, 0x8000FFFF, 0x0, 0x0, 0x0, 0x8000FFFF, 0x8000FFFF⟩,
    ⟨0xE0010, 1, 0x4000000, 1, 0x4000000, 0x0, 0x0, 0x0, 0xFFFF, 0x0, 0x0⟩,
    ⟨0xE0014, 1, 0x4000000, 1, 0x4000000, 0x0, 0x0, 0x80000000, 0x0, 0x0, 0x0⟩,
    ⟨0xE0018, 1, 0x4000000, 1, 0x4000000, 0x0, 0x0, 0xFF, 0x0, 0x0, 0x0⟩,
    ⟨0xE0020, 1, 0x4000000, 1, 0x4000000, 0x0, 0x0, 0x0, 0x1, 0x0, 0x0⟩,
    ⟨0xE0024, 1, 0x4000000, 1, 0x4000000, 0x0, 0x0, 0x0, 0x1, 0x0, 0x0⟩,
    ⟨0xE0028, 1, 0x4000000, 1, 0x4000000, 0x0, 0x0, 0x0, 0xFFFFFFFF, 0x0, 0x0⟩,
    ⟨0xE002C, 1, 0x4000000, 1, 0x4000000, 0x0, 0x0, 0x0, 0x1, 0x0, 0x0⟩,
    ⟨0xE0030, 1, 0x4000000, 1, 0x4000000, 0x7FFFFFC0, 0x0, 0x0, 0x0, 0x0, 0x0⟩,
    ⟨0xE0034, 1, 0x4000000, 1, 0x4000000, 0x0, 0x0, 0x0, 0x80000000, 0x0, 0x0⟩,
    ⟨0xE0100, 32, 0x4, 1, 0x4, 0x0, 0x0, 0x0, 0xFFFFFFFF, 0x0, 0x0⟩,
    ⟨0xE0180, 16, 0x4, 1, 0x4, 0x0, 0x0, 0x0, 0xFFFFFFFF, 0x0, 0x0⟩,
    ⟨0xE01C0, 4, 0x4, 1, 0x4, 0x0, 0x0, 0x0, 0xFFFFFFFF, 0x0, 0x0⟩,
    ⟨0xE0800, 4, 0x4, 1, 0x4, 0x0, 0x0, 0x0, 0x0, 0x0, 0x0⟩,
    ⟨0xE0810, 1, 0x4000000, 1, 0x4000000, 0x0, 0x0, 0x0, 0x1, 0x0, 0x0⟩,
    ⟨0xE0814, 1, 0x4000000, 1, 0x4000000, 0x0, 0x0, 0x0, 0x0, 0x0, 0x0⟩,
    ⟨0xE0818, 1, 0x4000000, 1, 0x4000000, 0x0, 0x0, 0x0, 0x1, 0x0, 0x0⟩,
    ⟨0xE0820, 4, 0x4, 1, 0x4, 0x0, 0x0, 0x0, 0x0, 0x0, 0x0⟩,
    ⟨0xE0830, 1, 0x4000000, 1, 0x4000000, 0x0, 0x0, 0x0, 0x1, 0x0, 0x0⟩,
    ⟨0xE0834, 1, 0x4000000, 1, 0x4000000, 0x0, 0x0, 0x0, 0x1, 0x0, 0x0⟩,
    ⟨0xE0838, 1, 0x4000000, 1, 0x4000000, 0x0, 0x0, 0x0, 0x0, 0x0, 0x0⟩ ]

/-- The registers of the block at 0xF0000. -/
def regRowsF : List RegRow :=
  [ ⟨0xF0000, 1, 0x4000000, 1, 0x4000000, 0x0, 0x0, 0x0, 0x0, 0x0, 0x0⟩,
    ⟨0xF0004, 1, 0x4000000, 1, 0x4000000, 0x0, 0x0, 0x0, 0x0, 0x0, 0x0⟩,
    ⟨0xF0008, 1, 0x4000000, 1, 0x4000000, 0xF0000FFF, 0x0, 0x0, 0x0, 0x0, 0x0⟩,
    ⟨0xF000C, 1, 0x4000000, 1, 0x4000000, 0x0, 0x0, 0x0, 0x0, 0x0, 0x20FE0000⟩,
    ⟨0xF0010, 1, 0x4000000, 1, 0x4000000, 0x0, 0x0, 0x0, 0x0, 0x0, 0x0⟩,
    ⟨0xF0014, 1, 0x4000000, 1, 0x4000000, 0x0, 0x0, 0x0, 0x1, 0x0, 0x0⟩,
    ⟨0xF0018, 1, 0x4000000, 1, 0x4000000, 0x0, 0x0, 0x0, 0xFFFFFFFF, 0x0, 0x0⟩,
    ⟨0xF001C, 1, 0x4000000, 1, 0x4000000, 0x0, 0x0, 0x0, 0xFFFFFFFF, 0x0, 0x0⟩,
    ⟨0xF0100, 9, 0x4, 1, 0x4, 0x0, 0x0, 0x0, 0xFFFF, 0x0, 0x0⟩,
    ⟨0xF0140, 9, 0x4, 1, 0x4, 0x0, 0x0, 0xC0000000, 0xFF00, 0x0, 0x1000⟩,
    ⟨0xF0F00, 1, 0x4000000, 1, 0x4000000, 0x1F, 0x0, 0x0, 0x0, 0x0, 0x10⟩,
    ⟨0xF0F04, 1, 0x4000000, 1, 0x4000000, 0x0, 0x0, 0x0, 0x0, 0x0, 0x0⟩,
    ⟨0xF1000, 3, 0x400, 256, 0x4, 0x0, 0x0, 0x0, 0x0, 0x0, 0x20FE0000⟩,
    ⟨0xF2000, 3, 0x400, 256, 0x4, 0x0, 0x0, 0x0, 0x0, 0x0, 0x0⟩ ]

/-- The registers of the block at 0x100000. -/
def regRows10 : List RegRow :=
  [ ⟨0x100000, 4, 0x10000, 1, 0x10000, 0x7, 0x0, 0x0, 0x0, 0x107, 0x0⟩,
    ⟨0x100004, 4, 0x10000, 1, 0x10000, 0x0, 0x0, 0x0, 0x2000000, 0x0, 0x0⟩,
    ⟨0x100008, 4, 0x10000, 1, 0x10000, 0x0, 0x0, 0x0, 0x0, 0x0, 0x0⟩,
    ⟨0x10000C, 4, 0x10000, 1, 0x10000, 0x0, 0x0, 0x0, 0x0, 0x0, 0xF0⟩,
    ⟨0x100010, 4, 0x10000, 1, 0x10000, 0x0, 0x0, 0x0, 0x0, 0x0, 0x0⟩,
    ⟨0x100014, 4, 0x10000, 1, 0x10000, 0x0, 0x0, 0x0, 0x0, 0x0, 0x0⟩,
    ⟨0x100018, 4, 0x10000, 1, 0x10000, 0x0, 0x0, 0x0, 0x0, 0x0, 0x0⟩,
    ⟨0x10001C, 4, 0x10000, 1, 0x10000, 0x0, 0x0, 0x0, 0x0, 0x0, 0x0⟩,
    ⟨0x100020, 4, 0x10000, 1, 0x10000, 0x0, 0x0, 0x0, 0xFFFF0000, 0x0, 0x0⟩,
    ⟨0x100024, 4, 0x10000, 1, 0x10000, 0x0, 0x0, 0x0, 0x0, 0x0, 0x0⟩,
    ⟨0x100028, 4, 0x10000, 1, 0x10000, 0x0, 0x0, 0x0, 0x0, 0x0, 0x0⟩,
    ⟨0x100100, 4, 0x10000, 32, 0x4, 0x0, 0x0, 0x0, 0x0, 0x0, 0x0⟩,
    ⟨0x100800, 2, 0x4, 1, 0x4, 0x0, 0x0, 0x0, 0x0, 0x0, 0x0⟩,
    ⟨0x100808, 1, 0x4000000, 1, 0x4000000, 0x0, 0x0, 0x0, 0x0, 0x0, 0x0⟩ ]

/-- The registers of the block at 0x200000. -/
def regRows20 : List RegRow :=
  [ ⟨0x200000, 32, 0x10000, 1, 0x10000, 0x0, 0x0, 0x0, 0x0, 0x0, 0x0⟩,
    ⟨0x200010, 32, 0x10000, 1, 0x10000, 0x7FFFFF, 0x0, 0x0, 0x0, 0x0, 0x0⟩,
    ⟨0x200014, 32, 0x10000, 1, 0x10000, 0x7FFFFF, 0x0, 0x0, 0x0, 0x0, 0x0⟩,
    ⟨0x200018, 32, 0x10000, 1, 0x10000, 0x7E0FFFFF, 0x0, 0x0, 0x0, 0x0, 0x0⟩,
    ⟨0x20001C, 32, 0x10000, 1, 0x10000, 0x0, 0x0, 0x0, 0x0, 0x0, 0x0⟩,
    ⟨0x200020, 32, 0x10000, 1, 0x10000, 0x0, 0x0, 0x0, 0x80000000, 0x0, 0x0⟩,
    ⟨0x200030, 32, 0x10000, 1, 0x10000, 0x0, 0x0, 0x0, 0x80000000, 0x0, 0x0⟩,
    ⟨0x208000, 32, 0x10000, 1024, 0x20, 0x0, 0x0, 0x0, 0x0, 0x0, 0x0⟩,
    ⟨0x208004, 32, 0x10000, 1024, 0x20, 0x0, 0x0, 0x0, 0x0, 0x0, 0x0⟩,
    ⟨0x208008, 32, 0x10000, 1024, 0x20, 0x0, 0x0, 0x0, 0x0, 0x0, 0x0⟩,
    ⟨0x20800C, 32, 0x10000, 1024, 0x20, 0x0, 0x0, 0x0, 0x0, 0x0, 0x40000000⟩,
    ⟨0x208010, 32, 0x10000, 1024, 0x20, 0x0, 0x0, 0x0, 0x0, 0x0, 0x0⟩,
    ⟨0x208014, 32, 0x10000, 1024, 0x20, 0xE000FFFF, 0x0, 0x0, 0x0, 0xE000FFFF, 0xF0⟩,
    ⟨0x208018, 32, 0x10000, 1024, 0x20, 0x0, 0x0, 0x0, 0xFFFFFFFF, 0x0, 0x0⟩ ]

/-- The registers of the block at 0x500000. -/
def regRows50 : List RegRow :=
  [ ⟨0x500000, 1, 0x4000000, 1, 0x4000000, 0x1F, 0x0, 0x0, 0x0, 0x0, 0x0⟩,
    ⟨0x500004, 1, 0x4000000, 1, 0x4000000, 0x0, 0x0, 0x0, 0x10800000, 0x0, 0x0⟩,
    ⟨0x500010, 1, 0x4000000, 1, 0x4000000, 0x7F007F, 0x0, 0x0, 0x0, 0x0, 0x10000⟩,
    ⟨0x500014, 1, 0x4000000, 1, 0x4000000, 0xEFFFF07F, 0x0, 0x0, 0x0, 0x0, 0x0⟩,
    ⟨0x500018, 1, 0x4000000, 1, 0x4000000, 0xFFFFFFFF, 0x0, 0x0, 0x0, 0x0, 0x0⟩,
    ⟨0x50001C, 1, 0x4000000, 1, 0x4000000, 0xFFFFFFFF, 0x0, 0x0, 0x0, 0x0, 0x0⟩,
    ⟨0x500020, 1, 0x4000000, 1, 0x4000000, 0x83FFFFFF, 0x0, 0x0, 0x0, 0x0, 0xF0⟩,
    ⟨0x500024, 1, 0x4000000, 1, 0x4000000, 0x80FFFFFF, 0x0, 0x0, 0x0, 0x0, 0x78000⟩,
    ⟨0x500040, 16, 0x4, 1, 0x4, 0x80007FFF, 0x0, 0x0, 0x0, 0x0, 0x0⟩,
    ⟨0x500080, 2, 0x8, 1, 0x8, 0x0, 0x0, 0x0, 0x0, 0x0, 0x0⟩,
    ⟨0x500084, 2, 0x8, 1, 0x8, 0x0, 0x0, 0x0, 0x0, 0x0, 0x0⟩,
    ⟨0x5000A0, 1, 0x4000000, 1, 0x4000000, 0x0, 0x0, 0x0, 0xFFFF, 0x0, 0x0⟩,
    ⟨0x5000A4, 1, 0x4000000, 1, 0x4000000, 0x0, 0x0, 0x0, 0x80000000, 0x0, 0x0⟩,
    ⟨0x5000A8, 1, 0x4000000, 1, 0x4000000, 0x0, 0x0, 0x0, 0xFFFFFFFF, 0x0, 0x0⟩ ]

/-- The registers of the block at 0x600000. -/
def regRows60 : List RegRow :=
  [ ⟨0x600000, 1, 0x4000000, 1, 0x4000000, 0x0, 0x0, 0x0, 0x0, 0x0, 0x0⟩,
    ⟨0x600004, 1, 0x4000000, 1, 0x4000000, 0x0, 0x0, 0x40000000, 0x20000000, 0x0, 0x0⟩,
    ⟨0x600008, 1, 0x4000000, 1, 0x4000000, 0x0, 0x0, 0x0, 0x0, 0x0, 0x0⟩,
    ⟨0x60000C, 1, 0x4000000, 1, 0x4000000, 0x0, 0x0, 0x0, 0x0, 0x0, 0x0⟩,
    ⟨0x600010, 1, 0x4000000, 1, 0x4000000, 0xFFFFFFFC, 0x0, 0x0, 0x0, 0x0, 0x0⟩,
    ⟨0x600014, 1, 0x4000000, 1, 0x4000000, 0xFFFFFFFF, 0x0, 0x0, 0x0, 0x0, 0x0⟩,
    ⟨0x600018, 1, 0x4000000, 1, 0x4000000, 0x7FFFFF, 0x0, 0x0, 0x0, 0x0, 0x0⟩,
    ⟨0x60001C, 1, 0x4000000, 1, 0x4000000, 0x3, 0x0, 0x0, 0x0, 0x0, 0x0⟩,
    ⟨0x600020, 2, 0x4, 1, 0x4, 0x0, 0x0, 0x0, 0x0, 0x0, 0x0⟩,
    ⟨0x600040, 16, 0x4, 1, 0x4, 0xFFFFFFFF, 0x0, 0x0, 0x0, 0x0, 0x0⟩,
    ⟨0x600080, 16, 0x4, 1, 0x4, 0x0, 0x0, 0x0, 0x0, 0x0, 0x0⟩,
    ⟨0x6000C0, 16, 0x4, 1, 0x4, 0x0, 0x0, 0x0, 0x0, 0x0, 0x0⟩ ]

/-- The block number of an offset, the SEQ and QC blocks folded to their first (Table 26-2). -/
def regBlock (off : Nat) : Nat :=
  if off < 0x100000 then off / 0x10000
  else if off < 0x140000 then 0x10
  else if off < 0x200000 then 0x14
  else if off < 0x400000 then 0x20
  else off / 0x10000

/-- The rows of an offset's block. -/
def regRowsOf (off : Nat) : List RegRow :=
  match regBlock off with
  | 0x0 => regRows0
  | 0x1 => regRows1
  | 0x2 => regRows2
  | 0x3 => regRows3
  | 0x4 => regRows4
  | 0x5 => regRows5
  | 0x6 => regRows6
  | 0x7 => regRows7
  | 0x8 => regRows8
  | 0x9 => regRows9
  | 0xA => regRowsA
  | 0xB => regRowsB
  | 0xC => regRowsC
  | 0xD => regRowsD
  | 0xE => regRowsE
  | 0xF => regRowsF
  | 0x10 => regRows10
  | 0x20 => regRows20
  | 0x50 => regRows50
  | 0x60 => regRows60
  | _ => []

/-- A row holds an offset: the offset is one of the row's registers (R591). -/
def RegRow.has (r : RegRow) (off : Nat) : Bool :=
  decide (r.base ≤ off) && decide ((off - r.base) / r.s1 < r.n1) &&
  decide ((off - r.base) % r.s1 / r.s2 < r.n2) && decide ((off - r.base) % r.s1 % r.s2 = 0)

/-- The row of the register at an offset, if any (R587: none means unassigned or in no block). -/
def regRow (off : Nat) : Option RegRow := (regRowsOf off).find? (·.has off)

/-- A field of a register word. -/
def fldGet (f : Fld) (w : Word) : Nat := w.toNat / 2 ^ f.lo % 2 ^ f.w

/-- A register word with a field replaced. -/
def fldPut (f : Fld) (w : Word) (v : Nat) : Word :=
  (w &&& ~~~(BitVec.ofNat 32 ((2 ^ f.w - 1) * 2 ^ f.lo))) ||| BitVec.ofNat 32 (v % 2 ^ f.w * 2 ^ f.lo)

end Sys2Proof.Machine
end

