-- ==== Sys2Proof/Machine/Sources.lean ====
section
/-!
DEFINITION. Sys2Proof/Machine/Sources.lean: the numbers of the event sources (R506 and the source table of each
chapter) and the severity each carries (R507).
-/
namespace Sys2Proof.Machine
open Sys2Proof

/-! 21_events_interrupts.md -/
def Ev.EVT_OVERFLOW : Nat := 0
/-! 02_tine.md -/
def Ev.PLANE_UPSET (k : Nat) : Nat := 840 + k
def Ev.PLANE_UNCORR (k : Nat) : Nat := 844 + k
/-! 03_antler_routing.md -/
def Ev.SHAFT_CORR (k : Nat) : Nat := 896 + k
def Ev.SHAFT_SWAP (k : Nat) : Nat := 899 + k
def Ev.SHAFT_SPARES_GONE (k : Nat) : Nat := 902 + k
def Ev.SHAFT_FAILED (k : Nat) : Nat := 905 + k
def Ev.SHAFT_CONFLICT (k : Nat) : Nat := 908 + k
/-! 04_contexts.md -/
def Ev.PLANE_BUSY (k : Nat) : Nat := 512 + 32 * k + 16
def Ev.SLOT_INVALID (k : Nat) : Nat := 512 + 32 * k + 17
def Ev.SWITCH_STALL (k : Nat) : Nat := 512 + 32 * k + 18
def Ev.SWITCH_REFUSED (k : Nat) : Nat := 512 + 32 * k + 19
def Ev.REGION_HELD (k : Nat) : Nat := 848 + k
def Ev.BROWSE_LATE (k : Nat) : Nat := 852 + k
/-! 05_horn_blocks.md -/
def Ev.HORN_CCORR (k : Nat) : Nat := 200 + k
def Ev.HORN_CUNCORR (k : Nat) : Nat := 204 + k
/-! 06_sequencer_model.md -/
def Ev.SEQ_STARTED (k : Nat) : Nat := 512 + 32 * k + 0
def Ev.SEQ_STOPPED (k : Nat) : Nat := 512 + 32 * k + 1
def Ev.DEADLINE_MISS (k : Nat) : Nat := 512 + 32 * k + 2
def Ev.SEQ_FAULT (k : Nat) : Nat := 512 + 32 * k + 3
def Ev.ALT_TAKEN (k : Nat) : Nat := 512 + 32 * k + 4
def Ev.BARRIER_TIMEOUT (k : Nat) : Nat := 512 + 32 * k + 5
def Ev.WAIT_TIMEOUT (k : Nat) : Nat := 512 + 32 * k + 6
def Ev.PGM_CORR (k : Nat) : Nat := 512 + 32 * k + 7
def Ev.PGM_UNCORR (k : Nat) : Nat := 512 + 32 * k + 8
def Ev.FLAG_OVERRUN (k : Nat) : Nat := 512 + 32 * k + 9
/-! 07_saeno_reference.md -/
def Ev.CAPTURE_BUSY (k : Nat) : Nat := 512 + 32 * k + 10
def Ev.HCOEF_POISON (k : Nat) : Nat := 512 + 32 * k + 11
def Ev.QUEUE_POISON (k : Nat) : Nat := 512 + 32 * k + 12
/-! 08_air_time.md -/
def Ev.AT_RELEASED : Nat := 800
def Ev.AT_EPOCH_END : Nat := 801
def Ev.AT_SLEW_START : Nat := 802
def Ev.AT_SLEW_DONE : Nat := 803
def Ev.AT_DEGRADED : Nat := 804
def Ev.AT_COPY_CORR : Nat := 805
def Ev.AT_COPY_FAIL : Nat := 806
def Ev.FH_DEP_LATE : Nat := 807
def Ev.FH_DEP_DROP : Nat := 808
def Ev.FH_DEP_POISON : Nat := 809
def Ev.SYSREF_CFGERR : Nat := 810
def Ev.PPS_SUPPRESSED : Nat := 811
/-! 09_rinom_timekeeper.md -/
def Ev.TK_LOCKED : Nat := 768
def Ev.TK_ACQUIRING : Nat := 769
def Ev.TK_HOLDOVER : Nat := 770
def Ev.TK_FREERUN : Nat := 771
def Ev.TK_REF_QUAL : Nat := 772
def Ev.TK_REF_DISQUAL : Nat := 773
def Ev.TK_REF_SWITCH : Nat := 774
def Ev.TK_TIME_STEP : Nat := 775
def Ev.TK_LEAP_PENDING : Nat := 776
def Ev.TK_MODEL_REFIT : Nat := 777
def Ev.TK_MODEL_EXTRAP : Nat := 778
def Ev.TK_BOUND_HIGH : Nat := 779
def Ev.TK_MB_DONE : Nat := 780
def Ev.TK_RESTART : Nat := 781
def Ev.TK_ATOFF : Nat := 782
/-! 10_memory_layer.md -/
def Ev.MEM_COLLIDE : Nat := 128
def Ev.MEM_DENIED : Nat := 129
def Ev.MEM_OWNER_DONE : Nat := 130
def Ev.MEM_CMO_DONE : Nat := 131
/-! 11_queues.md -/
def Ev.QC_OVERFLOW (c : Nat) : Nat := 256 + 8 * c + 0
def Ev.QC_HOL (c : Nat) : Nat := 256 + 8 * c + 1
def Ev.QC_POISON (c : Nat) : Nat := 256 + 8 * c + 2
def Ev.QC_PERM (c : Nat) : Nat := 256 + 8 * c + 3
def Ev.QC_DBERR (c : Nat) : Nat := 256 + 8 * c + 4
def Ev.QC_SEQERR (c : Nat) : Nat := 256 + 8 * c + 5
def Ev.QC_NOQUEUE (c : Nat) : Nat := 256 + 8 * c + 6
def Ev.FH_UNMATCHED : Nat := 700
def Ev.FH_RX_DROP : Nat := 701
/-! 12_ecc_repair.md -/
def Ev.MEM_CORR : Nat := 144
def Ev.MEM_UNCORR : Nat := 145
def Ev.CFGL_CORR : Nat := 146
def Ev.ECC_WB_OVF : Nat := 147
def Ev.BROWSE_LATE_M : Nat := 148
def Ev.BROWSE_LATE_F : Nat := 149
def Ev.GRAZE_FAIL : Nat := 150
def Ev.REPAIR_DONE : Nat := 151
def Ev.REPAIR_NOSPARE : Nat := 152
def Ev.REPAIR_FULL : Nat := 153
def Ev.ECC_HARD : Nat := 154
def Ev.TAG_LOST : Nat := 155
/-! 13_vertical_links.md -/
def Ev.VL_CORR : Nat := 911
def Ev.VL_SWAP : Nat := 912
def Ev.VL_SPARES_GONE : Nat := 913
def Ev.VL_LINK_FAILED : Nat := 914
def Ev.VL_RETRY : Nat := 915
def Ev.VL_RETRY_FAIL : Nat := 916
def Ev.VL_PHASE_WARN : Nat := 917
def Ev.VL_FIFO_SLIP : Nat := 918
def Ev.VL_FENCE_START : Nat := 919
def Ev.VL_FENCE_DONE : Nat := 920
def Ev.VL_ABORT : Nat := 921
def Ev.VL_LANETEST_FAIL : Nat := 922
def Ev.VL_BOND_FAILED : Nat := 923
/-! 14_configuration_loading.md -/
def Ev.CFG_LOAD_DONE : Nat := 832
def Ev.CFG_REJECT : Nat := 833
def Ev.CFG_BOOT_FAIL : Nat := 834
def Ev.CFG_FALLBACK : Nat := 835
def Ev.CFG_TEARDOWN : Nat := 836
def Ev.CFG_FLASH_DONE : Nat := 837
/-! 15_partial_readback.md -/
def Ev.CFG_RB_DONE : Nat := 856
def Ev.CFG_RB_ERR : Nat := 857
def Ev.CAP_TAKEN : Nat := 858
def Ev.CAP_MISSED : Nat := 859
/-! 16_clocks.md -/
def Ev.CLK_TRIP : Nat := 16
def Ev.CLK_DEGRADED : Nat := 17
def Ev.CLK_REF_SWITCH : Nat := 18
def Ev.CLK_OSC_FAIL : Nat := 19
def Ev.CLK_FOSC_RESTART : Nat := 20
def Ev.CLK_RETURNED : Nat := 21
def Ev.CLK_GATE_FORCED : Nat := 22
def Ev.CLK_GATED_ACCESS : Nat := 23
/-! 17_thermal.md -/
def Ev.THERM_BAND_UP : Nat := 48
def Ev.THERM_BAND_DOWN : Nat := 49
def Ev.THERM_GUARD_CHANGE : Nat := 50
def Ev.THERM_TRIP : Nat := 51
def Ev.THERM_LATCHED : Nat := 52
def Ev.THERM_SENSOR_BROKEN : Nat := 53
def Ev.THERM_RD_HIGH : Nat := 54
def Ev.THERM_GRADIENT : Nat := 55
/-! 18_external_interfaces.md -/
def Ev.FH_LINK_UP : Nat := 640
def Ev.FH_LINK_DOWN : Nat := 641
def Ev.FH_RX_ERR : Nat := 642
def Ev.FH_LAG_MEMBER : Nat := 643
def Ev.JESD_LINK_UP : Nat := 644
def Ev.JESD_LINK_DOWN : Nat := 645
def Ev.JESD_CRC : Nat := 646
def Ev.JESD_UNDERRUN : Nat := 647
def Ev.FH_PORT_CFGERR : Nat := 648
def Ev.PCIE_LINK_UP : Nat := 960
def Ev.PCIE_LINK_DOWN : Nat := 961
def Ev.PCIE_AER_CORR : Nat := 962
def Ev.PCIE_AER_UNCORR : Nat := 963
def Ev.HDMA_ERR : Nat := 964
def Ev.DDR_TRAIN_FAIL : Nat := 965
def Ev.DDR_RETRAIN : Nat := 966
def Ev.XSPI_ERR : Nat := 967
def Ev.HDMA_DONE (k : Nat) : Nat := 976 + k
/-! 19_calibration.md -/
def Ev.SDS_EYE_LOW : Nat := 649
def Ev.SDS_ADAPT_FAIL : Nat := 650
/-! 20_power_reset_startup.md -/
def Ev.BROWNOUT_WARN : Nat := 32
def Ev.BROWNOUT_START : Nat := 33
def Ev.RAIL_RESET : Nat := 34
def Ev.PWR_READY : Nat := 35
def Ev.PWR_WAKE : Nat := 36
def Ev.PWR_SEQERR : Nat := 37
def Ev.PWR_BOOT : Nat := 38
/-! 22_event_recorder.md -/
def Ev.REC_LOST : Nat := 8
def Ev.REC_FREEZE_END : Nat := 9
def Ev.REC_CLEARED : Nat := 10
def Ev.REC_CLEAR_REJ : Nat := 11
def Ev.REC_FFZ_FULL : Nat := 12
/-! 23_faults_guarantees.md -/
def Ev.FAB_RESTART : Nat := 64
def Ev.DEV_WDOG : Nat := 65
def Ev.DEV_WDOG_ESCALATE : Nat := 66
def Ev.BUS_TIMEOUT : Nat := 67
def Ev.VT_TIMEOUT : Nat := 68
def Ev.MGMT_WDOG : Nat := 69
def Ev.RESTART_SKIPPED : Nat := 70
/-! 24_replay.md -/
def Ev.RPL_FROZEN : Nat := 968
def Ev.RPL_SNAP_DONE : Nat := 969
def Ev.RPL_SNAP_FAIL : Nat := 970
def Ev.RPL_GAP : Nat := 971
def Ev.RPL_MISMATCH : Nat := 972
def Ev.RPL_DONE : Nat := 973
def Ev.RPL_GUARDDIFF : Nat := 974
/-! 25_settings_security.md -/
def Ev.NVS_STORED : Nat := 80
def Ev.NVS_DEFAULTS : Nat := 81
def Ev.NVS_STORE_FAIL : Nat := 82
def Ev.SEC_CMD_DONE : Nat := 83
def Ev.SEC_CMD_REJ : Nat := 84
def Ev.SEC_LIFECYCLE : Nat := 85
def Ev.SEC_REVOKED : Nat := 86
def Ev.SEC_KEY_ADDED : Nat := 87
def Ev.USER (k e : Nat) : Nat := 512 + 32 * k + 24 + e

def srcTab0 : List (Nat × Nat × Sev) :=
  [ (0, 0, .warning), (8, 8, .warning), (9, 9, .information), (10, 10, .warning), (11, 11, .warning), (12, 12, .information), (16, 16, .critical), (17, 17, .fatal), (18, 18, .warning), (19, 19, .critical), (20, 20, .critical), (21, 21, .information), (22, 22, .warning), (23, 23, .warning), (32, 32, .warning), (33, 33, .information), (34, 34, .critical), (35, 35, .information), (36, 36, .information), (37, 37, .critical), (38, 38, .information), (48, 48, .warning), (49, 49, .information), (50, 50, .information), (51, 51, .fatal), (52, 52, .fatal), (53, 53, .critical), (54, 54, .warning), (55, 55, .warning), (64, 64, .critical), (65, 65, .critical), (66, 66, .fatal) ]

def srcTab1 : List (Nat × Nat × Sev) :=
  [ (67, 67, .warning), (68, 68, .critical), (69, 69, .critical), (70, 70, .warning), (80, 80, .information), (81, 81, .warning), (82, 82, .critical), (83, 83, .information), (84, 84, .warning), (85, 85, .warning), (86, 86, .warning), (87, 87, .information), (128, 128, .warning), (129, 129, .warning), (130, 130, .information), (131, 131, .information), (144, 144, .correctable), (145, 145, .critical), (146, 146, .correctable), (147, 147, .warning), (148, 148, .warning), (149, 149, .warning), (150, 150, .critical), (151, 151, .information), (152, 152, .critical), (153, 153, .critical), (154, 154, .warning), (155, 155, .fatal), (200, 203, .correctable), (204, 207, .critical), (640, 640, .information), (641, 641, .warning) ]

def srcTab2 : List (Nat × Nat × Sev) :=
  [ (642, 642, .warning), (643, 643, .warning), (644, 644, .information), (645, 645, .critical), (646, 646, .warning), (647, 647, .warning), (648, 648, .warning), (649, 649, .warning), (650, 650, .critical), (700, 700, .information), (701, 701, .warning), (768, 768, .information), (769, 769, .information), (770, 770, .warning), (771, 771, .critical), (772, 772, .information), (773, 773, .warning), (774, 774, .information), (775, 775, .warning), (776, 776, .information), (777, 777, .information), (778, 778, .warning), (779, 779, .warning), (780, 780, .information), (781, 781, .critical), (782, 782, .critical), (800, 800, .information), (801, 801, .warning), (802, 802, .information), (803, 803, .information), (804, 804, .fatal), (805, 805, .correctable) ]

def srcTab3 : List (Nat × Nat × Sev) :=
  [ (806, 806, .fatal), (807, 807, .warning), (808, 808, .critical), (809, 809, .warning), (810, 810, .warning), (811, 811, .information), (832, 832, .information), (833, 833, .critical), (834, 834, .fatal), (835, 835, .warning), (836, 836, .warning), (837, 837, .information), (840, 843, .correctable), (844, 847, .fatal), (848, 851, .critical), (852, 855, .warning), (856, 856, .information), (857, 857, .warning), (858, 858, .information), (859, 859, .warning), (896, 898, .correctable), (899, 901, .information), (902, 904, .critical), (905, 907, .fatal), (908, 910, .warning), (911, 911, .correctable), (912, 912, .information), (913, 913, .critical), (914, 914, .fatal), (915, 915, .correctable), (916, 916, .fatal), (917, 917, .warning) ]

def srcTab4 : List (Nat × Nat × Sev) :=
  [ (918, 918, .fatal), (919, 919, .information), (920, 920, .information), (921, 921, .warning), (922, 922, .warning), (923, 923, .critical), (960, 960, .information), (961, 961, .critical), (962, 962, .correctable), (963, 963, .critical), (964, 964, .warning), (965, 965, .fatal), (966, 966, .information), (967, 967, .warning), (968, 968, .information), (969, 969, .information), (970, 970, .warning), (971, 971, .warning), (972, 972, .warning), (973, 973, .information), (974, 974, .warning), (976, 1007, .information) ]

/-- Offsets of the sources of a sequencer (Tables 6-12, 4-13, 7-8). -/
def srcTabSeq : List (Nat × Sev) :=
  [ (0, .information), (1, .information), (2, .warning), (3, .fatal), (4, .critical), (5, .critical), (6, .critical), (7, .correctable), (8, .fatal), (9, .warning), (10, .warning), (11, .critical), (12, .warning), (16, .warning), (17, .warning), (18, .information), (19, .critical) ]

/-- Offsets of the sources of a queue controller (Table 11-13). -/
def srcTabQc : List (Nat × Sev) :=
  [ (0, .warning), (1, .critical), (2, .critical), (3, .warning), (4, .warning), (5, .critical), (6, .warning) ]

/-- The fixed severity of an assigned source; none for a reserved source and for USER0 to USER7 (R506, R507). -/
def srcSev (s : Nat) : Option Sev :=
  if 256 ≤ s ∧ s < 512 then (srcTabQc.find? (fun e => e.1 == s % 8)).map (·.2)
  else if 512 ≤ s ∧ s < 640 then (srcTabSeq.find? (fun e => e.1 == s % 32)).map (·.2)
  else ((srcTab0 ++ srcTab1 ++ srcTab2 ++ srcTab3 ++ srcTab4).find? (fun e => decide (e.1 ≤ s ∧ s ≤ e.2.1))).map (·.2.2)

/-- USER0 to USER7 of a sequencer, whose severity each RAISE names (R507). -/
def srcUser (s : Nat) : Bool := decide (512 ≤ s ∧ s < 640 ∧ 24 ≤ s % 32)

/-- The assigned sources of each word of 32, one bit a source (R506). -/
def srcKnownWords : List Nat :=
  [ 0xFF1F01, 0xFF007F, 0xFF007F, 0x0, 0xFFF000F, 0x0, 0xFF00, 0x0, 0x7F7F7F7F, 0x7F7F7F7F, 0x7F7F7F7F, 0x7F7F7F7F, 0x7F7F7F7F, 0x7F7F7F7F, 0x7F7F7F7F, 0x7F7F7F7F, 0xFF0F1FFF, 0xFF0F1FFF, 0xFF0F1FFF, 0xFF0F1FFF, 0x7FF, 0x30000000, 0x0, 0x0, 0x7FFF, 0xFFF, 0xFFFFF3F, 0x0, 0xFFFFFFF, 0x0, 0xFFFF7FFF, 0xFFFF ]

/-- The assigned sources of a word. -/
def srcKnownWord (w : Nat) : Nat := srcKnownWords.getD w 0

/-- Sources some chapter assigns; every other number is reserved and never occurs (R506). -/
def srcKnown (s : Nat) : Bool := srcKnownWord (s / 32) / 2 ^ (s % 32) % 2 == 1

/-- Sources raised by a block in a FAB, CFGL, TL or FH_TS domain (R516). -/
def srcTimed (s : Nat) : Bool :=
  decide (512 ≤ s ∧ s < 640 ∨ 800 ≤ s ∧ s ≤ 811 ∨ 840 ≤ s ∧ s ≤ 855 ∨ 200 ≤ s ∧ s ≤ 207 ∨
    896 ≤ s ∧ s ≤ 910 ∨ s = 146 ∨ s = 149)

/-- Severity codes (Table 21-2). -/
def sevCode : Sev → Nat
  | .information => 0 | .correctable => 4 | .warning => 1 | .critical => 2 | .fatal => 3

/-- Severity ranks (Table 21-2). -/
def sevRank : Sev → Nat
  | .information => 0 | .correctable => 1 | .warning => 2 | .critical => 3 | .fatal => 4

/-- Rank of a severity code; a reserved code acts as 0x3 (EVT_CTL.ALERTSEV). -/
def sevCodeRank (c : Nat) : Nat :=
  if c = 0 then 0 else if c = 4 then 1 else if c = 1 then 2 else if c = 2 then 3 else 4

/-- Source class of a record from the event controller (Table 22-3). -/
def srcClass (s : Nat) : Nat :=
  if 8 ≤ s ∧ s ≤ 12 then 0x10
  else if s < 128 then 0 else if s < 256 then 1 else if s < 512 then 2 else if s < 640 then 3
  else if s < 768 then 4 else if s < 832 then 5 else if s < 896 then 6 else if s < 960 then 7 else 8

end Sys2Proof.Machine
end

