-- ==== Sys2Proof/Machine/State.lean ====
section
/-!
DEFINITION. Sys2Proof/Machine/State.lean: everything the spec gives the part, as plain data, and the part right after
power-on. A register whose content is only ever a register lives in `regs`, a sparse file over the register index of
Table 26-4; everything else has a home of its own here and its register view is computed (Machine/Views.lean).
-/
namespace Sys2Proof.Machine
open Sys2Proof

/-! ## Time (chapter 8) -/

/-- Settings of one SYSREF generator (R237). -/
structure SysCfg where
  en : Bool
  nshot : Bool
  count : Nat
  width : Nat
  period : Nat
  offset : Nat
  deriving DecidableEq, Repr

/-- One SYSREF generator: settings in force, the committed settings that wait for their frame boundary with the fc of
their write, oldest first (R238), pulses left under NSHOT, and the first fc in which the output is low again. -/
structure Sysref where
  cfg : SysCfg
  pend : List (SysCfg × Nat)
  left : Nat
  lowAt : Nat
  pulseAt : Nat         -- one more than the fc of its latest pulse; 0 none yet
  deriving DecidableEq, Repr

/-- The timeline unit (R217 to R240). -/
structure Timeline where
  fc : Nat              -- the model's own running number of the present fc
  running : Bool        -- the air-time family runs, so that fc boundaries occur (R223, Table 20-5)
  pre : Nat             -- pre-release count (R223)
  released : Bool       -- an epoch runs (R222)
  relFc : Nat           -- fc of the latest release (R222)
  at34 : Nat            -- AT (R217)
  hfn : Nat             -- hyperframe count (R217)
  epochs : Nat          -- epochs begun, saturating at 255
  offset : Nat          -- O as used at the release of the running epoch (R220)
  e0 : Int              -- epoch count e of R220 in the fc of that release
  sysref : Vector Sysref 4
  ppsLow : Nat          -- first fc in which PPS_OUT is low again (R239)
  ppsAt : Nat           -- one more than the fc of the latest whole second acted on; 0 none yet
  depAt : Nat           -- first fc in which R233 applies to heads since EN was set (R236)
  frameAt : Nat         -- one more than the fc of the latest frame boundary acted on; 0 none yet
  ask : Option Bool     -- what a write of TL_CTL has set going for the next fc: a release, or true a REBASE (R221, R224)
  copies : Vector (Vector Int 3) 5  -- the copies of AT, FAB1 to FAB4 and FH_TS: by how much each of their counters is off (R231)
  deriving DecidableEq, Repr

/-! ## Events (chapter 21) -/

/-- One occurrence of an event source that waits for its event cycle (R511, R515). -/
structure Occ where
  src : Nat
  sev : Sev
  time : Option Nat     -- full time of the occurrence once AT is released (R523)
  payload : List Word
  deriving DecidableEq, Repr

/-- What the event controller keeps for one source (R511, R515). -/
structure SrcInfo where
  count : Nat           -- occurrences, 16 bits
  time : Nat            -- full time of the latest occurrence; 0 before the release
  sev : Option Sev      -- severity of the latest occurrence (USER0 to USER7, R518)
  wait : List Occ       -- the occurrence presented and the waiting places behind it
  deriving DecidableEq, Repr

/-- A sequencer-input latch on its way: the inputs, and the fc it lands in where the source's domain fixes it (R516). -/
structure Latch where
  mask : Nat            -- sequencers, bit k for SEQk
  ein : Nat
  due : Option Nat
  src : Nat
  deriving DecidableEq, Repr

/-- Message enables of a PCIe function (R513): MSI-X Enable, Function Mask, Bus Master Enable. -/
structure PciFn where
  msixEn : Bool
  fnMask : Bool
  busMaster : Bool
  deriving DecidableEq, Repr

/-- The event controller. -/
structure Events where
  info : NMap SrcInfo        -- by source
  latches : List Latch       -- oldest first
  vec : NMap Bool            -- vectors whose state is 1 (R513)
  pba : NMap Bool            -- vectors whose message is withheld
  table : NMap Word          -- MSI-X table words, by 4 x vector + word
  fn : NMap PciFn            -- by function: 0 the PF, 1 + v the VF v
  deriving DecidableEq, Repr

/-! ## The event recorder (chapter 22) -/

/-- A record before it takes its SEQ (R522). -/
structure Rcd where
  sev : Sev
  type : Nat
  cls : Nat
  desc : Bool                -- carries DESC and the optional fields
  src : Nat
  wall : Option (Nat × Nat)  -- TAI seconds and nanoseconds when taken
  time : Option Nat          -- full time of the occurrence
  last : Nat                 -- full time of the latest folded repeat
  rep : Nat                  -- repeats folded
  payload : List Word
  deriving DecidableEq, Repr

/-- Where a written record stands: NVM offset, bytes occupied, SEQ. -/
structure RcdAt where
  off : Nat
  size : Nat
  seq : Nat
  deriving DecidableEq, Repr

/-- An accepted clear in progress (R532). -/
structure ClearJob where
  scope : Nat
  slot : Nat
  deriving DecidableEq, Repr

/-- The event recorder. -/
structure Recorder where
  nvm : NMap Byte            -- 1 MiB; an unlisted byte reads 0
  staged : List Rcd          -- the staging FIFO, oldest first (R528)
  ffz : List RcdAt           -- records in the first-fault zone, oldest first
  ring : List RcdAt          -- records in the ring, oldest first
  lastRec : Option (Rcd × Nat × Nat)  -- the last record written, its NVM offset and its PCC (R526)
  nonceOk : Bool             -- the nonce in REC_NONCE0-3 is valid (R532)
  clearing : Option ClearJob
  deriving DecidableEq, Repr

/-! ## Sequencers (chapters 6 and 7) -/

/-- Sequencer states (Table 6-4). -/
inductive SeqMode where
  | stopped | running | waitTime | waitBar | waitFlag | waitQueue | stall | faulted
  deriving DecidableEq, Repr

/-- One loop-stack entry (R198). -/
structure LoopEnt where
  start : Nat
  last : Nat
  remaining : Nat
  depth : Nat
  deriving DecidableEq, Repr

/-- What a sequencer waits for. -/
inductive Wait where
  | none
  | start (entry : Nat) (since : Nat)                -- a start pending at an entry, and the fc it counts from (R178, R222)
  | time (target : Nat) (due : Nat) (met : Bool)     -- a timeline wait, the fc in which the next instruction issues
  | barrier (flag : Fin 16) (mask : Nat) (since : Nat)
  | released (flag : Fin 16) (done due : Nat)        -- its barrier completed in fc `done`, its arrival is released and the next
                                                     -- instruction issues in fc `due` (R171)
  | flag (flag : Fin 16) (since : Nat)
  | queue (q : Nat) (full : Bool) (since : Nat)
  | stall (region : Fin 8) (plane : Fin 4) (since : Nat)
  deriving DecidableEq, Repr

/-- An access of a sequencer's memory port that has issued and is not done (R203, R208). -/
inductive PortOp where
  | push (q : Nat) (data : List Word) (issue : Nat) (pc : Nat)
  | pop (q : Nat) (d : Nat) (issue : Nat) (pc : Nat)
  | hcoef (mask src tile group count written issue pc : Nat)
  deriving DecidableEq, Repr

/-- What a performed queue access writes in the last fc of its issue cost (R186): destination, words, flags. -/
structure PortRes where
  due : Nat
  pc : Nat
  d : Nat
  data : List Word
  z : Option Bool
  c : Option Bool
  fault : Option Nat          -- a fault that arises when the next instruction would have issued (R207)
  deriving DecidableEq, Repr

/-- The state of one sequencer (Table 6-1, Table 6-4). -/
structure Seq where
  mode : SeqMode
  g : Vector Word 32
  pc : Nat                    -- address of the last instruction issued
  next : Nat                  -- address of the instruction that issues next
  due : Nat                   -- the fc it issues in, at the earliest
  issuedAt : Nat              -- one more than the fc of the last issue; 0 none yet
  n : Bool
  z : Bool
  c : Bool
  v : Bool
  sp : Nat                    -- schedule point, program time
  calls : List Nat            -- innermost first
  loops : List LoopEnt        -- innermost first
  evin : Word                 -- event inputs latched before the fc of the latest latch
  evNew : Word                -- those latched in that fc, not seen in it (R176, R196, R202, R212)
  evNewAt : Nat               -- one more than that fc
  inAlt : Bool
  inFault : Bool
  altPend : Option (Nat × Nat)   -- ALTPEND with the latest reason and region
  clrAlt : Bool               -- INALT clears when the next instruction issues (R165)
  clrFault : Bool             -- INFAULT clears when the next instruction issues (R168)
  quiet : Nat                 -- first fc in which INALT and INFAULT are both 0 (R165)
  wait : Wait
  stallCond : Option (Nat × Nat) -- ALT condition that arose during a stall (R165)
  stopReq : Option Nat        -- fc of a STOP write or a HALT that is not yet in effect (R179, R200)
  openEnd : Option (Nat × Nat) -- an issue cost at whose end the word issued counts a loop's pass: its end, and the loop's depth (R198)
  portAt : Nat                -- fc in which the latest of them was answered (R536)
  ports : List PortOp         -- accesses of its memory port that are not done, in order of issue (R203, R209)
  res : List PortRes          -- what they leave to write or to fault with, in order of issue
  deriving DecidableEq, Repr

/-- A shared signal flag (R174): set, and an earlier SIGNAL not yet visible. -/
structure SigFlag where
  set : Bool
  due : Option Nat
  deriving DecidableEq, Repr

/-! ## Fabric (chapters 2 to 5) -/

/-- Plane states (Table 4-1). -/
inductive PlaneSt where
  | empty | refilling | valid | invalid
  deriving DecidableEq, Repr

/-- One resident plane of a region: its state, the slot last filled into it, and the fc of the PREFETCH (or restart)
whose refill runs or ran last. -/
structure Plane where
  st : PlaneSt
  slot : Fin 32
  refillAt : Nat
  bad : Bool                 -- the refill has read an uncorrectable word (R116)
  filled : Bool := true      -- it holds a fill from that slot, or refills from it (R111)
  run : Bool := false        -- the beats of that refill come in (R114)
  ask : Option (Fin 32) := none  -- a PREFETCH accepted in the present fc: the slot it refills from, from the next fc on (R114)
  deriving DecidableEq, Repr

/-- A parity group whose mismatch has been detected (R68, R69): the fc in which the upset appeared, whether its plane was the
current one then (R71), and the fc in which its 64 bits were read from the stored slot, with that slot; none while it waits its
turn. -/
structure Upset where
  since : Nat
  act : Bool
  read : Option (Nat × Fin 32)
  deriving DecidableEq, Repr

/-- One region of a layer (R108). -/
structure Region where
  cur : Fin 4
  planes : Vector Plane 4
  nextCur : Option (Fin 4)   -- plane that becomes current at the next fc boundary (R117)
  pendSw : Option (Fin 4)    -- target of a stalled SWITCH (R118)
  heldAt : Option Nat        -- first fc in which the region is held (R122)
  guardAt : Option Nat       -- the fc that is a guard fc (R120)
  ovr : Option (Fin 4)       -- FLOPSEL override (R55)
  ovrNext : Option (Option (Fin 4))  -- override from the next fc (R194)
  curAt : Nat                -- one more than the fc from which the present plane is current; 0 none made current yet
  rsr : Option Nat           -- first fc of a regional set-reset that is not yet released (R393)
  deriving DecidableEq, Repr

/-- One horn operand set or half result in the pipeline (R138, R139). -/
structure HornOp where
  due : Nat                  -- fc from which its result is presented
  taken : Nat                -- fc that captured it
  mode : BitVec 64           -- the mode word it carries
  start : Bool
  vals : List Int            -- MAC, CMUL: P0 re im, P1 re im; FFT: y re im pairs; DOT: s re im
  err : Bool
  broke : Bool               -- stands for a discarded FFT4 first half (R140)
  deriving DecidableEq, Repr

/-- The first half of an FFT4 butterfly (R140). -/
structure FftHalf where
  taken : Nat
  mode : BitVec 64
  t0r : Int
  t0i : Int
  t1r : Int
  t1i : Int
  err : Bool
  ctr : Option Nat           -- the counter as the second half finds it, whatever the mode word does meanwhile
  deriving DecidableEq, Repr

/-- One horn block (R133 to R142). -/
structure Horn where
  acc : Vector Int 4         -- ACC0 re, im; ACC1 re, im
  ctr : Option Nat           -- coefficient counter; none: at CBASE
  lastMode : BitVec 64       -- mode word of the last capture
  pipe : List HornOp
  fft : Option FftHalf
  casc : List (Nat × Int × Int × Bool)  -- cascade outputs of the last two fc: the fc, s, ERR (R141)
  bus : BitVec 256
  newAt : Nat                -- one more than the fc in which the result on the bus was first presented; 0 none yet
  brokeAt : Nat              -- one more than the fc in which BROKE is 1; 0 none yet
  took : Bool := false       -- the operand set of the present fc has been captured
  deriving DecidableEq, Repr

/-- A capture held in a layer's capture store (R195, R403). -/
structure Capture where
  flops : NMap (BitVec 16)   -- by tine index
  accs : NMap (Vector Int 4) -- by 32 x tile + block
  deriving DecidableEq, Repr

/-- A capture asked for in this fc, done at its end (R195). -/
structure CapReq where
  region : Fin 8
  horn : Bool
  host : Bool
  deriving DecidableEq, Repr

/-- A word in flight on a shaft group (R95, R97): the side that launched it, its 64 data lanes and its 7 check lanes. -/
structure ShaftWord where
  upper : Bool
  data : BitVec 64
  check : BitVec 7
  deriving DecidableEq, Repr

/-- Lane health of a shaft or timed group: corrections per position in the present window, the position declared
failed and corrected by the code, the spares that failed the lane test, and a swap on its way to the receivers (R99 to R102,
R352 to R354). -/
structure Lanes where
  win : NMap Nat
  faill : Option Nat
  badSpares : Nat            -- bit i: spare i failed the lane test at power-up
  old : Option (Nat × Nat) := none  -- a position just swapped, and the first fc in which it is received from its spare (R100)
  deriving DecidableEq, Repr

/-- One logic layer's fabric. -/
structure Layer where
  regions : Vector Region 8
  tree1 : BitVec 1024        -- antler values captured at the end of the last fc
  tree2 : BitVec 1024        -- antler values at the taps in this fc (R89)
  cap : Option Capture
  capReq : Option CapReq
  deriving DecidableEq, Repr

/-- The fabric stack. -/
structure Fabric where
  layers : Vector Layer 4
  slots : NMap Byte          -- stored-slot content, by content key
  slotErr : NMap Ecc         -- 128-bit stored words with errors, by content key / 16
  planes : NMap Byte         -- resident-plane content, by content key
  oddPar : NMap Bool         -- parity groups, by content key / 8, whose parity bit disagrees with their 64 bits (R67)
  upsets : NMap Upset        -- parity groups in repair, by content key / 8
  slotWb : List Nat          -- stored words corrected by a read that await their write-back, oldest first (R326)
  portUse : List Nat         -- stored-slot ports that a write-back or browse has taken in the present fc (R124, R326)
  tileUse : List Nat         -- tiles, by 64 x layer + tile, whose ports the configuration stream or readback has taken in it
  flops : NMap (BitVec 16)   -- flop banks, by package tine index: bit 4m + e is entry e of MC m
  gsr : Bool                 -- global set-reset asserted (R57)
  torn : Bool                -- the fabric is torn down: no full image has committed since power-on or the last teardown (R379)
  relAt : Option Nat         -- a commit or restart has set the regions: the fc from which set-reset may be released (R58)
  newSlots : List (Nat × Nat × Nat)  -- layer, region and slot that become valid at the end of this fc (R393)
  side : NMap Bool           -- side that launched a shaft group in the last fc, by 256 b + g: true the upper layer
  sh1 : NMap ShaftWord       -- shaft words launched at the end of the last fc
  sh2 : NMap ShaftWord
  rx : NMap ShaftWord        -- shaft words at the receive points in this fc
  lanes : NMap Lanes         -- shaft groups' lane health, by 256 b + g
  horn : NMap Horn           -- by 2048 x layer + 32 x tile + block
  coef : NMap (Option Word)  -- coefficient words with their valid bit set, by 1024 x block key + address
  coefErr : NMap Ecc
  coefOld : NMap (Option Word × Ecc)  -- coefficient words written in the present fc as they stood before it (R145)
  pgm : NMap (BitVec 64)     -- program words, by 65536 x sequencer + address
  pgmErr : NMap Ecc
  pgmWb : NMap Nat           -- program words fetched and corrected: the fc by which each is written back (R156)
  io : NMap Byte             -- kind-6 settings, by 512 x layer + byte of minor 0, 256 on for minor 1 (R376)
  deriving DecidableEq, Repr

/-- Rinom's configuration (Table 9-4). Frequencies are in 1/1,024,000 ppb, times in the units of the mailbox. -/
structure RinCfg where
  prio : Vector Nat 4
  ptpPort : Nat
  synceLane : Nat
  domain : Nat
  flags : Nat
  wtr : Nat
  assistErr : Nat
  lockLim : Nat
  lockQual : Nat
  holdLim : Nat
  asym : Vector Int 4
  leap : Nat                 -- 0 none, 1 insert, 2 delete
  leapDay : Nat
  utc : Int
  tempSrc : Nat
  aging : Nat
  tod : Bool
  todBaud : Nat
  deriving DecidableEq, Repr

/-- One bin of the temperature model (R254): frequencies in 1/1,024,000 ppb. -/
structure Bin where
  mean : Int
  var : Nat                  -- square of the residual
  count : Nat
  upd : Nat
  deriving DecidableEq, Repr

/-- The temperature model (R254 to R258). -/
structure TempModel where
  bins : NMap Bin
  slope : Int                -- aging slope, 1/1,024,000 ppb per day
  base : Nat                 -- operating time of the aging baseline
  learn : Nat                -- seconds of LOCKED that fed the model
  fit48 : Bool               -- the slope was fitted over at least 48 h
  fit : NMap Bin             -- the populated bins as the last refit took them into its interpolation (R256)
  cubic : Vector Int 4       -- its cubic over them: coefficients of 1 to T^3, T in 1/64 °C
  last : List Int            -- the frequency samples of the last hour in LOCKED, newest first (R258)
  deriving DecidableEq, Repr

/-- A snapshot in the sealed log: generation, configuration and model (R246). -/
structure SealSnap where
  gen : Nat
  cfg : RinCfg
  model : TempModel
  deriving DecidableEq, Repr

/-- A record in the ring of the sealed log: its byte offset in the ring, and its bytes with their padding (R246). -/
structure SealRec where
  off : Nat
  bytes : List Byte
  deriving DecidableEq, Repr

/-- A reference input (R247, R249, Table 9-8). -/
structure RefIn where
  present : Bool
  qual : Bool
  good : Nat                 -- consecutive ticks in which its qualifying condition held
  stay : Nat                 -- ticks it has stayed qualified
  dis : Nat                  -- last disqualification
  deriving DecidableEq, Repr

/-- Rinom (chapter 9). Its result registers lie in `regs`. -/
structure Rinom where
  wallOk : Bool              -- a valid wall time since its latest start (R523)
  tai : Int                  -- TAI it realises, in units of 1/3072 ns (1 fc is 3,125 of them)
  fofs : Int                 -- fractional offset of the fc against XI1, in 1/1,024,000 ppb
  cfg : RinCfg
  next : Option RinCfg       -- configuration that acts at the next tick (R266)
  force : Nat                -- force in effect: 0 none, 1 HOLDOVER, 2 FREERUN
  forceCmd : Option Nat      -- FORCE that acts at the next tick
  timeCmd : Option Nat       -- SET_TIME that acts at the next tick
  resetCmd : Bool            -- MODEL_RESET that acts at the next tick
  mbSig : Bool               -- outcome of the signature check of the command in the mailbox
  model : TempModel
  snaps : Vector (Option SealSnap) 2  -- the two copies of the sealed log's snapshot
  refs : Vector RefIn 4
  ann : Option Announce      -- the latest Announce, and the ticks since it and since the latest Sync
  annAge : Nat
  syncAge : Nat
  ql : Option Quality        -- the latest quality level of the SYNCE lane, and the ticks since its PDU
  qlAge : Nat
  ppsCount : Nat             -- consecutive labelled edges of PPS_IN
  ppsLabel : Option Nat      -- label of the last labelled edge
  ppsSecs : Nat              -- whole seconds of edges since that edge
  ppsOpen : Bool             -- an edge awaits its sentence
  ppsAge : Option Nat        -- ticks since the latest edge
  ptpUtc : Option Int        -- UTC offset of the latest Announce of PTP while it is used (R263)
  ptpLeap : Nat × Nat        -- leap second PTP announces, 0 none, and its day (R261)
  locked : Bool              -- has been LOCKED since its start
  tee : Int                  -- 2^-8 ns
  owed : Int                 -- phase error of AT against Rinom's own timescale: of a release, of a fallback (R220, R229), 2^-8 ns
  phase : Int                -- the part of the fc's offset that corrects phase (R226)
  measure : Bool             -- FAB_PLL has returned: the next tick measures that error (R229)
  hiTicks : Nat              -- consecutive ticks with |TEE| above 2 x LOCKLIM
  okTicks : Nat              -- consecutive ticks that meet row 8 of Table 9-2
  labelTicks : Nat           -- consecutive ticks whose label is whole seconds off
  stateTicks : Nat           -- ticks in the state
  slewAsk : Bool             -- LOCKED after a reference switch whose TEE is being removed
  tee0 : Nat                 -- |TEE| at entry to HOLDOVER
  holdTicks : Nat
  holdSum : Nat              -- sum of the residuals used, one a tick
  boundHigh : Bool           -- TK_BOUND_HIGH has been raised in this HOLDOVER
  refitTemp : Option Int     -- oscillator temperature at the start of the last refit
  refitPast : Bool           -- at the last tick it lay past the threshold (R467)
  refitTicks : Nat           -- LOCKED ticks since then
  refit : Bool               -- a refit runs
  calCnt : Nat               -- refits, and the operating time of the last one (R256)
  calTime : Nat
  rseq : Nat
  nstep : Nat                -- wall-time steps since its start
  hist : List (Nat × Nat × Nat)  -- whole hours, newest first: maximum, seconds LOCKED, seconds in HOLDOVER
  hour : Option (Nat × Nat × Nat × Nat)  -- the running hour: its number, maximum, ticks LOCKED, ticks in HOLDOVER
  shot : List (Nat × Nat)    -- what a report gives of the latest tick: sizes and values (R270)
  log : List SealRec         -- the sealed log's ring, oldest record first
  logSeq : Nat               -- SEQ of its next record
  deriving DecidableEq, Repr

/-- What the fuses and the ROM of this part hold (Tables 0-1, 25-7; R269, R270). -/
structure Fuses where
  grade1E : Bool             -- the part is a CN9632-1E
  serial : Nat
  keyHash : Vector Nat 4     -- SHA-512 of the modulus of each slot
  prov : Vector Bool 4       -- PROV fuse of each slot (R574)
  rev : Vector Bool 4        -- REV fuse of each slot
  lcs : Fin 4                -- lifecycle state (Table 25-6)
  shaftMap : NMap Word       -- VL_BbGg_MAP as the fuse map of spares sets it at reset, by 256 b + g (R103)
  mfgHash : Nat
  rinomFw : Nat              -- firmware version
  rinomHash : Nat            -- first 32 bytes of SHA-512 over Rinom's firmware
  modulus : Nat              -- attestation modulus
  endorse : Nat              -- its endorsement
  deriving DecidableEq, Repr

/-- What arrives during COMMIT and acts when COMMIT ends (R383): a restart by its trigger and whether M is fenced with it,
a trip by its die, a system reset by its cause and whether its flush can finish. -/
inductive PendAct where
  | restart (trigger : Nat) (withM : Bool)
  | trip (die : Nat)
  | system (cause : Nat) (flushed : Bool)
  deriving DecidableEq, Repr

/-- Power, start-up and restarts (chapters 16, 20 and 23). Dies 0 to 8 are M, C1, L1, C2, L2, C3, L3, C4, L4. -/
structure Power where
  mgmtRst : Bool             -- a management reset runs, the firmware has not yet come back (R492)
  fosc : Bool                -- FOSC has been ready since power-on reset (R415)
  foscGood : Bool            -- FOSC has been good for 1 ms since it last tripped (R408)
  booted : Bool              -- start-up step 3 has ended (Table 20-5)
  stable : Bool              -- start-up step 4 has ended: the clocks are stable
  started : Bool             -- start-up step 5 has ended: the stack dies have started
  phyGood : Bool             -- the PCIe PHY loop is good (R408)
  perst : Bool               -- PERST_N is high (R497)
  held : Nat                 -- bit i: die i is held in reset (R430, R482, R499)
  dark : Nat                 -- bit i: die i has lost its rail since it last started
  fell : Nat                 -- rails, by bit, that fell below reset while READY, or unplanned (R501, R502)
  woken : Nat                -- samples of the sensors since a wake started (R502)
  byTrip : Bool              -- the low-power state was entered by a trip (R500, R502)
  retain : Bool              -- RETAIN of the entry in progress (R499)
  target : Nat               -- TARGET of the entry in progress
  restart : Option Nat       -- a fenced fabric restart in progress, by its trigger (R544)
  rstDies : Nat              -- the dies it fences
  toHold : Nat               -- bit i: die i is held in reset once its fence has drained (R430, R499)
  pend : List PendAct        -- what waits for the end of COMMIT
  loadAfter : Bool           -- a trip ended a full load: the attempt list runs at the restart (R387)
  golden : Bool              -- the next boot loads flash slot 0 only (R542)
  wdTimes : List Nat         -- operating times in seconds of device-watchdog expiries, newest first (R542)
  mwTimes : List Nat         -- likewise of management-watchdog expiries (R540)
  bootWait : Bool            -- the configuration controller has yet to boot (R384)
  deriving DecidableEq, Repr

/-- What band logic keeps of one sensor (R424): the reading of the previous sample, whether that sample was invalid, and
whether any sample since power-on reset was valid. -/
structure Sensor where
  prev : Option Int
  bad : Bool
  seen : Bool
  deriving DecidableEq, Repr

/-- Band and trip logic (chapter 17). -/
structure Thermal where
  sens : NMap Sensor         -- 0 to 59 on the dies, 60 RD_A, 61 RD_B
  prev : NMap (Nat × Nat)    -- U and D of the previous sample, by die 0 to 9 (R426)
  trips : List Nat           -- operating times of the trips, newest first (R432)
  rdHigh : Nat               -- bit x: RDx is at or above HILIM (R433)
  grad : NMap Nat            -- by pair, samples in succession with a spread above 25 °C (R434)
  ref : NMap (Int × Bool)    -- T_last of a calibrated block, and whether the last sample was past its threshold (R467): lane p at p,
                             -- die i at 32 + i, channel n at 48 + n
  rdFit : Bool               -- a run of B has refitted the remote inputs since power-on reset (R474)
  ddrPend : Nat              -- bit n: a retraining of channel n is triggered (R476)
  ddrRate : NMap Nat         -- refresh rate the devices of a channel reported last (R461)
  preset : NMap Nat          -- by lane, the SerDes preset set loaded last: 0 Cold, 1 Nominal, 2 Hot (R427, R429, R471)
  deriving DecidableEq, Repr

/-- One settings copy (Table 25-2): GEN and items. -/
structure NvsCopy where
  gen : Nat
  items : NMap Word
  deriving DecidableEq, Repr

/-- Settings and counters that outlast a power cycle (chapter 25). -/
structure Nvs where
  shadow : NMap Word         -- shadows that differ from the shipped values, by BAR0 offset
  boot : NMap Word           -- settings fields as the last boot loaded them, where they differ from the shipped values (R573)
  locked : Bool              -- LK fields are locked (R572)
  copies : Vector (Option NvsCopy) 2
  snap : Option (NMap Word)  -- the shadows a running STORE snapshotted
  patch : List Byte          -- the management patch installed last
  deriving DecidableEq, Repr

/-- A load in progress (R380). -/
structure Load where
  flash : Bool
  slot : Nat
  auto : Bool                -- a load of the attempt list (R386)
  rest : List Nat            -- slots the list still holds
  partl : Bool
  layer : Nat
  region : Nat
  setReset : Bool
  keySlot : Nat
  len : Nat
  cap : Nat                  -- words the source can give
  pos : Nat                  -- next stream word
  rmap : Option (List Word)
  opt : Option Word
  far : Option Nat
  framed : Bool              -- a frame block or FILL has come
  err : Option (Nat × Nat × Nat)  -- first stream error: reason, ERRINFO, ERRWORD
  ended : Bool               -- END has been read
  frames : List Nat          -- frame addresses of kinds 0 to 4 written
  prog : NMap (BitVec 64)    -- staged program words, by 65536 x layer + address
  progLy : Nat               -- bit k: layer k has a program
  io : NMap Byte             -- staged kind-6 bytes, by 512 x layer + offset
  comAt : Nat                -- full time of the commit fc of a partial image (R393)
  digest : Nat               -- digest of the words so far, from word 0 (R559)
  since : Nat                -- fc in which the stage began, or STREAM took its last word (R380)
  deriving DecidableEq, Repr

/-- A readback or restore that runs (R400): the next frame, frames left, where its record goes in host memory. -/
structure Readback where
  far : Nat
  left : Nat
  addr : Nat
  deriving DecidableEq, Repr

/-- A host capture armed (R402): its layer, region and options, and its target fc. -/
structure Arm where
  layer : Fin 4
  region : Fin 8
  horn : Bool
  due : Nat
  deriving DecidableEq, Repr

/-- A flash operation that runs (R388): its address, and the bytes it puts there; none where the host did not return them. -/
structure FlashJob where
  addr : Nat
  data : Option (List Byte)
  deriving DecidableEq, Repr

/-- What the board gives the configuration controller. -/
structure Board where
  flashSize : Nat × Nat      -- bytes of the devices on XSPI_CS_N[0] and [1]
  flash : NMap Byte          -- flash bytes; an unlisted byte is erased, 0xFF
  bootsel : Nat              -- BOOTSEL pins
  deriving DecidableEq, Repr

/-- A group of the timed or timeline class (R352 to R354): its register view. -/
structure VlGroup where
  lanes : Lanes
  corrs : Nat
  pend : Bool
  failed : Bool
  spares : Nat
  map : Nat                  -- VL_GMAP
  deriving DecidableEq, Repr

/-- Vertical links (chapter 13). -/
structure Vlinks where
  groups : NMap VlGroup      -- by 4096 x joint + group
  retry : NMap Nat           -- resends of one flit in succession: 0 the untimed base link, 1 + k the stream of layer k
  dead : Nat                 -- bit i: that link has failed
  bond : NMap Nat            -- failed lanes of a tine's refill bond beyond its spares, by package tine index (R357)
  deriving DecidableEq, Repr

/-- A queue operation carried by a vertical port (R305): queue number, and what it does. -/
structure QueueReq where
  queue : Nat
  op : QueueOp
  deriving DecidableEq, Repr

/-- Response status of a port (Table 10-2). -/
inductive PortStatus where
  | ok | err | denied | collided | resetAbort | timeout
  deriving DecidableEq, Repr

/-- A request a vertical port has accepted and whose response it has not yet presented (R276, R279). -/
structure Req where
  write : Bool
  addr : Nat                 -- memory-layer address; of a queue request, the base of the queue's bank
  beats : Nat
  data : List (BitVec 64)    -- a write's words; of a read, the words read so far
  be : Nat                   -- byte enables of a write, bit i for byte i
  acc : Nat                  -- fc that accepted it
  timer : Nat                -- fc its vertical-transfer timer has run (R536)
  base : Nat                 -- MEM cycle that would perform its next beat if nothing waited
  done : Nat                 -- beats performed
  bad : Nat                  -- bit w: word w of a read is poisoned
  err : Bool                 -- a partial write was refused
  late : Nat                 -- fc added for a borrowed window (R338)
  held : Option Nat          -- the fenced die that stops it (R362)
  fill : Bool                -- it waits for a line fill
  filled : Bool              -- its line has been filled for it, its miss counted
  own : Bool                 -- an owner change of its bank holds it (R283)
  due : Option Nat           -- the fc its response is presented in, once it is answered
  status : PortStatus
  q : Option QueueReq
  qres : Nat                 -- 0 DONE, 1 FULL, 2 EMPTY
  qmeta : Nat                -- metadata word of a popped entry
  deriving DecidableEq, Repr

/-- One vertical port: its requests oldest first, and the beats of the present window of four fc (R276). -/
structure PortQ where
  reqs : List Req
  win : Nat                  -- one more than the window's first fc; 0 none yet
  toMem : Nat
  fromMem : Nat
  resp : Nat                 -- beats of the responses presented in it
  deriving DecidableEq, Repr

/-- The latest MEM cycle of a bank or slice: its number plus 1 (five per fc kept apart), the beat port A performed and
which of its words it wrote, and those words as they stood before the cycle (R284, R285). -/
structure MemCyc where
  id : Nat
  base : Nat                 -- key of the beat's first word
  wrote : Nat                -- bit i: word i of the beat written
  old : List (BitVec 64 × Ecc)
  busyA : Bool               -- port A, or the slice, has performed its beat (R280, R288)
  busyB : Bool               -- port B is taken
  owe : Nat                  -- MEM cycles after this one in which port B is taken still
  bOld : NMap (BitVec 64 × Ecc)  -- words port B wrote in this cycle, as they stood before it
  deriving DecidableEq, Repr

/-- A bank clear (R287): the fc that asked for it, and in the clear cycle itself the words written in it. -/
structure Clear where
  asked : Nat
  keep : Option (List Nat)
  deriving DecidableEq, Repr

/-- A host access through BAR2 that waits for port B of its bank, beat by beat (R274, R282). -/
structure HostAcc where
  seq : Nat                  -- its place in the order of the host's accesses
  write : Bool
  addr : Nat                 -- bank-space byte
  len : Nat
  data : List (Option Byte)  -- a write's bytes, those its byte enables leave out none
  poisoned : Bool            -- it came in a poisoned TLP
  done : Nat                 -- beats performed
  got : List Byte            -- a read's bytes so far, from the first byte of its first word
  ep : Bool                  -- a word of them was uncorrectable
  since : Nat                -- fc that accepted it
  deriving DecidableEq, Repr

/-- A valid cache line (R288), by line number. -/
structure Line where
  tag : Nat
  dirty : Bool
  used : Nat                 -- order of its latest use
  deriving DecidableEq, Repr

/-- A queue entry on its way into its ring: its words, SOF, the producer's POISON (R296, R315). -/
structure QEntry where
  words : List (BitVec 64)
  sof : Bool
  poison : Bool
  deriving DecidableEq, Repr

/-- A push that a queue controller has accepted and not yet published, of its producer or of replay, or the metadata words of a host
doorbell: its beats go through port B one a MEM cycle (R280, R286, R302). -/
structure Rewrite where
  queue : Nat
  batch : List QEntry        -- entries that are published together, in order
  replay : Bool
  bell : Bool                -- the host has written the entries: only their metadata words are written (R303)
  done : Nat                 -- beats written
  again : Bool               -- its next beat has collided and is written again
  since : Nat                -- fc that accepted it
  deriving DecidableEq, Repr

/-- A PUSH doorbell not yet acted on: COUNT, FRAME, and the host accesses that came before it (R303). -/
structure Bell where
  n : Nat
  frame : Bool
  seq : Nat
  deriving DecidableEq, Repr

/-- A descriptor the host DMA engine performs (R457): what its host read returned, and the entries or beats moved. -/
structure DmaJob where
  desc : Desc
  read : HostRead
  moved : Nat
  fill : Bool                -- its next beat waits for a line fill
  filled : Bool
  since : Nat                -- fc from which its next beat waits
  deriving DecidableEq, Repr

/-- A borrowed window (R336): the window and the first fc of its period; whether it is borrowed for a repair alone. -/
structure Borrow where
  window : Nat
  since : Nat
  repair : Bool
  deriving DecidableEq, Repr

/-- A soft-repair entry (Table 12-5): class, its bank or slice number, sub-array, row, spare row; whether it has been applied. -/
structure SoftRepair where
  cls : Nat
  unit : Nat
  sub : Nat
  row : Nat
  spare : Nat
  optime : Nat
  src : Nat
  pcc : Nat
  deriving DecidableEq, Repr

/-- Where a browse engine's pass stands: the first place it has yet to read, one more than the fc of its last read, and the fc in
which the pass begins (R125, R332, R333). -/
structure BrowsePos where
  next : Nat
  last : Nat
  began : Nat
  deriving DecidableEq, Repr

/-- Browse (R332 to R335): by engine, the time its interval began, and the suspect marks. -/
structure Browse where
  due : NMap Nat             -- by engine: the fc by which its pass must end; unlisted while its die is unpowered
  late : NMap Bool           -- engines late in the present pass
  pos : NMap BrowsePos       -- by engine; unlisted at the start of a pass that may begin at once
  seen : NMap Nat            -- by word: bit 0 corrected in the present pass, bit 1 in the one before
  passed : Nat               -- bit u: bank or slice u has completed since PASSES last counted
  deriving DecidableEq, Repr

/-- The memory layer (chapters 10 and 12), with the LPDDR6 behind it. -/
structure Memory where
  words : NMap (BitVec 64)   -- bank and cache words that are valid (R275), by 2^20 x unit + word: units 0 to 31 banks, 32 to 47 slices; graze save buffers by 2^27 + 512 x unit + word
  marks : NMap Ecc           -- words whose code finds an error; tags by 2^26 + line number
  dram : NMap (BitVec 64)    -- LPDDR6 words
  dramMarks : NMap Ecc
  lines : NMap Line          -- by 65536 x slice + 16 x set + way
  clk : Nat                  -- uses of cache lines so far
  ports : NMap PortQ         -- by 32 x layer + port
  rot : NMap Nat             -- rotation pointers, by unit (R282)
  cyc : NMap MemCyc          -- by unit
  wbq : NMap (List Nat)      -- write-back queues, oldest first, by unit (R325)
  writes : List Rewrite      -- oldest first
  host : NMap (List HostAcc) -- by bank, oldest first
  hostSeq : Nat              -- host accesses so far
  hostAt : Nat               -- fc in which the latest of them ended (R536)
  clears : NMap Clear        -- by bank
  cmoOp : Nat                -- the cache maintenance operation that runs, and 4096 x slice + set that it reaches next
  cmoAt : Nat
  reqAt : Nat                -- one more than the fc in which a port or a queue controller last performed a request, 0 before (R474)
  borrow : NMap Borrow       -- by unit
  sr : List SoftRepair       -- the soft-repair table, in table order (R342)
  srPend : List SoftRepair   -- added, to be applied at the next borrow of their window (R344)
  spares : NMap Nat          -- spare rows in use, bit i for spare i, by 2048 x unit + sub-array
  brw : Browse
  fenceAt : NMap Nat         -- by die, the fc its latest fence started
  drainEnd : NMap Nat        -- by die, the fc of its latest drain end
  deriving DecidableEq, Repr

/-- A hardware queue (R295 to R302). -/
structure Queue where
  en : Bool
  cfg : Nat                  -- QCc_ACFG at allocation
  rbase : Nat
  mbase : Nat
  push : Nat                 -- push count modulo 65,536
  pop : Nat                  -- pop count modulo 65,536
  count : Nat                -- entries published
  room : Nat                 -- entries accepted and not yet published (R302)
  lent : Nat                 -- entries popped whose responses have not been delivered (R312)
  fresh : Nat × Nat          -- a MEM cycle, and the entries published in it: no pop of that cycle sees them (R313)
  ending : Bool              -- FREE ends it with the register-bus cycle (R300)
  headAt : Nat               -- fc from which the head's timer counts (R317)
  hist : List (Nat × Bool × Bool)  -- newest first: fc of a change, and EMPTY and FULL from it on (R206)
  was : Option (Nat × Nat × Nat)  -- fc of the last change, and what STAT and PTR showed before the changes of that fc (R314)
  gone : List (Nat × Nat × Bool)  -- allocations that ended or began: fc, configuration, allocated (R207)
  bells : List Bell          -- PUSH doorbells not yet acted on (R303)
  deriving DecidableEq, Repr

/-! ## Capture and replay (chapter 24) -/

/-- A ring record (R557): TYPE, full time of its fc, queue or sequencer, payload. -/
structure RingRec where
  type : Nat
  time : Nat
  id : Nat
  payload : List Byte
  deriving DecidableEq, Repr

/-- A snapshot (R559): its fc, the ring position behind the records of that fc, and what it recorded: of each scope region
the plane state, of its layer the capture store, its coefficient words; the allocated queues and the words of the recorded
banks; the digests of the committed image and of the settings in force. -/
structure Snapshot where
  time : Nat
  pos : Nat
  regions : List (Fin 4 × Fin 8 × Region)
  caps : List (Fin 4 × Capture)
  coef : NMap (Option Word)
  queues : NMap Queue
  words : NMap (BitVec 64)
  marks : NMap Ecc
  image : Nat
  settings : Nat
  deriving DecidableEq, Repr

/-- Capture and replay (chapter 24). -/
structure Replay where
  trigAt : Option Nat        -- the fc of an occurrence of RPL_TRIG.SRC that has not yet started the delay (R558)
  trigDue : Option Nat       -- the fc in which the delay ends
  now : List RingRec         -- records of the present fc, oldest first
  ask : Option Nat           -- a freeze asked for, by its cause (R558)
  guardRec : Nat             -- in replay, the guard setting of the latest GUARD record (R564)
  crc : NMap (Nat × Nat)     -- by CRC queue: entries published in the period, running CRC-32C (R567)
  crcAt : Nat                -- one more than the fc of the latest period end acted on
  wr : Nat                   -- bytes written into the ring since START
  seq : Nat                  -- ring records written since START
  fill : Nat                 -- the on-die buffer's fill, in 1/1536 byte (R556)
  gap : Option (Nat × Nat × Nat)  -- records lost and not yet covered: the first one's time, how many, their bytes
  snaps : Vector (Option Snapshot) 2
  nextBuf : Fin 2
  copy : Option (Fin 2 × Nat)  -- the buffer whose copy runs, and the fc it began in
  dirty : Bool               -- a bank was cleared, or HCOEF wrote into the scope, since the copy began (R561)
  rd : Nat                   -- in replay, the ring position of the next record
  late : Bool                -- that record has found no room in its fc (R564)
  image : Nat                -- digest of the committed full image (R559)
  deriving DecidableEq, Repr

/-! ## Fronthaul (chapter 18) -/

/-- Ethernet ports: the fc in which each link came up last, and the ports active as members of a group (R448). -/
structure Fronthaul where
  upAt : NMap Nat
  act : Nat                  -- bit p
  deriving DecidableEq, Repr

/-- Instructions of the test access port (R463). -/
inductive TapInst where
  | bypass | idcode | samplePreload | extest | clamp | highz
  deriving DecidableEq, Repr

/-- The test access port: TRST_N is low, the instruction in force, the boundary cells preloaded. -/
structure Tap where
  reset : Bool
  inst : TapInst
  cells : List Bool
  deriving DecidableEq, Repr

/-! ## What the part sends out -/

/-- What leaves the part, as an observer outside sees it; the newest stands first. -/
inductive Out where
  | msix (vec : Nat)
  | sysref (i : Nat)                       -- a SYSREF pulse rises (R237)
  | pps                                    -- PPS_OUT rises (R239)
  | cpl (data : List Byte) (ep : Bool)      -- completion of a host read, EP set for an uncorrectable word (Table 12-2)
  | cplAbort                               -- a host read that waited completes with a Completer Abort (R537)
  | port (layer : Fin 4) (port : Fin 32) (r : Req)  -- a port presents a response (R278, R279)
  | frame (port : Nat) (bytes : List Byte) (fcsOk : Bool)  -- an egress frame, but for its FCS, and whether that is right (R446)
  | hostWrite (addr : Nat) (data : List Byte) (ep : Bool)  -- a write to host memory, EP set for poisoned data (R458)
  | smb (code : Nat) (data : List Byte)  -- the SMBus target answers a command (R464)
  | smbNack (code : Nat)                   -- it does not acknowledge one
  | tdo (w : Word)                         -- the test port shifts out a word (R463)
  | descDone (chan index : Nat) (w6 : Word)  -- word 6 of a DMA descriptor is written back (R457)
  | multiblock (link : Nat) (t : Nat) (bytes : List Byte)  -- the samples of an extended multiblock (R452)
  | zda (utc : Int)                        -- a ZDA sentence on TOD_TXD labels an edge (R263)
  | delayReq (port stamp : Nat)            -- Rinom's Delay_Req leaves an Ethernet port, with its departure stamp (R248)
  deriving DecidableEq, Repr

/-! ## The whole part -/

/-- The part. -/
structure State where
  pending : List Instr       -- commands that wait, first in first out
  reply : Reply              -- answer of the last register or window access
  free : Nat                 -- the model's own: free values drawn so far
  out : List Out
  regs : NMap Word           -- register file by BAR0 offset; an unlisted register holds its reset value
  lastAt : NMap (Nat × Nat)  -- for LAST registers that keep the lowest report of one fc: that fc and the report's rank
  unsampled : List Nat       -- registers whose least-value field a read has cleared and no sample has followed (R17)
  shadowHi : NMap Word       -- high words latched by the read of their low words, by the high word's offset (R15)
  tl : Timeline
  evt : Events
  rcd : Recorder
  seqs : Vector Seq 4
  flags : Vector SigFlag 16
  fab : Fabric
  rin : Rinom
  fuse : Fuses
  rpl : Replay
  pwr : Power
  thm : Thermal
  nvs : Nvs
  ld : Option Load
  fl : Option FlashJob
  rb : Option Readback
  arm : Option Arm
  heldStart : Nat            -- bit k: a START of SEQk held until COMMIT ends (R382)
  board : Board
  vl : Vlinks
  mem : Memory
  qs : NMap Queue            -- by queue number
  flow : NMap (Word × Word × Word)  -- ingress flow table (R308)
  flowPast : List (Nat × Nat × Word × Word × Word)  -- newest first: fc of a write of the table, its index, the entry it replaced (R311)
  dma : NMap DmaJob          -- descriptors under way, by channel (R457)
  fh : Fronthaul
  pcieUp : Bool              -- the PCIe link is up
  tap : Tap
  deriving DecidableEq, Repr

/-- A step stops with a fault. -/
inductive Fault where
  /-- No meaning of this model raises it: the spec gives every command an effect. Safe: it stops. -/
  | unreachable
  deriving DecidableEq, Repr

/-- A step is refused. -/
inductive Refusal where
  /-- The command of this mnemonic has no meaning yet. Safe: it stops. -/
  | notModelled (mnemonic : String)
  deriving DecidableEq, Repr

/-- A SYSREF generator after reset (Table 8-7). -/
def Sysref.reset : Sysref :=
  { cfg := { en := false, nshot := false, count := 8, width := 8, period := 0x4000, offset := 0 },
    pend := [], left := 0, lowAt := 0, pulseAt := 0 }

/-- The timeline unit after power-on reset (R222, R223). -/
def Timeline.reset : Timeline :=
  { fc := 0, running := false, pre := 0, released := false, relFc := 0, at34 := 0, hfn := 0, epochs := 0,
    offset := 0, e0 := 0, sysref := Vector.replicate 4 Sysref.reset, ppsLow := 0, ppsAt := 0, depAt := 0, frameAt := 0,
    ask := none, copies := Vector.replicate 5 (Vector.replicate 3 0) }

/-- The event controller after power-on reset: every vector masked in the MSI-X tables, every function disabled. -/
def Events.reset : Events := { info := [], latches := [], vec := [], pba := [], table := [], fn := [] }

/-- The recorder of a part whose NVM holds nothing yet. -/
def Recorder.reset : Recorder :=
  { nvm := [], staged := [], ffz := [], ring := [], lastRec := none, nonceOk := false, clearing := none }

/-- A sequencer after reset (Tables 6-7 to 6-10). -/
def Seq.reset : Seq :=
  { mode := .stopped, g := Vector.replicate 32 0, pc := 0, next := 0, due := 0, issuedAt := 0, n := false, z := false, c := false,
    v := false, sp := 0, calls := [], loops := [], evin := 0, evNew := 0, evNewAt := 0, inAlt := false, inFault := false, altPend := none,
    clrAlt := false, clrFault := false, quiet := 0, wait := .none, stallCond := none, stopReq := none,
    openEnd := none, portAt := 0, ports := [], res := [] }

/-- A plane never filled (R112). -/
def Plane.reset : Plane := { st := .empty, slot := 0, refillAt := 0, bad := false, filled := false }

/-- A region after reset (R107, Table 4-9). -/
def Region.reset : Region :=
  { cur := 0, planes := Vector.replicate 4 Plane.reset, nextCur := none, pendSw := none, heldAt := none,
    guardAt := none, curAt := 0, ovr := none, ovrNext := none, rsr := none }

/-- A horn block holding 0 everywhere (R136). -/
def Horn.reset : Horn :=
  { acc := Vector.replicate 4 0, ctr := none, lastMode := 0, pipe := [], fft := none, casc := [], bus := 0,
    newAt := 0, brokeAt := 0 }

/-- A logic layer after reset. -/
def Layer.reset : Layer :=
  { regions := Vector.replicate 8 Region.reset, tree1 := 0, tree2 := 0, cap := none, capReq := none }

/-- The fabric after power-on reset: nothing configured, global set-reset asserted (R57). -/
def Fabric.reset : Fabric :=
  { layers := Vector.replicate 4 Layer.reset, slots := [], slotErr := [], planes := [], oddPar := [], upsets := [],
    slotWb := [], portUse := [], tileUse := [], flops := [],
    gsr := true, torn := true, relAt := none, newSlots := [], side := [], sh1 := [], sh2 := [], rx := [], lanes := [], horn := [], coef := [],
    coefErr := [], coefOld := [], pgm := [], pgmErr := [], pgmWb := [], io := [] }

/-- The shipped configuration of Rinom (R263, R267). -/
def RinCfg.shipped : RinCfg :=
  { prio := #v[1, 0, 2, 0], ptpPort := 0, synceLane := 0, domain := 24, flags := 0, wtr := 300, assistErr := 10240,
    lockLim := 50, lockQual := 60, holdLim := 1100, asym := Vector.replicate 4 0, leap := 0, leapDay := 0, utc := 37,
    tempSrc := 0, aging := 10240, tod := false, todBaud := 0 }

/-- A model with no populated bin. -/
def TempModel.empty : TempModel :=
  { bins := [], slope := 0, base := 0, learn := 0, fit48 := false, fit := [], cubic := Vector.replicate 4 0, last := [] }

/-- Rinom at its start: FREERUN, nothing qualified (R250). -/
def Rinom.reset : Rinom :=
  { wallOk := false, tai := 0, fofs := 0, cfg := RinCfg.shipped, next := none, force := 0, forceCmd := none, timeCmd := none,
    resetCmd := false, mbSig := false, model := TempModel.empty, snaps := Vector.replicate 2 none,
    refs := Vector.replicate 4 { present := false, qual := false, good := 0, stay := 0, dis := 0 },
    ann := none, annAge := 0, syncAge := 0, ql := none, qlAge := 0, ppsCount := 0,
    ppsLabel := none, ppsSecs := 0, ppsOpen := false, ppsAge := none, ptpUtc := none, ptpLeap := (0, 0),
    locked := false, tee := 0, owed := 0, phase := 0, measure := false, hiTicks := 0, okTicks := 0, labelTicks := 0,
    stateTicks := 0, slewAsk := false, tee0 := 0, holdTicks := 0, holdSum := 0, boundHigh := false, refitTemp := none,
    refitPast := false, refitTicks := 0, refit := false, calCnt := 0, calTime := 0,
    rseq := 0, nstep := 0, hist := [], hour := none, shot := [], log := [], logSeq := 0 }

/-- A CN9632-2E with nothing provisioned; its identity numbers are the model's own (log 20). -/
def Fuses.reset : Fuses :=
  { grade1E := false, serial := 0, keyHash := Vector.replicate 4 0, prov := Vector.replicate 4 false, rev := Vector.replicate 4 false, lcs := 0, shaftMap := [],
    mfgHash := 0, rinomFw := 0, rinomHash := 0,
    modulus := 0, endorse := 0 }

/-- Capture and replay idle. -/
def Replay.reset : Replay :=
  { trigAt := none, trigDue := none, now := [], ask := none, guardRec := 0, crc := [], crcAt := 0, wr := 0, seq := 0, fill := 0,
    gap := none, snaps := Vector.replicate 2 none, nextBuf := 0, copy := none, dirty := false, rd := 0, late := false, image := 0 }

/-- Power-on reset released: no clock but AON and JTAG, every stack die held in reset (R415, Table 20-5). -/
def Power.reset : Power :=
  { mgmtRst := false, fosc := false, foscGood := false, booted := false, stable := false, started := false, phyGood := false, perst := false,
    held := 511, dark := 511, fell := 0, woken := 0, byTrip := false, retain := false, target := 0, restart := none, rstDies := 0, toHold := 0, pend := [],
    loadAfter := false, golden := false, wdTimes := [], mwTimes := [], bootWait := true }

/-- A board with one 4-Gbit flash device, erased, and BOOTSEL 0b00 (log 30). -/
def Board.reset : Board := { flashSize := (536870912, 0), flash := [], bootsel := 0 }

/-- The memory layer after power-on reset: every bank and line invalid (R287, R292). -/
def Memory.reset : Memory :=
  { words := [], marks := [], dram := [], dramMarks := [], lines := [], clk := 0, ports := [], rot := [], cyc := [],
    wbq := [], writes := [], host := [], hostSeq := 0, hostAt := 0, clears := [], cmoOp := 0, cmoAt := 0, reqAt := 0, borrow := [], sr := [], srPend := [], spares := [],
    brw := { due := [], late := [], pos := [], seen := [], passed := 0 }, fenceAt := [], drainEnd := [] }

/-- The part right after power-on: every field at the value the spec states for reset, or that the log names. -/
def State.reset : State :=
  { pending := [], reply := .none, free := 0, out := [], regs := [], lastAt := [], unsampled := [], shadowHi := [], tl := Timeline.reset,
    evt := Events.reset, rcd := Recorder.reset, seqs := Vector.replicate 4 Seq.reset,
    flags := Vector.replicate 16 { set := false, due := none }, fab := Fabric.reset,
    rin := Rinom.reset, fuse := Fuses.reset, rpl := Replay.reset, pwr := Power.reset, thm := { sens := [], prev := [], trips := [], rdHigh := 0, grad := [], ref := [], rdFit := false, ddrPend := 0, ddrRate := [], preset := [] },
    nvs := { shadow := [], boot := [], locked := false, copies := Vector.replicate 2 none, snap := none, patch := [] }, ld := none, fl := none, rb := none, arm := none,
    heldStart := 0, board := Board.reset, vl := { groups := [], retry := [], dead := 0, bond := [] },
    mem := Memory.reset, qs := [], flow := [], flowPast := [], dma := [], fh := { upAt := [], act := 0 }, pcieUp := false, tap := { reset := false, inst := .idcode, cells := [] } }

end Sys2Proof.Machine
end

