-- ==== Sys2Proof/Machine/Ops.lean ====
section
/-!
DEFINITION. Sys2Proof/Machine/Ops.lean: the operations every meaning is written over: the register file and its fields,
free values, the time of day of the part, raising an event, and handing a record to the recorder.
-/
namespace Sys2Proof.Machine
open Sys2Proof

/-- A meaning that ends in a next state. -/
def ok (s : State) : Host.Outcome State Fault Refusal := .next s

/-- A condition on which an event happens: where it does not hold the event does not come about and nothing changes
(log 5). -/
def onlyIf (p : Prop) [Decidable p] (s t : State) : Host.Outcome State Fault Refusal := .next (if p then t else s)

/-! ## The register file (R14, R17, R19) -/

/-- The value of a register after the reset of its block (R19): the index row's, but where the table gives it by number. -/
def regReset (off : Nat) : Word :=
  if Rg.EVT_ROUTE 0 ≤ off ∧ off < Rg.EVT_ROUTE 1024 then
    let s := (off - Rg.EVT_ROUTE 0) / 4
    if srcKnown s then
      BitVec.ofNat 32 (2 ^ 30 + (match srcSev s with | some v => sevCode v | none => 0) * 2 ^ 24 + s)
    else 0
  else if Rg.EVT_EN 0 ≤ off ∧ off < Rg.EVT_EN 64 then BitVec.ofNat 32 (srcKnownWord ((off - Rg.EVT_EN 0) / 4 % 32))
  else if off = Rg.CLK_DOM 1 ∨ off = Rg.CLK_DOM 22 then 1   -- AON and JTAG run from the start (Table 16-6)
  else match regRow off with
    | some r => r.rst
    | none => 0

/-- The word of a register. -/
def State.reg (s : State) (off : Nat) : Word := mget (regReset off) s.regs off

/-- Put a word into a register, keeping the file canonical: a register at its reset value is not listed. -/
def State.setReg (s : State) (off : Nat) (w : Word) : State :=
  { s with regs := mput (regReset off) s.regs off w }

/-- The value of a field. -/
def State.f (s : State) (x : Fld) : Nat := fldGet x (s.reg x.off)

/-- A one-bit field as a truth value. -/
def State.b (s : State) (x : Fld) : Bool := s.f x == 1

/-- Write a field, whoever owns it: hardware's way of setting its status, and the write of an RW field. -/
def State.setF (s : State) (x : Fld) (v : Nat) : State := s.setReg x.off (fldPut x (s.reg x.off) v)

/-- Add to a count that saturates at all ones. -/
def State.addF (s : State) (x : Fld) (n : Nat) : State := s.setF x (satAdd x.w (s.f x) n)

/-- Increment a saturating count. -/
def State.incF (s : State) (x : Fld) : State := s.addF x 1

/-- Return every register of a range of offsets, those a predicate keeps aside, to its reset value (R19). -/
def State.resetRegs (s : State) (out : Nat → Bool) : State :=
  { s with regs := s.regs.filter (fun e => !out e.1), unsampled := s.unsampled.filter (fun o => !out o) }

/-- A sample of a least-value field: the least since its reset or its last read, from which it stands at 0 until a sample comes
(R17). -/
def State.putLeast (s : State) (x : Fld) (v : Nat) : State :=
  { s.setF x (if s.unsampled.contains x.off then v else min v (s.f x)) with unsampled := s.unsampled.filter (· != x.off) }

/-! ## Free values -/

/-- The next free value of `w` bits, and the state with the draw counted. -/
def State.draw (s : State) (w : Nat) : BitVec w × State :=
  (Config.freeBits w s.free, { s with free := s.free + 1 })

/-! ## What codes find (R322) -/

/-- The worse of two ECC marks. -/
def eccWorse : Ecc → Ecc → Ecc
  | .uncorr, _ => .uncorr
  | _, .uncorr => .uncorr
  | .corr, _ => .corr
  | _, x => x

/-- The flaw an access brings from outside to a word. -/
def flawAt (errs : List (Nat × Flaw)) (key : Nat) : Flaw :=
  match errs.find? (fun e => e.1 == key) with
  | some e => e.2
  | none => .clean

/-! ## Time (R217, R219) -/

/-- fc in an SFN cycle, 10,066,329,600 (R217). -/
def L : Nat := 10066329600

/-- fc in a 10 ms frame (R12). -/
def frameFc : Nat := 9830400

/-- Full time: HFN in [49:34], AT in [33:0] (Table 8-2). -/
def State.fullTime (s : State) : Nat := s.tl.hfn % 2 ^ 16 * 2 ^ 34 + s.tl.at34

/-- Program time: HFN [6:0] in [40:34], AT in [33:0] (Table 8-2). -/
def State.progTime (s : State) : Nat := s.tl.hfn % 128 * 2 ^ 34 + s.tl.at34

/-- The value at least two of three counters hold (R231). -/
def agreed (v : Vector Int 3) : Option Int :=
  if v.get 0 = v.get 1 ∨ v.get 0 = v.get 2 then some (v.get 0) else if v.get 1 = v.get 2 then some (v.get 1) else none

/-- Full time as a copy of AT holds it (R230, R231): copies 0 to 3 those of the sequencers, 4 that of FH_TS. -/
def State.copyTime (s : State) (c : Fin 5) : Nat :=
  match agreed (s.tl.copies.get c) with
  | some d =>
    if d = 0 then s.fullTime
    else
      let n := (((s.tl.hfn * L + s.tl.at34 : Nat) : Int) + d) % ((65536 * L : Nat) : Int)
      n.toNat / L * 2 ^ 34 + n.toNat % L
  | none => Config.failedCopy c.val s.tl.fc % 2 ^ 50

/-- Program time as the copy of sequencer `k` holds it. -/
def State.seqTime (s : State) (k : Fin 4) : Nat := s.copyTime (Fin.castSucc k) % 2 ^ 41

/-- Program time in FH_TS. -/
def State.fhTime (s : State) : Nat := s.copyTime 4 % 2 ^ 41

/-- Every copy of AT holds the timeline unit's count (R230, R240). -/
def State.loadCopies (s : State) : State :=
  { s with tl := { s.tl with copies := Vector.replicate 5 (Vector.replicate 3 0) } }

/-- Full time of an occurrence, once AT is released (R515, R523). -/
def State.stamp (s : State) : Option Nat := if s.tl.released then some s.fullTime else none

/-- The two words of a full time, low first, as payloads carry it. -/
def timeWords (t : Nat) : List Word := [BitVec.ofNat 32 t, BitVec.ofNat 32 (t / 2 ^ 32)]

/-- AT where released, the pre-release count before (R223): what hardware schedules are keyed to. -/
def State.sched (s : State) : Nat := if s.tl.released then s.tl.at34 else s.tl.pre

/-- Advance AT and HFN, or the pre-release count, by one fc (R217, R223). -/
def Timeline.tick (t : Timeline) : Timeline :=
  if t.released then
    if t.at34 + 1 < L then { t with fc := t.fc + 1, at34 := t.at34 + 1 }
    else { t with fc := t.fc + 1, at34 := 0, hfn := (t.hfn + 1) % 2 ^ 16 }
  else { t with fc := t.fc + 1, pre := if t.pre + 1 < L then t.pre + 1 else 0 }

/-! ## The recorder's staging FIFO (R528, R529) -/

/-- Wall time of Rinom in TAI seconds and nanoseconds, once it holds one (R523). -/
def State.wall (s : State) : Option (Nat × Nat) :=
  if s.rin.wallOk then some ((s.rin.tai / 3072000000000).toNat, (s.rin.tai % 3072000000000 / 3072).toNat) else none

/-- Words of a record's LENGTH: the four header words, DESC, the optional fields, the payload (R522). -/
def Rcd.len (r : Rcd) : Nat :=
  16 + (if r.desc then 4 + (if r.wall.isSome then 12 else 0) + (if r.time.isSome then 16 else 0) else 0)
    + 4 * r.payload.length

/-- DESC (Table 22-1). -/
def Rcd.descWord (r : Rcd) : Nat :=
  r.rep * 2 ^ 16 + (if r.wall.isSome then 2 ^ 15 else 0) + (if r.time.isSome then 2 ^ 14 else 0) + r.src

/-- The wall-time field: TAI seconds in 8 bytes, nanoseconds in 4. -/
def Rcd.wallBytes (r : Rcd) : List Byte :=
  match r.wall with
  | some w => leBytes 8 w.1 ++ leBytes 4 w.2
  | none => []

/-- The AT and LAST fields. -/
def Rcd.timeBytes (r : Rcd) : List Byte :=
  match r.time with
  | some t => leBytes 8 t ++ leBytes 8 r.last
  | none => []

/-- A record's bytes as it is written, with its SEQ, PCC and OPTIME (Table 22-1). -/
def Rcd.bytes (r : Rcd) (seq pcc optime : Nat) : List Byte :=
  leBytes 4 (sevCode r.sev * 2 ^ 28 + r.type * 2 ^ 16 + r.len) ++ leBytes 4 seq ++ leBytes 4 (r.cls * 2 ^ 24 + pcc)
    ++ leBytes 4 optime ++ (if r.desc then leBytes 4 r.descWord ++ r.wallBytes ++ r.timeBytes else [])
    ++ r.payload.flatMap (fun w => leBytes 4 w.toNat)

/-- Bytes a record occupies in NVM. -/
def Rcd.size (r : Rcd) : Nat := (r.len + 15) / 16 * 16

/-- A record folds into an earlier one of the same power cycle: TYPE, SEV, CLASS, SOURCE, LENGTH and payload are equal, it
is no record of 16 bytes and no CLEARED record (R526). -/
def Rcd.folds (r last : Rcd) : Bool :=
  r.type == last.type && r.sev == last.sev && r.cls == last.cls && r.src == last.src && r.len == last.len
    && r.payload == last.payload && r.type != 0x401 && decide (16 < r.len)

/-- A record with another folded into it: REPEAT counts, LAST takes the later full time (R526). -/
def Rcd.fold (last r : Rcd) : Rcd := { last with rep := satAdd 16 last.rep (1 + r.rep), last := r.last }

/-- Hand a record to the staging FIFO: it folds into the last staged record where it may; a full FIFO loses it and counts
the loss (R526, R528, R529). -/
def State.stage (s : State) (r : Rcd) : State :=
  match s.rcd.staged.getLast? with
  | some l =>
    if r.folds l then { s with rcd := { s.rcd with staged := s.rcd.staged.dropLast ++ [l.fold r] } }
    else if s.rcd.staged.length < 64 then { s with rcd := { s.rcd with staged := s.rcd.staged ++ [r] } }
    else s.incF F.REC_STAGE_LOST
  | none => { s with rcd := { s.rcd with staged := [r] } }

/-- A record of a block of its own, taken now (Table 22-2). -/
def State.blockRecord (s : State) (sev : Sev) (type cls : Nat) (payload : List Word) : State :=
  s.stage { sev := sev, type := type, cls := cls, desc := true, src := 0, wall := s.wall, time := s.stamp,
            last := s.fullTime, rep := 0, payload := payload }

/-- The record of a LOG instruction of sequencer `k` (R211, Tables 22-1 to 22-3). -/
def State.progRecord (s : State) (sev : Sev) (type k : Nat) (payload : List Word) : State :=
  s.stage { sev := sev, type := type, cls := 3, desc := true, src := k, wall := s.wall, time := s.stamp,
            last := s.fullTime, rep := 0, payload := payload }

/-- The record of an occurrence (R520, R522). -/
def State.occRecord (s : State) (o : Occ) : State :=
  s.stage { sev := o.sev, type := o.src, cls := srcClass o.src, desc := true, src := o.src, wall := s.wall,
            time := o.time, last := o.time.getD 0, rep := 0, payload := o.payload }

/-- The LOST record of an occurrence that found its source's waiting places full (R512, R529). -/
def State.lostRecord (s : State) (src : Nat) : State :=
  s.blockRecord .warning 0x400 0x10 [BitVec.ofNat 32 (1 + src * 2 ^ 16), 1]

/-! ## Raising an event (R508 to R519) -/

/-- What the controller keeps for a source that has not occurred. -/
def srcInfo0 : SrcInfo := { count := 0, time := 0, sev := none, wait := [] }

/-- What the controller keeps for a source. -/
def State.src (s : State) (n : Nat) : SrcInfo := mget srcInfo0 s.evt.info n

/-- Replace what the controller keeps for a source. -/
def State.setSrc (s : State) (n : Nat) (i : SrcInfo) : State :=
  { s with evt := { s.evt with info := mput srcInfo0 s.evt.info n i } }

/-- Bit of a source in a row of 32-bit registers, one bit per source. -/
def srcBit (reg : Nat → Nat) (n : Nat) : Fld := ⟨reg (n / 32), n % 32, 1⟩

/-- A source's enable bit (R508). -/
def State.srcEnabled (s : State) (n : Nat) : Bool := s.b (srcBit (fun w => Rg.EVT_EN w) n)

/-- An occurrence drives the sequencer-input latches its route names, waiting places or none (R516). -/
def State.latchInputs (s : State) (n : Nat) : State :=
  if s.srcEnabled n ∧ s.f (F.EVT_ROUTE_SEQMASK n) ≠ 0 then
    { s with evt := { s.evt with latches := s.evt.latches ++
        [{ mask := s.f (F.EVT_ROUTE_SEQMASK n), ein := s.f (F.EVT_ROUTE_EIN n),
           due := if srcTimed n then some (s.tl.fc + 6) else none, src := n }] } }
  else s

/-- Milliseconds the device watchdog runs after a kick: TO x 250, TO 0 acting as 1 (R541). -/
def State.wdFull (s : State) : Nat := max 1 (s.f F.DEV_WDCFG_TO) * 250

/-- The device watchdog runs (R541). -/
def State.wdRuns (s : State) : Bool :=
  s.b F.DEV_WDCFG_EN && s.f F.PWR_STAT_STATE == 0 && s.b F.CFG_KEY_VALID && s.pwr.restart == none

/-- An occurrence of KSRC kicks a running device watchdog (R541). -/
def State.kickBy (s : State) (n : Nat) : State :=
  if s.wdRuns ∧ s.b F.DEV_WDCFG_SRCEN ∧ s.f F.DEV_WDCFG_KSRC = n then s.setF F.DEV_WDSTAT_REMAIN s.wdFull else s

/-- The device watchdog after a change of what it runs on: loaded when it starts to run, 0 while it does not (R541). -/
def State.wdUpdate (s : State) (ran : Bool) : State :=
  if s.wdRuns then (if ran then s else s.setF F.DEV_WDSTAT_REMAIN s.wdFull) else s.setF F.DEV_WDSTAT_REMAIN 0

/-- fc in a millisecond. -/
def msFc : Nat := 983040

/-- A millisecond of the device watchdog, at every 983,040th fc: REMAIN counts down (R554; log 84). -/
def State.wdTick (s : State) : State :=
  if s.wdRuns ∧ s.tl.fc % msFc = 0 then s.setF F.DEV_WDSTAT_REMAIN (s.f F.DEV_WDSTAT_REMAIN - 1) else s

/-- The device watchdog may expire: a tenth of its time at most is left, as SOSC's 10 % allow (Table 16-1); where no fc
measures the time, at any moment (log 84). -/
def State.wdLate (s : State) : Bool :=
  s.wdRuns && (decide (10 * s.f F.DEV_WDSTAT_REMAIN ≤ s.wdFull) || !s.tl.running || s.b F.TL_STATUS_DEGRADED)

/-- An occurrence of RPL_TRIG.SRC while the trigger is armed is seen by a running capture (R558). -/
def State.trigBy (s : State) (n : Nat) : State :=
  if s.b F.RPL_TRIG_EN ∧ s.f F.RPL_TRIG_SRC = n ∧ s.f F.RPL_STAT_MODE = 1 ∧ s.rpl.trigAt = none ∧ s.rpl.trigDue = none then
    { s with rpl := { s.rpl with trigAt := some s.tl.fc } }
  else s

/-- Capture records: it runs and no freeze has come (R556, R558). -/
def State.capturing (s : State) : Bool :=
  s.f F.RPL_STAT_MODE == 1 && s.rpl.ask.isNone && (match s.rpl.trigDue with | some d => decide (s.tl.fc < d) | none => true)

/-- Freeze capture for a cause of RPL_STAT.CAUSE (R558). -/
def State.askFreeze (s : State) (cause : Nat) : State :=
  if s.capturing then { s with rpl := { s.rpl with ask := some cause } } else s

/-- A Fatal occurrence sets the fault latch, whatever its enable, mask and route (R519). -/
def State.faultBy (s : State) (v : Sev) : State := if v = .fatal then s.setF F.EVT_STAT_FAULT 1 else s

/-- The effects every occurrence has at once: its count and time (R515), the input latches (R516), the fault latch
(R519), the watchdog kick (R541) and the capture trigger (R558). -/
def State.occNow (s : State) (n : Nat) (v : Sev) : State :=
  let i := s.src n
  (((((s.setSrc n { i with count := satAdd 16 i.count 1, time := s.stamp.getD 0, sev := some v }).latchInputs n).faultBy v
    ).kickBy n).trigBy n)

/-- A source presents one occurrence and its block holds up to 8 more (R511). -/
def State.room (s : State) (n : Nat) : Bool := decide ((s.src n).wait.length < 9)

/-- Put an occurrence behind those its source holds. -/
def State.hold (s : State) (o : Occ) : State :=
  s.setSrc o.src { s.src o.src with wait := (s.src o.src).wait ++ [o] }

/-- An occurrence that finds its waiting places full: OVF and the LOST record (R512). -/
def State.overflow (s : State) (n : Nat) : State := (s.setF F.EVT_STAT_OVF 1).lostRecord n

/-- An occurrence of a source, but for the EVT_OVERFLOW it may bring about. -/
def State.raise1 (s : State) (n : Nat) (v : Sev) (payload : List Word) : State :=
  let t := s.occNow n v
  if s.room n then t.hold { src := n, sev := v, time := s.stamp, payload := payload } else t.overflow n

/-- An occurrence of a source at a severity: a full source also raises EVT_OVERFLOW with its number (R512). -/
def State.raiseAt (s : State) (n : Nat) (v : Sev) (payload : List Word) : State :=
  let t := s.raise1 n v payload
  if s.room n ∨ n = Ev.EVT_OVERFLOW then t else t.raise1 Ev.EVT_OVERFLOW .warning [BitVec.ofNat 32 n]

/-- An occurrence of a source at its fixed severity; a reserved source never occurs (R506, R507). -/
def State.raise (s : State) (n : Nat) (payload : List Nat) : State :=
  match srcSev n with
  | some v => s.raiseAt n v (payload.map (BitVec.ofNat 32))
  | none => s

/-- An occurrence for each listed source and payload. -/
def State.raiseAll (s : State) (l : List (Nat × List Nat)) : State := l.foldl (fun t e => t.raise e.1 e.2) s

/-- Layer `n`, and its sequencer, is in the scope of snapshots and replay (R559). -/
def State.inScope (s : State) (n : Nat) : Bool := nbits (s.f F.RPL_SNAP_LAYERS) n 1 == 1

/-! ## What leaves the part -/

/-- Something leaves the part. -/
def State.emit (s : State) (o : Out) : State := { s with out := o :: s.out }

/-- Band of a die, 0 to 9 for B, M, C1, L1 to C4, L4 (Table 17-6). -/
def State.band (s : State) (die : Nat) : Nat := nbits (s.f F.THERM_BAND_BANDS) (3 * die) 3

/-! ## The end of a readback (R400) -/

/-- A readback or restore ends with an error code: DONE, ERR and the event. -/
def State.endReadback (s : State) (err : Nat) : State :=
  let ly := match s.rb with | some r => nbits r.far 30 2 | none => nbits (s.f F.CFG_RBFAR_FAR) 30 2
  let t : State := { ((s.setF F.CFG_RBSTAT_BUSY 0).setF F.CFG_RBSTAT_DONE 1).setF F.CFG_RBSTAT_ERR err with rb := none }
  t.raise (if err = 0 then Ev.CFG_RB_DONE else Ev.CFG_RB_ERR) [ly, err]

/-- A stack die lies on the path of a frame: every die up to the one that holds it; pin and I/O settings lie on none. -/
def onPath (die far : Nat) : Bool :=
  nbits far 10 3 != 6 && decide (die ≤ 2 * nbits far 30 2 + (if nbits far 10 3 ≤ 4 then 1 else 2))

/-- A fence of a die ends a readback whose frame's path it is on. -/
def State.fenceReadback (s : State) (die : Nat) : State :=
  match s.rb with
  | some r => if onPath die r.far then s.endReadback 4 else s
  | none => s

/-! ## Snapshot copies (R561) -/

/-- The scope region of layer `k` (R559). -/
def State.scopeRegion (s : State) (k : Nat) : Fin 8 := Fin.ofNat 8 (s.f F.RPL_SNAP_REGS / 8 ^ k)

/-- A snapshot fails: its buffer becomes invalid (Table 24-2). -/
def State.snapFail (s : State) (b : Fin 2) (reason : Nat) : State :=
  let t := ((s.setF (F.RPL_SNAP_HI_VALID b.val) 0).setF (F.RPL_SNAP_HI_COVERED b.val) 0).setF (F.RPL_SNAP_HI_FAIL b.val) reason
  ({ t with rpl := { t.rpl with copy := none, snaps := t.rpl.snaps.set b.val none b.isLt } } : State).raise Ev.RPL_SNAP_FAIL
    [s.f F.RPL_STAT_MODE, b.val, reason]

/-- A die holds state of the snapshot whose copy runs: M recorded banks, the dies of a layer its scope. -/
def State.holdsSnapshot (s : State) (die : Nat) : Bool :=
  if die = 0 then s.f F.RPL_BANKS_BANKS != 0 else s.inScope ((die - 1) / 2)

/-- A fence or trip of a die that holds snapshot state ends the copy with ABORT. -/
def State.fenceSnapshot (s : State) (die : Nat) : State :=
  match s.rpl.copy with
  | some (b, _) => if s.holdsSnapshot die then s.snapFail b 6 else s
  | none => s

/-- What a copy that runs has not yet read has been cleared, or written by HCOEF (Table 24-2, DIRTY). -/
def State.snapDirty (s : State) (touched : Bool) : State :=
  if s.rpl.copy.isSome ∧ touched = true then { s with rpl := { s.rpl with dirty := true } } else s

/-! ## Reports in a LAST register: the fields, and VALID -/

/-- Write the word of a report register. -/
def State.report (s : State) (off : Nat) (fields : List (Fld × Nat)) : State :=
  s.setReg off (fields.foldl (fun w e => fldPut e.1 w e.2) 0)

/-- Write a report register that keeps, of the reports of one cycle, the one of lowest rank; of several of one rank the first given
stands (log 96). -/
def State.reportIn (s : State) (off cycle rank : Nat) (fields : List (Fld × Nat)) : State :=
  let prev := mget (0, 0) s.lastAt off
  if prev.1 = cycle + 1 ∧ prev.2 ≤ rank then s
  else { s.report off fields with lastAt := mput (0, 0) s.lastAt off (cycle + 1, rank) }

/-- A report register that keeps the report of lowest rank of one fc (R75, R85, R150). -/
def State.reportLow (s : State) (off rank : Nat) (fields : List (Fld × Nat)) : State := s.reportIn off s.tl.fc rank fields

end Sys2Proof.Machine
end

