-- ==== Sys2Proof/Machine/Bus.lean ====
section
/-! DEFINITION. Sys2Proof/Machine/Bus.lean: what stands before every register access: a block range, a gated block, a stack
die that cannot answer, a management reset, a stopped clock (R412, R420, R492, R587, R588); and what a write does to the
plain fields of a register and to their settings shadows (R17, R571).
-/
namespace Sys2Proof.Machine
open Sys2Proof

/-! ## What stands before an access -/

/-- An offset lies in a block range of Table 26-2. -/
def inBlock (off : Nat) : Bool :=
  decide (off < 0x140000) || (decide (0x200000 ≤ off) && decide (off < 0x400000)) || off / 0x10000 == 0x50
    || off / 0x10000 == 0x60

/-- A gate is open: bit `b` of CLK_GATESTAT0 and CLK_GATESTAT1 counted on (Table 16-7). -/
def State.gateOpen (s : State) (b : Nat) : Bool := nbits (s.f (F.CLK_GATESTAT_OPEN (b / 32))) (b % 32) 1 == 1

/-- The gate bit a register stands behind: a SerDes lane, an LPDDR6 channel, CFG, RPL, FH (R417, Table 16-7). -/
def gateOf (off : Nat) : Option Nat :=
  if off / 0x10000 = 7 then some 49
  else if off / 0x10000 = 0x50 then some 50
  else if off / 0x10000 = 0xA then some 51
  else if Rg.SDS_LANE_CFG 0 ≤ off ∧ off < Rg.SDS_LANE_CFG 32 then some ((off - Rg.SDS_LANE_CFG 0) / 0x20)
  else (List.range 16).findSome? (fun n => if off = Rg.DDR_CH_STAT n then some (32 + n) else none)

/-- The stack die a register's block lies on, 0 to 8 for M, C1, L1, C2, L2, C3, L3, C4, L4 (Table 26-2). -/
def dieOf (off : Nat) : Option Nat :=
  if off / 0x10000 = 0xD ∨ 0x200000 ≤ off ∧ off < 0x400000 then some 0
  else if 0x100000 ≤ off ∧ off < 0x140000 then some (2 * ((off - 0x100000) / 0x10000) + 2)
  else none

/-- Fence phase of a die: 0 OPEN, 1 DRAIN, 2 RESET, 3 RESTART (Table 13-3). -/
def State.phase (s : State) (die : Nat) : Nat := nbits (s.f F.VL_FENSTAT_PHASE) (2 * die) 2

/-- A stack die answers: powered, not held in reset, its fence OPEN (R588). -/
def State.dieUp (s : State) (die : Nat) : Bool :=
  nbits s.pwr.held die 1 == 0 && nbits s.pwr.dark die 1 == 0 && s.phase die == 0

/-- The untimed base link has failed, or a group of the timed base link (R354, R356): no fill, write-back, host access or register access crosses. -/
def State.baseDead (s : State) : Bool := nbits s.vl.dead 0 1 == 1

/-! Domain sources (Table 16-6). -/

def srcPrimary : Nat := 0
def srcFallback : Nat := 1
def srcDegraded : Nat := 2
def srcStopped : Nat := 3
def srcBoot : Nat := 4

/-- The clock domain a register's block runs on, beside the register bus's own; none for a block on the register bus's domain
(DEV, CLK, PWR, EVT, REC, ECC, VL, RPL, SEC) and for Rinom, whose registers read on through a restart (Tables 1-7 and 26-2,
R245). -/
def domainOf (off : Nat) : Option Nat :=
  let blk := off / 0x10000
  if blk = 3 then some 23
  else if blk = 6 then some 24
  else if blk = 7 then some 3
  else if blk = 8 then some 20
  else if blk = 0xA then some 17
  else if blk = 0xB then some 25
  else if blk = 0xC then (List.range 16).findSome? (fun n => if off = Rg.DDR_CH_STAT n then some (15 + n / 8) else none)
  else if blk = 0xD ∨ 0x200000 ≤ off ∧ off < 0x400000 then some 5
  else if 0x100000 ≤ off ∧ off < 0x140000 then some (6 + (off - 0x100000) / 0x10000)
  else none

/-- A domain is stopped, degraded or on fallback, and its external interfaces are quiet (R412). -/
def State.quiet (s : State) (d : Nat) : Bool := s.f (F.CLK_DOM_SRC d) != srcPrimary && s.f (F.CLK_DOM_SRC d) != srcBoot

/-- An access is held: the register bus's domain, MGMT, or its block's domain is stopped (R412). -/
def State.heldBus (s : State) (off : Nat) : Bool :=
  s.f (F.CLK_DOM_SRC 2) == srcStopped || (match domainOf off with | some d => s.f (F.CLK_DOM_SRC d) == srcStopped | none => false)

/-- The answer that stops an access before it reaches its register; none lets it through. A held access has no effect: it
completes when it is given again after the restart, or ends by BUS_TIMEOUT (log 122). The register bus reaches a stack die over
the untimed base link (Table 13-2): with the link failed a host's access aborts, the controller's never completes (R356, R538). -/
def State.stopAccess (s : State) (who : Who) (off : Nat) : Option Reply :=
  if who = .host ∧ s.pwr.stable = false then some .abort
  else if inBlock off = false then some .abort
  else if s.heldBus off then some .held
  else if (match gateOf off with | some b => !s.gateOpen b | none => false) then some .busError
  else if (match dieOf off with | some d => !s.dieUp d | none => false) then some .busError
  else if (dieOf off).isSome ∧ s.baseDead = true then some (if who = .host then .abort else .held)
  else if s.pwr.mgmtRst ∧ (off / 0x10000 = 5 ∨ off / 0x10000 = 6 ∨ off / 0x10000 = 0x60) then some .busError
  else none

/-- The gate bit of a stopped access, where a closed gate stops it (R420). -/
def State.gateStop (s : State) (who : Who) (off : Nat) : Option Nat :=
  if (who = .host ∧ s.pwr.stable = false) ∨ s.heldBus off = true then none
  else match gateOf off with
    | some b => if s.gateOpen b then none else some b
    | none => none

/-- An access that is stopped: its answer, and CLK_GATED_ACCESS where a closed gate stops it. A host sees a bus error as a
Completer Abort (R420, R588). -/
def State.refuse (s : State) (who : Who) (off : Nat) (r : Reply) : State :=
  let t := match s.gateStop who off with
    | some b => s.raise Ev.CLK_GATED_ACCESS [b]
    | none => s
  { t with reply := if who = .host ∧ r ≠ .held then .abort else r }

/-- Populated LPDDR6 channels (R459). -/
def State.dramChannels (s : State) : Nat := match s.f F.DDR_CFG_NCH with
  | 0 => 4
  | 1 => 8
  | 2 => 16
  | _ => 0

/-- The fronthaul SerDes lanes have power (R264). -/
def State.sdsOn (s : State) : Bool := nbits (s.f F.PWR_STAT_RAILOK) 5 2 == 3

/-- The PCIe link goes down. -/
def State.pcieDown (s : State) : State := if s.pcieUp then { s with pcieUp := false }.raise Ev.PCIE_LINK_DOWN [0] else s

/-! ## Plain fields -/

/-- Of the bits of an event source's enable or route those it has: none for a reserved source, and REC is read-only for a
Critical or Fatal one (R506, Table 21-4). -/
def evtBits (off : Nat) (m : Word) : Word :=
  if Rg.EVT_EN 0 ≤ off ∧ off < Rg.EVT_EN 64 then m &&& BitVec.ofNat 32 (srcKnownWord ((off - Rg.EVT_EN 0) / 4 % 32))
  else if Rg.EVT_ROUTE 0 ≤ off ∧ off < Rg.EVT_ROUTE 1024 then
    let n := (off - Rg.EVT_ROUTE 0) / 4
    if srcKnown n = false then 0
    else match srcSev n with
      | some v => if 3 ≤ sevRank v then m &&& ~~~0x40000000#32 else m
      | none => m
  else m

/-- The bits of a register that a write sets: RW, and LK until a STORE has locked them (Table 0-4). -/
def State.writable (s : State) (off : Nat) (r : RegRow) : Word :=
  evtBits off (if s.nvs.locked then r.rw &&& ~~~r.lk else r.rw)

/-- The settings fields of a register: those of the recorder, the counters and soft repair are none (R571). -/
def nvsMask (off : Nat) : Word :=
  match regRow off with
  | some r => if off / 0x10000 = 5 ∨ off / 0x10000 = 2 then 0 else evtBits off r.nvs
  | none => 0

/-- The shipped values of a register's settings fields (R573). -/
def shipped (off : Nat) : Word := regReset off &&& nvsMask off

/-- The shadow of a register's settings fields (R571). -/
def State.shadow (s : State) (off : Nat) : Word := mget (shipped off) s.nvs.shadow off

/-- Set shadow bits of a register. -/
def State.setShadow (s : State) (off : Nat) (m v : Word) : State :=
  let w := (s.shadow off &&& ~~~m) ||| (v &&& m)
  { s with nvs := { s.nvs with shadow := mput (shipped off) s.nvs.shadow off w } }

/-- What a register write does to the fields that have no act of their own: RW fields take the value, LK fields while
they are not locked, W1C bits clear where 1 is written, and the shadows of settings fields follow (Table 0-4, R571). -/
def State.writeFields (s : State) (off : Nat) (v : Word) : State :=
  match regRow off with
  | some r =>
    let m := s.writable off r
    let w := s.reg off
    let t := s.setReg off (((w &&& ~~~m) ||| (v &&& m)) &&& ~~~(v &&& r.w1c))
    if nvsMask off = 0 then t else t.setShadow off (nvsMask off &&& m) v
  | none => s

/-- A write of a register that has a command of its own: where the access gets through, the plain fields take their bits
and the command acts. -/
def State.onBus (s : State) (who : Who) (off : Nat) (v : Word) (act : State → State) : State :=
  match s.stopAccess who off with
  | some r => s.refuse who off r
  | none => { act (s.writeFields off v) with reply := .done }

end Sys2Proof.Machine
end

