-- ==== Sys2Proof/Machine/SeqOps.lean ====
section
/-!
DEFINITION. Sys2Proof/Machine/SeqOps.lean: what every Saeno instruction is written over: the general registers (R154),
the issue of an instruction (R156, R158), what follows it (R198), diversions to the ALT and fault entries (R164 to
R169), stopping (R179) and starting (R178).
-/
namespace Sys2Proof.Machine
open Sys2Proof

/-- A sequencer's state. -/
def State.seq (s : State) (k : Fin 4) : Seq := s.seqs.get k

/-- Replace a sequencer's state. -/
def State.setSeq (s : State) (k : Fin 4) (q : Seq) : State := { s with seqs := s.seqs.set k.val q k.isLt }

/-- Change a sequencer's state. -/
def State.modSeq (s : State) (k : Fin 4) (h : Seq → Seq) : State := s.setSeq k (h (s.seq k))

/-- Read a general register: g0 reads as 0 (R154). -/
def Seq.rd (q : Seq) (r : Fin 32) : Word := if r = 0 then 0 else q.g.get r

/-- Write a general register: a write to g0 is discarded (R154). -/
def Seq.wr (q : Seq) (r : Fin 32) (w : Word) : Seq := if r = 0 then q else { q with g := q.g.set r.val w r.isLt }

/-- Write consecutive general registers from a number on. -/
def Seq.wrAll (q : Seq) : Nat → List Word → Seq
  | _, [] => q
  | r, w :: ws => if h : r < 32 then (q.wr ⟨r, h⟩ w).wrAll (r + 1) ws else q

/-- `n` consecutive general registers from a number on. -/
def Seq.rdAll (q : Seq) (r n : Nat) : List Word :=
  (List.range n).map (fun i => if h : r + i < 32 then q.rd ⟨r + i, h⟩ else 0)

/-- An operand of an instruction: the immediate, or the register's value (Table 7-3). -/
def Seq.opnd (q : Seq) : Opnd → Nat
  | .imm v => v
  | .reg r => (q.rd r).toNat

/-- A program word that nothing has written: 0 in the vector table, else HALT (R375). -/
def pgmDefault (a : Nat) : BitVec 64 := if a % 65536 < 16 then 0 else 0x2500000000000000

/-- A program word (R155). -/
def State.pgmWord (s : State) (k : Fin 4) (a : Nat) : Nat :=
  (mget (pgmDefault (65536 * k.val + a)) s.fab.pgm (65536 * k.val + a)).toNat

/-- A vector-table entry: its address while PRESENT is 1 (Table 6-2). -/
def State.vector (s : State) (k : Fin 4) (n : Nat) : Option Nat :=
  if nbits (s.pgmWord k n) 63 1 = 1 then some (nbits (s.pgmWord k n) 0 16) else none

/-- The event inputs an instruction sees: not those latched in its own issue fc (R176, R196, R202). -/
def Seq.inputs (q : Seq) (fc : Nat) : Word := if q.evNewAt = fc + 1 then q.evin else q.evin ||| q.evNew

/-- Event inputs latched in the present fc (R176). -/
def Seq.latch (q : Seq) (fc : Nat) (w : Word) : Seq :=
  { q with evin := q.inputs fc, evNew := if q.evNewAt = fc + 1 then q.evNew ||| w else w, evNewAt := fc + 1 }

/-- Event inputs cleared in the present fc: one latched in it stays (R176, R212). -/
def Seq.clearInputs (q : Seq) (fc : Nat) (mask : Word) : Seq :=
  { q with evin := q.inputs fc &&& ~~~mask, evNew := if q.evNewAt = fc + 1 then q.evNew else 0 }

/-- The address that follows the instruction last issued: a loop whose last word it is, at the depth the loop recorded,
goes back while passes remain (R198). -/
def Seq.peek (q : Seq) : Nat :=
  match q.loops with
  | l :: _ => if l.last = q.pc ∧ l.depth = q.calls.length ∧ 1 < l.remaining then l.start else (q.pc + 1) % 65536
  | [] => (q.pc + 1) % 65536

/-- The last word of a loop's body has finished its issue cost: a pass is counted, or the entry pops (R198). -/
def countPass (l : LoopEnt) : List LoopEnt := if 1 < l.remaining then [{ l with remaining := l.remaining - 1 }] else []

/-- The instruction last issued is the last word of the innermost loop, at the depth the loop recorded (R198). -/
def Seq.endsLoop (q : Seq) : Bool :=
  match q.loops with
  | l :: _ => decide (l.last = q.pc ∧ l.depth = q.calls.length)
  | [] => false

/-- Close the instruction last issued: its successor is next, and the innermost loop it ends counts a pass or pops (R198). -/
def Seq.close (q : Seq) : Seq :=
  match q.loops with
  | l :: r =>
    if l.last = q.pc ∧ l.depth = q.calls.length then { q with next := q.peek, loops := countPass l ++ r }
    else { q with next := q.peek }
  | [] => { q with next := q.peek }

/-- The issue cost of a loop's last word ends: the entry that was innermost at its issue, the `n`th from the bottom, counts its
pass, also where a handler has begun loops of its own since (R165, R198). -/
def closeAt (n : Nat) (l : List LoopEnt) : List LoopEnt :=
  match l.drop (l.length - n) with
  | e :: r => if n ≤ l.length then l.take (l.length - n) ++ countPass e ++ r else l
  | [] => l

/-- Go on behind the instruction last issued, from fc `due` on. -/
def Seq.goOn (q : Seq) (due : Nat) : Seq := { q.close with mode := .running, wait := .none, due := due }

/-- The instruction last issued took `cost` fc; its successor issues next (R158). -/
def State.done (s : State) (k : Fin 4) (cost : Nat) : State := s.modSeq k (fun q => q.goOn (s.tl.fc + cost))

/-- The instruction last issued takes several fc: its successor issues after them, and a loop it ends counts its pass when they
are over (R158, R198). -/
def State.doneLong (s : State) (k : Fin 4) (cost : Nat) : State :=
  s.modSeq k (fun q => { q with next := q.peek, mode := .running, wait := .none, due := s.tl.fc + cost,
                                openEnd := if q.endsLoop then some (s.tl.fc + cost, q.loops.length) else none })

/-! ## Diversions -/

/-- Enter the ALT entry: g30 and g31 take the report and the address that would have issued next (R165). -/
def Seq.enterAlt (q : Seq) (entry due : Nat) (w nxt : Word) : Seq :=
  { (q.wr 30 w).wr 31 nxt with
      inAlt := true, altPend := none, clrAlt := false, stallCond := none, wait := .none, mode := .running,
      next := entry, due := due }

/-- Enter the fault entry: g30 and g31 take the report and the address that would have issued next (R168). -/
def Seq.enterFault (q : Seq) (entry due : Nat) (w nxt : Word) : Seq :=
  { (q.wr 30 w).wr 31 nxt with
      inFault := true, clrFault := false, stallCond := none, wait := .none, mode := .running, next := entry, due := due }

/-- Enter FAULTED. -/
def Seq.fail (q : Seq) : Seq := { q with mode := .faulted, wait := .none, stallCond := none }

/-- The ALT diversion of a condition that arises in fc `h` (R165): SEQn_ALT, g30 and g31 take the reason, the region
and the address that would have issued next; the ALT entry issues in fc `h + 2`. -/
def State.takeAlt (s : State) (k : Fin 4) (entry reason region h nxt : Nat) : State :=
  let w := BitVec.ofNat 32 (reason * 2 ^ 24 + region * 2 ^ 16 + nxt % 2 ^ 16)
  let t := s.setReg (Rg.SEQ_ALT k) w
  (t.modSeq k (fun q => q.enterAlt entry (h + 2) w (BitVec.ofNat 32 (nxt % 2 ^ 16)))).raise (Ev.ALT_TAKEN k) [(s.seq k).pc, reason, region]

/-- A fault of a cause that arises in fc `r` at an address (R167, R168): SEQn_FAULT and SEQ_FAULT in every case; a
diversion to the fault entry, or FAULTED where the entry is absent or INFAULT is already 1. -/
def State.seqFault (s : State) (k : Fin 4) (cause fpc r nxt : Nat) : State :=
  let w := BitVec.ofNat 32 (cause * 2 ^ 24 + fpc % 2 ^ 16)
  let t := (s.setReg (Rg.SEQ_FAULT k) w).raise (Ev.SEQ_FAULT k) [(s.seq k).pc, cause]
  match s.vector k 0 with
  | some e =>
    if (s.seq k).inFault then t.modSeq k Seq.fail
    else t.modSeq k (fun q => q.enterFault e (r + 2) w (BitVec.ofNat 32 (nxt % 2 ^ 16)))
  | none => t.modSeq k Seq.fail

/-- The address of the instruction that would have issued next: while an instruction waits, its successor. -/
def Seq.wouldIssue (q : Seq) : Nat :=
  match q.wait with
  | .none => q.next
  | _ => q.peek

/-- An ALT condition arises in the present fc (R164 to R166, R169): a diversion; while a handler runs it stays pending,
the latest one standing; during a stall it waits for the stall's end; without an ALT entry it is a fault. A sequencer
that is STOPPED or FAULTED takes none. -/
def State.altCond (s : State) (k : Fin 4) (reason region : Nat) : State :=
  let q := s.seq k
  if q.mode = .stopped ∨ q.mode = .faulted then s
  else match q.wait with
    | .stall _ _ _ =>
      if q.inAlt ∨ q.inFault then s.modSeq k (fun q => { q with altPend := some (reason, region) })
      else s.modSeq k (fun q => { q with stallCond := some (reason, region) })
    | _ =>
      match s.vector k 1 with
      | some e =>
        if q.inAlt ∨ q.inFault then s.modSeq k (fun q => { q with altPend := some (reason, region) })
        else s.takeAlt k e reason region s.tl.fc q.wouldIssue
      | none => s.seqFault k (if reason = 1 then 0x0A else 0x0B) q.pc s.tl.fc q.wouldIssue

/-! ## Issue -/

/-- A sequencer issues in the present fc: RUNNING, past its last issue cost, with no stop to take effect (R158). -/
def Seq.ready (q : Seq) (fc : Nat) : Bool :=
  q.mode == .running && q.wait == .none && decide (q.due ≤ fc) && (q.stopReq == none || q.stopReq == some fc)

/-- The handler bits that end in the fc in which this instruction issues (R165, R168). -/
def Seq.clearHandlers (q : Seq) (fc : Nat) : Seq :=
  let a := q.inAlt && !q.clrAlt
  let i := q.inFault && !q.clrFault
  { q with inAlt := a, inFault := i, clrAlt := false, clrFault := false,
           quiet := if (q.inAlt || q.inFault) && !(a || i) then fc else q.quiet }

/-- The instruction at the next address issues: that address is the PC. -/
def Seq.begin (q : Seq) (fc : Nat) : Seq := { q.clearHandlers fc with pc := q.next, issuedAt := fc + 1 }

/-- The word at a sequencer's next address as its fetch delivers it: a pattern the code does not recognize leaves bits of it
wrong, there and in the store (R322). -/
def State.fetched (s : State) (k : Fin 4) (e : Flaw) : Nat := Nat.xor (s.pgmWord k (s.seq k).next) (e.wrong % 2 ^ 64)

/-- Store a program word (R375). -/
def State.putPgm (s : State) (key w : Nat) : State :=
  { s with fab := { s.fab with pgm := mput (pgmDefault key) s.fab.pgm key (BitVec.ofNat 64 w) } }

/-- A corrected program word is written back within the next 16 fc (R156). -/
def State.owePgm (s : State) (key : Nat) : State :=
  if (mfind s.fab.pgmWb key).isSome then s else { s with fab := { s.fab with pgmWb := mins s.fab.pgmWb key (s.tl.fc + 16) } }

/-- The write-back of a corrected program word: its mark goes. -/
def State.writePgmBack (s : State) (key : Nat) : State :=
  let err := if mget Ecc.clean s.fab.pgmErr key = .corr then mdel s.fab.pgmErr key else s.fab.pgmErr
  { s with fab := { s.fab with pgmWb := mdel s.fab.pgmWb key, pgmErr := err } }

/-- Write-backs whose last fc the present one is (R156). -/
def State.pgmWbEnd (s : State) : State :=
  (s.fab.pgmWb.filter (fun e => decide (e.2 ≤ s.tl.fc))).foldl (fun t e => t.writePgmBack e.1) s

/-- Sequencer `k` issues the instruction at its next address, its program word found as `e` beside the mark it already bears:
the word fetched spells `i` (R158, R185). A correctable word is issued corrected, counted, and owes its write-back; an
uncorrectable one is not issued and faults FETCH_UNCORR (R156). -/
def State.issue (s : State) (k : Fin 4) (e : Flaw) (i : Instr) (run : State → State) : State :=
  let q := s.seq k
  if q.ready s.tl.fc then
    let a := 65536 * k.val + q.next
    let mark := eccWorse e.ecc (mget Ecc.clean s.fab.pgmErr a)
    let t := if e.ecc = .clean then s else { s with fab := { s.fab with pgmErr := mput Ecc.clean s.fab.pgmErr a mark } }
    let u := if e.wrong % 2 ^ 64 = 0 then t else t.putPgm a (s.fetched k e)
    match mark with
    | .uncorr =>
      ((u.incF (F.SEQ_PMERR_UNCORR k)).raise (Ev.PGM_UNCORR k) [q.next]).seqFault k 0x01 q.next s.tl.fc q.next
    | .corr =>
      if saenoInstr k e (s.fetched k e) = i then
        run ((((u.owePgm a).incF (F.SEQ_PMERR_CORR k)).raise (Ev.PGM_CORR k) [q.next]).modSeq k (fun q => q.begin s.tl.fc))
      else s
    | .clean => if saenoInstr k e (s.fetched k e) = i then run (u.modSeq k (fun q => q.begin s.tl.fc)) else s
  else s

/-- A fault in the issue fc of the instruction last issued. -/
def State.issueFault (s : State) (k : Fin 4) (cause : Nat) : State :=
  s.seqFault k cause (s.seq k).pc s.tl.fc (s.seq k).peek

/-- Enter STOPPED, a wait abandoned and a barrier arrival withdrawn (R179). -/
def State.seqStop (s : State) (k : Fin 4) : State :=
  if (s.seq k).mode = .stopped then s.modSeq k (fun q => { q with stopReq := none, wait := .none })
  else (s.modSeq k (fun q => { q with mode := .stopped, wait := .none, stopReq := none, stallCond := none })).raise
    (Ev.SEQ_STOPPED k) [(s.seq k).pc]

/-- A timeline group of a layer has failed (R349, R354). -/
def State.lineDead (s : State) (k : Nat) : Bool :=
  s.vl.groups.any (fun e => e.2.failed &&
    (let j := e.1 / 4096
     let g := e.1 % 4096
     decide (j = 0 ∧ (g = 64 + 2 * k ∨ g = 65 + 2 * k) ∨ 1 ≤ j ∧ j ≤ 2 * k + 2 ∧ (g = 629 * k + 627 ∨ g = 629 * k + 628))))

/-- A start at the entry SEQn_CTL names, counted from the present fc: an absent entry sets BADSTART (R178, R180); a layer
whose timeline group has failed refuses it (R354). While a start is already pending, another is ignored (log 105). -/
def State.seqStart (s : State) (k : Fin 4) : State :=
  let q := s.seq k
  if s.lineDead k then s
  else if (q.mode = .stopped ∨ q.mode = .faulted) ∧ q.wait = .none then
    match s.vector k (2 + s.f (F.SEQ_CTL_ENTRY k)) with
    | some e => s.modSeq k (fun q => { q with wait := .start e s.tl.fc })
    | none => s.setF (F.SEQ_STATUS_BADSTART k) 1
  else s

/-- A performed queue access writes its registers and flags in the last fc of its cost (R186); one that was aborted or
refused faults when the next instruction would have issued (R207). -/
def State.applyRes (s : State) (k : Fin 4) (r : PortRes) : State :=
  let u := s.modSeq k (fun q => { q.wrAll r.d r.data with z := r.z.getD q.z, c := r.c.getD q.c })
  match r.fault with
  | some cause =>
    if (u.seq k).mode = .stopped ∨ (u.seq k).mode = .faulted then u
    else u.seqFault k cause r.pc s.tl.fc (u.seq k).wouldIssue
  | none => u

/-- The results that are due in this fc, in order of issue. -/
def State.portFc (s : State) (k : Fin 4) : State :=
  ((s.seq k).res.filter (fun r => decide (r.due ≤ s.tl.fc))).foldl (fun t r => t.applyRes k r)
    (s.modSeq k (fun q => { q with res := q.res.filter (fun r => decide (s.tl.fc < r.due)) }))

/-- An issue cost of several fc that has ended counts the pass of the loop it closes (R198). -/
def Seq.endCost (q : Seq) (fc : Nat) : Seq :=
  match q.openEnd with
  | some (due, n) => if due ≤ fc then { q with loops := closeAt n q.loops, openEnd := none } else q
  | none => q

/-- A STOP has been asked for and acts in this fc wherever the sequencer stands (R179). -/
def Seq.leaving (q : Seq) (fc : Nat) : Bool :=
  match q.stopReq with
  | some w => decide (w < fc)
  | none => false

/-- A STOP takes effect with the start of this fc: past the issue cost and no stall. One at a barrier waits for the end of the
fc, since a release in it comes first, and one at a released barrier for the fc after the release (R179). -/
def Seq.stops (q : Seq) (fc : Nat) : Bool :=
  q.leaving fc && match q.wait with
    | .stall _ _ _ => false
    | .barrier _ _ _ => false
    | .released _ c _ => decide (c < fc)
    | _ => q.mode != .running || decide (q.due ≤ fc)

/-- The end of an fc in which no release has come: a STOP at a barrier wait takes effect in it, the arrival withdrawn (R179). -/
def State.barrierStop (s : State) (k : Fin 4) : State :=
  match (s.seq k).wait with
  | .barrier _ _ _ => if (s.seq k).leaving s.tl.fc then s.seqStop k else s
  | _ => s

/-- A sequencer whose barrier was released issues its next instruction from the fc the release names (R171). -/
def Seq.unbar (q : Seq) (fc : Nat) : Seq :=
  match q.wait with
  | .released _ _ due => if due ≤ fc then q.goOn due else q
  | _ => q

/-- What every fc boundary does for a sequencer in the new fc. -/
def State.seqFc (s : State) (k : Fin 4) : State :=
  let t := s.portFc k
  let u := t.modSeq k (fun q => (q.endCost t.tl.fc).unbar t.tl.fc)
  if (u.seq k).stops u.tl.fc then u.seqStop k else u

end Sys2Proof.Machine
end

