-- ==== Sys2Proof/Machine/AirTime.lean ====
section
/-!
DEFINITION. Sys2Proof/Machine/AirTime.lean: epochs of AT: release and rebase (R220 to R224).
-/
namespace Sys2Proof.Machine
open Sys2Proof

/-- Rinom's units in a second: 1/3072 ns. -/
def tsec : Int := 3072000000000

/-- TAI seconds from the PTP epoch at the origin of the GPS timescale, with its 19 s (R220, log 21). -/
def gpsOrigin : Int := 315964819

/-- Rinom's time in the GPS timescale (R220). -/
def State.gps (s : State) : Int := s.rin.tai - gpsOrigin * tsec

/-- O of TL_OFFSET, taken modulo the SFN cycle (Table 8-6). -/
def State.tlOffset (s : State) : Nat := (s.f F.TL_OFFSET_LO_OFS + s.f F.TL_OFFSET_HI_OFSH * 2 ^ 32) % L

/-- The words of a full time in the present fc, and what an event of the timeline unit carries beside them (R242). -/
def State.timed (s : State) (extra : List Nat) : List Nat := [s.fullTime % 2 ^ 32, s.fullTime / 2 ^ 32] ++ extra

/-- A lane group with no correction in its window. -/
def Lanes.noWin (x : Lanes) : Lanes := { x with win := [] }

/-- No lane group that has seen no error is listed. -/
def lanes0 : Lanes := { win := [], faill := none, badSpares := 0 }

/-- A correction window ends, and the next has no correction in it (R99, R352). -/
def State.newWindow (s : State) : State :=
  { s with fab := { s.fab with lanes := s.fab.lanes.filterMap (fun e =>
             if e.2.noWin = lanes0 then none else some (e.1, e.2.noWin)) }
           vl := { s.vl with groups := s.vl.groups.map (fun e => (e.1, { e.2 with lanes := e.2.lanes.noWin })) } }

/-- The schedules keyed to AT go on from its new value: the port windows and correction windows in progress end (R223, log 111). -/
def State.newSched (s : State) : State :=
  let t := s.newWindow
  { t with mem := { t.mem with ports := t.mem.ports.map (fun e => (e.1, { e.2 with win := 0 })) } }

/-- An epoch begins in the present fc at an epoch count of R220, every copy of AT loaded from it (R221, R231). -/
def State.beginEpoch (s : State) (e : Int) : State :=
  let n : Int := e / (L : Int)
  let t := { s with tl := { s.tl with
      released := true, relFc := s.tl.fc, at34 := (e - n * (L : Int)).toNat, hfn := (n % 65536).toNat,
      epochs := satAdd 8 s.tl.epochs 1, e0 := e } }
  let u := (t.loadCopies.newSched).setF F.TL_COPY_FAIL 0
  u.raise Ev.AT_RELEASED (u.timed [])

/-- A release in the present fc (R220, R221): AT and HFN from Rinom's time, a new epoch. What AT is away from that time, at
most half an fc, is Rinom's to slew. -/
def State.release (s : State) : State :=
  let o := s.tlOffset
  let k : Int := (2 * s.gps + 3125) / 6250
  let t := ({ s with tl := { s.tl with offset := o }, rin := { s.rin with owed := (3125 * k - s.gps) / 12 } } : State).beginEpoch
    (k - (o : Int))
  (t.setF F.TK_STATE_ATOFF 0).askFreeze 6

/-- The release RELMODE calls for in the first fc in which Rinom is LOCKED (R221). -/
def State.autoRelease (s : State) : State :=
  if s.tl.running ∧ s.tl.released = false ∧ s.f F.TL_CTL_RELMODE ≠ 2 ∧ s.f F.TL_STATUS_TKSTATE = 1 then s.release else s

/-- A REBASE is accepted (R224): sequencers stopped, departures off, no SYSREF generator on or about to be. -/
def State.rebaseOk (s : State) : Bool :=
  (List.finRange 4).all (fun k => (s.seq k).mode == .stopped || (s.seq k).mode == .faulted)
    && !s.b F.TL_DEPCFG_EN
    && s.tl.sysref.toList.all (fun g => !g.cfg.en && g.pend.all (fun p => !p.1.en))

/-- The running epoch ends in the present fc, and one that a release begins follows it (R224). -/
def State.newEpoch (s : State) (begin_ : State → State) : State :=
  let t := if s.tl.released then s.raise Ev.AT_EPOCH_END (s.timed []) else s
  let u := begin_ t
  if s.tl.released then u.blockRecord .warning 0x403 0 (timeWords s.fullTime ++ timeWords u.fullTime) else u

/-- What a write of TL_CTL has set going acts in the present fc, the one after the write: a REBASE ends the running epoch and begins
a new one, a RELEASE begins the first (R221, R224). -/
def State.askedEpoch (s : State) : State :=
  let t : State := { s with tl := { s.tl with ask := none } }
  match s.tl.ask with
  | some true => t.newEpoch State.release
  | some false => if s.tl.released then t else t.release
  | none => s

/-- A release, or true a REBASE, acts in the next fc. -/
def State.askEpoch (s : State) (x : Bool) : State := { s with tl := { s.tl with ask := some x } }

/-- A write of TL_CTL: REBASE, and, where none is accepted, RELEASE. -/
def State.tlCtl (s : State) (who : Who) (v : Word) : State :=
  s.onBus who Rg.TL_CTL v (fun t =>
    if v.getLsbD 1 ∧ t.tl.running = true ∧ t.rebaseOk = true then t.askEpoch true
    else
      let u := if v.getLsbD 1 then t.setF F.TL_STATUS_REBASEREJ 1 else t
      if v.getLsbD 0 ∧ t.tl.running = true ∧ t.tl.released = false ∧ t.tl.ask = none then u.askEpoch false else u)

/-- RELEASE (R221). -/
def execRelease (who : Who) (v : Word) (s : State) : Host.Outcome State Fault Refusal := ok (s.tlCtl who v)

/-- REBASE (R224). -/
def execRebase (who : Who) (v : Word) (s : State) : Host.Outcome State Fault Refusal := ok (s.tlCtl who v)

/-- RELTO_TIMEOUT (R221): RELTO seconds after the base die left reset, under RELMODE 0b01 or 0b11. -/
def execReltoTimeout (s : State) : Host.Outcome State Fault Refusal :=
  onlyIf (s.tl.running = true ∧ s.tl.released = false ∧ s.f F.TL_CTL_RELMODE % 2 = 1) s s.release

end Sys2Proof.Machine
end

