-- ==== Sys2Proof/Machine/MemWords.lean ====
section
/-!
DEFINITION. Sys2Proof/Machine/MemWords.lean: the words of the memory layer and of the LPDDR6 behind it: reading one through
its code, storing one, write-back queues, and the lines of the shared cache (chapters 10, 12 and 18).
-/
namespace Sys2Proof.Machine
open Sys2Proof

/-- Change the memory layer. -/
def State.modMem (s : State) (h : Memory → Memory) : State := { s with mem := h s.mem }

/-- A port or a queue controller performs a request in the present fc. -/
def State.memActs (s : State) : State := s.modMem (fun m => { m with reqAt := s.tl.fc + 1 })

/-! ## Words and their code (R275, R321 to R331)

A bank or cache word is named by 2^20 x unit + word index, units 0 to 31 the banks and 32 to 47 the slices; a tag by
2^26 + line number, the line number being 65536 x slice + 16 x set + way. -/

/-- Key of the tag of a line. -/
def tagKey (line : Nat) : Nat := 2 ^ 26 + line

/-- Key of word `w` of a line. -/
def lineWord (line w : Nat) : Nat := 2 ^ 25 + 16 * line + w

/-- Unit of a key: the bank, or 32 + the slice. -/
def unitOf (key : Nat) : Nat := if key < 2 ^ 26 then key / 2 ^ 20 else 32 + (key - 2 ^ 26) / 2 ^ 16

/-- A borrowed window of a unit holds a word (R336). -/
def State.borrowed (s : State) (key : Nat) : Bool :=
  match mfind s.mem.borrow (key / 2 ^ 20) with
  | some b => key % 2 ^ 20 / 512 == b.window
  | none => false

/-- Key of a word of a unit's graze save buffer. -/
def saveKey (unit i : Nat) : Nat := 2 ^ 27 + 512 * unit + i

/-- Where a word stands: a borrowed window stands in the save buffer of its unit's graze engine (R337). -/
def State.home (s : State) (key : Nat) : Nat := if s.borrowed key then saveKey (key / 2 ^ 20) (key % 512) else key

/-- A word's valid bit (R275); tags have none of their own. -/
def State.valid (s : State) (key : Nat) : Bool := (mfind s.mem.words (s.home key)).isSome || (decide (2 ^ 26 ≤ key) && decide (key < 2 ^ 27))

/-- What an access finds in a word: what it brings from outside, or the mark the word bears, the worse of the two; nothing in a
word that is not valid (R275). -/
def State.foundAt (s : State) (errs : List (Nat × Flaw)) (key : Nat) : Ecc :=
  if s.valid key then eccWorse (flawAt errs key).ecc (mget Ecc.clean s.mem.marks (s.home key)) else .clean

/-- Mark a word. -/
def State.mark (s : State) (key : Nat) (e : Ecc) : State :=
  let h := s.home key
  s.modMem (fun m => { m with marks := mput .clean m.marks h e })

/-- The MEM cycle of a unit as commands count it: an fc in which none has been performed counts for itself. -/
def State.cycNow (s : State) (u : Nat) : Nat :=
  match mfind s.mem.cyc u with
  | some c => max (5 * s.tl.fc) c.id
  | none => 5 * s.tl.fc

/-- ECC_MEMLAST for a word or tag: FOUND 0 a request, 1 browse, 2 graze (Table 12-9). -/
def State.memReport (s : State) (key : Nat) (uncorr : Bool) (found : Nat) (lost : Bool) : State :=
  let tag := decide (2 ^ 26 ≤ key)
  s.reportIn Rg.ECC_MEMLAST (s.cycNow (unitOf key)) key
    [(F.ECC_MEMLAST_KIND, if tag then 2 else if 32 ≤ unitOf key then 1 else 0),
     (F.ECC_MEMLAST_INSTANCE, if 32 ≤ unitOf key then unitOf key - 32 else unitOf key),
     (F.ECC_MEMLAST_WORD, if tag then (key - 2 ^ 26) / 16 % 4096 else key % 2 ^ 20),
     (F.ECC_MEMLAST_UNCORR, if uncorr then 1 else 0), (F.ECC_MEMLAST_FOUND, found),
     (F.ECC_MEMLAST_TAGLOST, if lost then 1 else 0), (F.ECC_MEMLAST_VALID, 1)]

/-- Correction count of a unit. -/
def corrCnt (u : Nat) : Fld := if u < 32 then F.ECC_BANK_CNT_CORR u else F.ECC_SLICE_CNT_CORR (u - 32)

/-- Uncorrectable count of a unit. -/
def uncorrCnt (u : Nat) : Fld := if u < 32 then F.ECC_BANK_CNT_UNCORR u else F.ECC_SLICE_CNT_UNCORR (u - 32)

/-- A unit's action on a correctable error is PASS (R324). -/
def State.eccPass (s : State) (u : Nat) : Bool :=
  if u < 32 then s.b (F.MEM_BANK_CFG_ECCMODE u) else nbits (s.f F.ECC_MODE_SLICE) (u - 32) 1 == 1

/-- A corrected word is put into its unit's write-back queue; a full queue leaves it as under PASS (R325, R327). -/
def State.queueWriteBack (s : State) (key : Nat) : State :=
  let u := unitOf key
  let l := mget [] s.mem.wbq u
  if s.eccPass u ∨ l.contains key then s
  else if l.length < 16 then s.modMem (fun m => { m with wbq := mput [] m.wbq u (l ++ [key]) })
  else (s.incF F.ECC_WBSTAT_WBOVF).raise Ev.ECC_WB_OVF [u, key % 2 ^ 20]

/-- A read that corrects a word is counted and reported (R328). -/
def State.countCorr (s : State) (key found : Nat) : State :=
  ((s.incF (corrCnt (unitOf key))).memReport key false found false).raise Ev.MEM_CORR [unitOf key, key % 2 ^ 20]

/-- A read that finds an uncorrectable word is counted and reported (R329). -/
def State.countUncorr (s : State) (key found : Nat) : State :=
  ((s.incF (uncorrCnt (unitOf key))).memReport key true found false).raise Ev.MEM_UNCORR [unitOf key, key % 2 ^ 20]

/-- A read that finds a correctable word: marked, counted and reported (R328). -/
def State.readCorr (s : State) (key found : Nat) : State := (s.mark key .corr).countCorr key found

/-- A read that finds an uncorrectable word: marked, counted and reported (R329). -/
def State.readUncorr (s : State) (key found : Nat) : State := (s.mark key .uncorr).countUncorr key found

/-- The data of a word; one not valid reads 0 (R275). -/
def State.word (s : State) (key : Nat) : BitVec 64 := mget 0 s.mem.words (s.home key)

/-- In a clear cycle a bank remembers what is written in it (R287). -/
def Memory.keepWord (m : Memory) (unit at_ : Nat) : Memory :=
  match mfind m.clears unit with
  | some c => (match c.keep with
    | some l => { m with clears := mins m.clears unit { c with keep := some (at_ :: l) } }
    | none => m)
  | none => m

/-- Put data into a word, valid from now on, whatever its mark. -/
def State.putWord (s : State) (key : Nat) (w : BitVec 64) : State :=
  let h := s.home key
  s.modMem (fun m => { m.keepWord (key / 2 ^ 20) h with words := mins m.words h w })

/-- The bits an error has flipped, or a correction gone wrong leaves wrong, stand in the word from now on (R322). -/
def State.suffer (s : State) (errs : List (Nat × Flaw)) (key : Nat) : State :=
  let x := (flawAt errs key).wrong % 2 ^ 64
  if x = 0 ∨ s.valid key = false ∨ 2 ^ 26 ≤ key then s else s.putWord key (s.word key ^^^ BitVec.ofNat 64 x)

/-- A line is valid and dirty. -/
def State.lineDirty (s : State) (line : Nat) : Bool :=
  match mfind s.mem.lines line with
  | some l => l.dirty
  | none => false

/-- Take a line out: its data and their marks go with it. -/
def State.dropLine (s : State) (line : Nat) : State :=
  let gone := (List.range 16).map (fun w => s.home (lineWord line w))
  s.modMem (fun m => { m with
    lines := mdel m.lines line, marks := m.marks.filter (fun e => !gone.contains e.1 && e.1 != tagKey line),
    words := m.words.filter (fun e => !gone.contains e.1) })

/-- A request meets what an access found in a word: counted, reported, queued for its write-back (R328, R329). -/
def State.meetWord (s : State) (e : Ecc) (key : Nat) : State :=
  match e with
  | .clean => s
  | .corr => (s.readCorr key 0).queueWriteBack key
  | .uncorr => s.readUncorr key 0

/-- A request reads a word through its code (R322, R328 to R330): what it found, the data, and the state after. -/
def State.readWord (s : State) (errs : List (Nat × Flaw)) (key : Nat) : Ecc × BitVec 64 × State :=
  let t := s.suffer errs key
  (s.foundAt errs key, t.word key, t.meetWord (s.foundAt errs key) key)

/-- Spread the byte enables of a word over its bits. -/
def byteMask (be : Nat) : BitVec 64 :=
  (List.range 8).foldl (fun m i => if nbits be i 1 = 1 then m ||| (0xFF#64 <<< (8 * i)) else m) 0

/-- Store into a word (R275): all 8 bytes bring a fresh code, and drop a waiting write-back; fewer merge, and are refused on
an uncorrectable word. Answers whether it was refused. -/
def State.storeWord (s : State) (errs : List (Nat × Flaw)) (key : Nat) (w : BitVec 64) (be : Nat) : Bool × State :=
  let clean (t : State) : State := (t.mark key .clean).modMem (fun m => { m with
    wbq := mput [] m.wbq (unitOf key) ((mget [] m.wbq (unitOf key)).filter (· != key)) })
  if be % 256 = 0 then (false, s)
  else if be % 256 = 255 then (false, (clean s).putWord key w)
  else
    let t := s.suffer errs key
    if s.foundAt errs key = .uncorr then (true, t.mark key .uncorr)
    else (false, (clean t).putWord key ((t.word key &&& ~~~byteMask be) ||| (w &&& byteMask be)))

/-- The queue controller writes a 32-bit half of a word of a metadata array, which stands whatever the word held: an uncorrectable
word takes the half with a fresh code (R298, R315). -/
def State.storeHalf (s : State) (key : Nat) (w : Nat) (high : Bool) : State :=
  let v := if high then (s.word key).toNat % 2 ^ 32 + w % 2 ^ 32 * 2 ^ 32 else (s.word key).toNat / 2 ^ 32 * 2 ^ 32 + w % 2 ^ 32
  (s.storeWord [] key (BitVec.ofNat 64 v) 255).2

/-- Store a word poisoned (R323). -/
def State.storePoison (s : State) (key : Nat) (w : BitVec 64) : State := (s.putWord key w).mark key .uncorr

/-- Read the eight words of a beat: words, the poisoned ones as a mask, the state after. -/
def State.readBeat (s : State) (errs : List (Nat × Flaw)) (base : Nat) : List (BitVec 64) × Nat × State :=
  (List.range 8).foldl (fun a i =>
    let r := a.2.2.readWord errs (base + i)
    (a.1 ++ [r.2.1], if r.1 = .uncorr then a.2.1 + 2 ^ i else a.2.1, r.2.2)) ([], 0, s)

/-- Store the words of a beat under their byte enables; answers whether a partial write was refused. -/
def State.writeBeat (s : State) (errs : List (Nat × Flaw)) (base : Nat) (ws : List (BitVec 64)) (be : Nat) : Bool × State :=
  ((List.range 8).zip ws).foldl (fun a e =>
    let r := a.2.storeWord errs (base + e.1) e.2 (be / 256 ^ e.1)
    (a.1 || r.1, r.2)) (false, s)

/-- The canonical form of what the memory layer and the LPDDR6 hold: addresses rise, a word listed is one that is valid, and no
entry is an LPDDR6 word that reads as an unlisted one or a mark that says nothing. -/
def Memory.wf (m : Memory) : Bool :=
  mrise 0 m.words && mwf Ecc.clean m.marks && mwf (0 : BitVec 64) m.dram && mwf Ecc.clean m.dramMarks

/-- One byte of bank or cache words, by the byte's place in them. -/
def State.byteAt (s : State) (a : Nat) : Byte := BitVec.ofNat 8 ((s.word (a / 8)).toNat / 256 ^ (a % 8))

/-! ## LPDDR6 (R273, R459, R460) -/

/-- Populated bytes: 0 while a populated channel has failed its training (R459). -/
def State.dramSize (s : State) : Nat :=
  if (List.range s.dramChannels).all (fun n => s.b (F.DDR_CH_STAT_TRAINED n)) then
    min (s.dramChannels * (match s.f F.DDR_CFG_DENS with | 0 => 2 | 1 => 4 | _ => 8) * 2 ^ 30) (128 * 2 ^ 30)
  else 0

/-- log2 of the populated channels. -/
def State.dramK (s : State) : Nat := match s.f F.DDR_CFG_NCH with
  | 0 => 2
  | 1 => 3
  | _ => 4

/-- Channel of a DRAM byte (R460). -/
def State.dramChan (s : State) (a : Nat) : Nat := nbits a 7 s.dramK ^^^ nbits a 17 s.dramK

/-- A DRAM byte is unpopulated: beyond the populated size, or in a channel whose gate is closed (R273, R420). -/
def State.dramGone (s : State) (a : Nat) : Bool := decide (s.dramSize ≤ a) || !s.gateOpen (32 + s.dramChan a)

/-- Requests to the devices of a DRAM byte's channel wait: its domain, DDR_A or DDR_B, does not run on its loop, and they are in
self-refresh (R412). -/
def State.dramWaits (s : State) (a : Nat) : Bool := s.quiet (15 + s.dramChan a / 8)

/-- Mark of a DRAM word as a read finds it. -/
def State.dramFound (s : State) (errs : List (Nat × Flaw)) (w : Nat) : Ecc :=
  eccWorse (flawAt errs w).ecc (mget Ecc.clean s.mem.dramMarks w)

/-- Write a DRAM word: the cache's word carried unchanged, an uncorrectable one poisoned (R321, R323). -/
def State.putDram (s : State) (w : Nat) (v : BitVec 64) (e : Ecc) : State :=
  s.modMem (fun m => { m with dram := mput 0 m.dram w v, dramMarks := mput .clean m.dramMarks w e })

/-! ## The shared cache (R288 to R292) -/

/-- Slice of a DRAM byte. -/
def sliceOf (a : Nat) : Nat := nbits a 7 4 ^^^ nbits a 11 4 ^^^ nbits a 15 4 ^^^ nbits a 19 4

/-- Number of way 0 of a DRAM byte's set. -/
def setBase (a : Nat) : Nat := 65536 * sliceOf a + 16 * nbits a 11 12

/-- Tag of a DRAM byte. -/
def tagOf (a : Nat) : Nat := nbits a 23 14

/-- DRAM byte that a line holds first: bits [10:7] follow from the slice and the set and tag bits. -/
def lineAddr (line tag : Nat) : Nat :=
  let slice := line / 65536
  let set := line / 16 % 4096
  let high := tag * 2 ^ 23 + set * 2 ^ 11
  high + (slice ^^^ nbits high 11 4 ^^^ nbits high 15 4 ^^^ nbits high 19 4) * 2 ^ 7

/-- The line that holds a DRAM byte. -/
def State.hitLine (s : State) (a : Nat) : Option Nat :=
  ((List.range 16).map (fun w => setBase a + w)).find? (fun l => match mfind s.mem.lines l with
    | some x => x.tag == tagOf a
    | none => false)

/-- The look-up reads the tags of the set: a correctable tag is counted; an uncorrectable one invalidates its line, and a
dirty line is lost (R331). -/
def State.checkTags (s : State) (errs : List (Nat × Flaw)) (a found : Nat) : State :=
  (List.range 16).foldl (fun t w =>
    let l := setBase a + w
    match mfind t.mem.lines l with
    | some x =>
      match t.foundAt errs (tagKey l) with
      | .clean => t
      | .corr => (t.readCorr (tagKey l) found).queueWriteBack (tagKey l)
      | .uncorr =>
        if x.dirty then
          ((((t.incF (uncorrCnt (unitOf (tagKey l)))).memReport (tagKey l) true found true).raise Ev.MEM_UNCORR
            [unitOf (tagKey l), l]).raise Ev.TAG_LOST [unitOf (tagKey l) - 32, l / 16 % 4096]).dropLine l
        else (t.readUncorr (tagKey l) found).dropLine l
    | none => t) s

/-- A use of a line makes it the most recently used. -/
def State.useLine (s : State) (l : Nat) (dirty : Bool) : State :=
  match mfind s.mem.lines l with
  | some x => s.modMem (fun m => { m with
      lines := mins m.lines l { x with used := m.clk + 1, dirty := x.dirty || dirty }, clk := m.clk + 1 })
  | none => s

/-- DRAM byte to whose channel a dirty line is written back; none where nothing is to be written. -/
def State.backTo (s : State) (l : Nat) : Option Nat :=
  match mfind s.mem.lines l with
  | some x => if x.dirty then some (lineAddr l x.tag) else none
  | none => none

/-- A line stays dirty: the gate of the channel its write-back needs is closed (R420). -/
def State.stuckLine (s : State) (l : Nat) : Bool := match s.backTo l with | some a => !s.gateOpen (32 + s.dramChan a) | none => false

/-- A line's write-back waits for its channel (R412). -/
def State.backWaits (s : State) (l : Nat) : Bool := match s.backTo l with | some a => !s.stuckLine l && s.dramWaits a | none => false

/-- Write a line's words back to LPDDR6 as they stand, uncorrectable ones poisoned (R291, R321, R323); a closed gate keeps it
dirty (R420). -/
def State.cleanLine (s : State) (l : Nat) : State :=
  match mfind s.mem.lines l with
  | some x =>
    if x.dirty ∧ s.stuckLine l = false then
      let t := (List.range 16).foldl (fun t w =>
        t.putDram (lineAddr l x.tag / 8 + w) (t.word (lineWord l w)) (t.foundAt [] (lineWord l w))) s
      t.modMem (fun m => { m with lines := mins m.lines l { x with dirty := false } })
    else s
  | none => s

/-- Invalidate a line, its dirty data written back first; one that stays dirty stays (R420). -/
def State.evict (s : State) (l : Nat) : State := if s.stuckLine l then s else (s.cleanLine l).dropLine l

/-- The ways a master may allocate into; a mask of 0 acts as 0xFFFF (R290). -/
def State.wayMask (s : State) (master : Nat) : Nat :=
  let m := s.f (F.MEM_WAYMASK_WAYS master)
  if m = 0 then 0xFFFF else m

/-- The line a miss of a master replaces: one that is not valid, else the least recently used of its ways that does not have to stay
(R288, R420). -/
def State.victim (s : State) (a master : Nat) : Nat :=
  let ways := (((List.range 16).filter (fun w => nbits (s.wayMask master) w 1 == 1)).map (fun w => setBase a + w)).filter (fun l => !s.stuckLine l)
  match ways.find? (fun l => (mfind s.mem.lines l).isNone) with
  | some l => l
  | none => (ways.foldl (fun (b : Nat × Nat) l =>
      match mfind s.mem.lines l with
      | some x => if b.2 = 0 ∨ x.used + 1 < b.2 then (l, x.used + 1) else b
      | none => b) (setBase a, 0)).1

/-- A miss of a master cannot be filled yet: its line's channel is in self-refresh, or the line it would replace stays dirty
or waits to be written back (R412, R420). -/
def State.fillWaits (s : State) (a master : Nat) : Bool :=
  s.dramWaits a || s.stuckLine (s.victim a master) || s.backWaits (s.victim a master)

/-- Fill a line from LPDDR6 for a master: its words come as they stand there, those found uncorrectable poisoned (R291, R321).
Answers the line. -/
def State.fillLine (s : State) (a master : Nat) (errs : List (Nat × Flaw)) : Nat × State :=
  let l := s.victim a master
  let t := s.evict l
  let base := a / 128 * 16
  let u := (List.range 16).foldl (fun t w =>
    let v := mget 0 t.mem.dram (base + w) ^^^ BitVec.ofNat 64 (flawAt errs (base + w)).wrong
    (t.putWord (lineWord l w) v).mark (lineWord l w) (t.dramFound errs (base + w))) t
  (l, u.modMem (fun m => { m with
    lines := mins m.lines l { tag := tagOf a, dirty := false, used := m.clk + 1 }, clk := m.clk + 1 }))

/-- After a read that found an uncorrectable word in a clean line, the line is invalidated (R330). -/
def State.dropIfBad (s : State) (l bad : Nat) : State :=
  if bad ≠ 0 ∧ s.lineDirty l = false then s.dropLine l else s

/-! ## Save buffers (R336, R337, R339) -/

/-- A unit's graze engine takes its window into its save buffer as it stands. -/
def State.takeWindow (s : State) (u : Nat) (b : Borrow) : State :=
  let base := u * 2 ^ 20 + 512 * b.window
  s.modMem (fun m => { m with
    borrow := mins m.borrow u b
    words := mmove m.words base (saveKey u 0) 512
    marks := mmove m.marks base (saveKey u 0) 512 })

/-- The buffer is written back to its window. -/
def State.returnWindow (s : State) (u : Nat) : State :=
  match mfind s.mem.borrow u with
  | some b =>
    let base := u * 2 ^ 20 + 512 * b.window
    s.modMem (fun m => { m with
      borrow := mdel m.borrow u
      words := mcut (mmove m.words (saveKey u 0) base 512) (saveKey u 0) (saveKey u 512)
      marks := mcut (mmove m.marks (saveKey u 0) base 512) (saveKey u 0) (saveKey u 512) })
  | none => s

/-- Every borrow in progress writes back: what a reset or a power-down that keeps VDD_MEM waits for (R339). -/
def State.returnWindows (s : State) : State := (s.mem.borrow.map (fun e => e.1)).foldl State.returnWindow s

/-! ## Clears (R287) -/

/-- A bank's valid bits clear, those of the words written in the clear cycle kept; a clear during a borrow reaches the buffer
too. -/
def State.clearWords (s : State) (n : Nat) (keep : List Nat) : State :=
  let out (k : Nat) : Bool := (k / 2 ^ 20 == n || decide (saveKey n 0 ≤ k ∧ k < saveKey n 512)) && !keep.contains k
  (s.modMem (fun m => { m with
    words := m.words.filter (fun e => !out e.1), marks := m.marks.filter (fun e => !out e.1), clears := mdel m.clears n
    wbq := mput [] m.wbq n ((mget [] m.wbq n).filter (fun k => !out (s.home k))) })).snapDirty
      (nbits (s.f F.RPL_BANKS_BANKS) n 1 == 1)

/-- A clear of a bank that is asked for waits for the next MEM cycle. -/
def State.askClear (s : State) (n : Nat) : State :=
  s.modMem (fun m => { m with clears := mins m.clears n { asked := s.tl.fc, keep := none } })

/-- A MEM cycle of a bank begins: it is the clear cycle of a clear that waits, and the first after one that has had its. -/
def State.clearCycle (s : State) (n : Nat) : State :=
  match mfind s.mem.clears n with
  | some c => (match c.keep with
    | none => s.modMem (fun m => { m with clears := mins m.clears n { c with keep := some [] } })
    | some l => s.clearWords n l)
  | none => s

/-- Clears whose cycle is past at the start of an fc. -/
def State.clearsFc (s : State) : State :=
  s.mem.clears.foldl (fun t e => match e.2.keep with
    | some l => t.clearWords e.1 l
    | none => if e.2.asked + 2 ≤ s.tl.fc then t.clearWords e.1 [] else t) s

end Sys2Proof.Machine
end

