-- ==== Sys2Proof/Machine/QueueCore.lean ====
section
/-!
DEFINITION. Sys2Proof/Machine/QueueCore.lean: what every push and pop is written over: rings and metadata words, publication,
collisions with port A, poison and the head's timer (chapter 11, R280 to R286).
-/
namespace Sys2Proof.Machine
open Sys2Proof

/-! ## A queue and its geometry (R295 to R302) -/

/-- A queue never allocated. -/
def queue0 : Queue :=
  { en := false, cfg := 0, rbase := 0, mbase := 0, push := 0, pop := 0, count := 0, room := 0, lent := 0, fresh := (0, 0),
    ending := false, headAt := 0, hist := [], was := none, gone := [], bells := [] }

/-- A queue by its number. -/
def State.queue (s : State) (q : Nat) : Queue := mget queue0 s.qs q

/-- Replace a queue. -/
def State.setQueue (s : State) (q : Nat) (x : Queue) : State := { s with qs := mput queue0 s.qs q x }

/-- log2 of a ring's entries. -/
def Queue.log (x : Queue) : Nat := nbits x.cfg 25 4 + 4

/-- Entries of a ring. -/
def Queue.size (x : Queue) : Nat := 2 ^ x.log

/-- Bytes of an entry. -/
def Queue.esz (x : Queue) : Nat := 16 * 2 ^ nbits x.cfg 29 2

/-- 64-bit words of an entry. -/
def Queue.words (x : Queue) : Nat := x.esz / 8

/-- The producer's class and index, as QCc_ACFG gives them. -/
def Queue.prod (x : Queue) : Nat := nbits x.cfg 10 10

/-- The consumer's class and index. -/
def Queue.cons (x : Queue) : Nat := nbits x.cfg 0 10

/-- A party of a queue (Table 11-4). -/
def partyHost : Nat := 0x080
def partyHdma (ch : Nat) : Nat := 0x100 + ch
def partyFabric (layer port : Nat) : Nat := 0x180 + 32 * layer + port
def partySeq (k : Nat) : Nat := 0x200 + k
def partyFh (port : Nat) : Nat := 0x280 + port

/-- Entries for which a ring has room: those accepted and not yet published keep their places (R302). -/
def Queue.free (x : Queue) : Nat := x.size - (x.count + x.room)

/-- MEM cycles in which a 64-byte beat at a time carries an entry (R280). -/
def Queue.beats (x : Queue) : Nat := max 1 (x.words / 8)

/-- No published entry. -/
def Queue.empty (x : Queue) : Bool := x.count == 0

/-- No free entry. -/
def Queue.full (x : Queue) : Bool := x.free == 0

/-- QCc_Qi_STAT of a queue (Table 11-11). -/
def Queue.stat (x : Queue) : Nat := (if x.full then 2 ^ 31 else 0) + (if x.empty then 2 ^ 30 else 0) + x.count

/-- QCc_Qi_PTR of a queue. -/
def Queue.ptr (x : Queue) : Nat := x.push % 65536 * 2 ^ 16 + x.pop % 65536

/-- What STAT and PTR show in fc `now`: a change reaches them after its fc (R314). -/
def Queue.shown (x : Queue) (now : Nat) : Nat × Nat :=
  match x.was with
  | some (f, st, pt) => if f = now then (st, pt) else (x.stat, x.ptr)
  | none => (x.stat, x.ptr)

/-- A change of a queue by its controller, its fill state kept as the sequencers and BAR4 will see it (R206, R314). -/
def State.queueChange (s : State) (q : Nat) (h : Queue → Queue) : State :=
  let x := s.queue q
  let y := { h x with was := some (s.tl.fc, x.shown s.tl.fc) }
  let rest : List (Nat × Bool × Bool) := y.hist.filter (fun e => e.1 != s.tl.fc)
  (s.setQueue q { y with hist := ((s.tl.fc, y.empty, y.full) :: rest).take 20 }).memActs

/-- Key of the first word of an entry by its count. -/
def entryKey (q : Nat) (x : Queue) (n : Nat) : Nat := q / 1024 * 2 ^ 20 + (x.rbase + x.esz * (n % x.size)) / 8

/-- Key of the 64-bit word that holds an entry's metadata word. -/
def metaKey (q : Nat) (x : Queue) (n : Nat) : Nat := q / 1024 * 2 ^ 20 + (x.mbase + 4 * (n % x.size)) / 8

/-- The metadata word lies in the upper half. -/
def metaHigh (x : Queue) (n : Nat) : Bool := (x.mbase / 4 + n % x.size) % 2 == 1

/-- A metadata word (Table 11-2). -/
def metaWord (sof poison : Bool) (seq : Nat) : Nat :=
  (if sof then 2 ^ 17 else 0) + (if poison then 2 ^ 16 else 0) + seq % 65536

/-! ## Port B and its collisions (R280, R284, R286) -/

/-- Published entries a pop of this MEM cycle finds: not those lent to responses on their way, nor those published in it (R312,
R313). -/
def State.poppable (s : State) (q : Nat) : Nat :=
  let x := s.queue q
  x.count - x.lent - (if x.fresh.1 = s.cycNow (q / 1024) then x.fresh.2 else 0)

/-- A unit in whose latest MEM cycle nothing has happened. -/
def cyc0 : MemCyc := { id := 0, base := 0, wrote := 0, old := [], busyA := false, busyB := false, owe := 0, bOld := [] }

/-- The latest MEM cycle of a unit. -/
def State.cyc (s : State) (u : Nat) : MemCyc := (mfind s.mem.cyc u).getD cyc0

/-- Port B of a bank is free in its latest MEM cycle. -/
def State.portBFree (s : State) (bank : Nat) : Bool := !(s.cyc bank).busyB

/-- The port-A beat of the bank's MEM cycle in the present fc, if one is performed. -/
def State.portA (s : State) (bank : Nat) : Option MemCyc :=
  match mfind s.mem.cyc bank with
  | some c => if c.id ≠ 0 ∧ (c.id - 1) / 5 = s.tl.fc then some c else none
  | none => none

/-- Port A writes a word in this MEM cycle. -/
def State.writtenByA (s : State) (key : Nat) : Bool :=
  match s.portA (key / 2 ^ 20) with
  | some c => decide (c.base ≤ key ∧ key < c.base + 8) && nbits c.wrote (key - c.base) 1 == 1
  | none => false

/-- A word as port B reads it in this MEM cycle: as it stood before port A wrote it (R285). -/
def State.oldWord (s : State) (key : Nat) : Option (BitVec 64 × Ecc) :=
  match s.portA (key / 2 ^ 20) with
  | some c => if s.writtenByA key then c.old[key - c.base]? else none
  | none => none

/-- The lowest word of a port-B write that port A writes in the same cycle. -/
def State.collides (s : State) (keys : List Nat) : Option Nat := keys.find? (fun k => s.writtenByA k)

/-- A port-B beat is discarded: counted, recorded and reported (R284). BSRC 0 host, 1 queue controller, 2 replay. -/
def State.collision (s : State) (key src : Nat) : State :=
  let n := key / 2 ^ 20
  let t := (s.incF (F.MEM_BANK_STAT_COLLCNT n)).reportIn Rg.MEM_COLLAST (s.cycNow n) n
    [(F.MEM_COLLAST_BANK, n), (F.MEM_COLLAST_WORD, key % 2 ^ 20), (F.MEM_COLLAST_BSRC, src), (F.MEM_COLLAST_VALID, 1)]
  if s.b (F.MEM_BANK_CFG_COLLEV n) then t.raise Ev.MEM_COLLIDE [n, key % 2 ^ 20, src] else t

/-- Port B of a bank is taken for `n` MEM cycles: this one, where it is free, and the next ones (R280). -/
def State.usePortB (s : State) (bank n : Nat) : State :=
  let c := s.cyc bank
  s.modMem (fun m => { m with cyc := mins m.cyc bank { c with busyB := true, owe := c.owe + (if c.busyB then n else n - 1) } })

/-- Port B is about to write words: as they stand before it is what port A reads in this cycle (R285). -/
def State.keepOld (s : State) (bank : Nat) (keys : List Nat) : State :=
  let c := s.cyc bank
  let old := keys.foldl (fun l k => if (mfind l k).isSome then l else mins l k (s.word k, s.foundAt [] k)) c.bOld
  s.modMem (fun m => { m with cyc := mins m.cyc bank { c with bOld := old } })

/-- Port B reads a word: as it stood before port A wrote it in this cycle (R285), through its code (R328, R329). -/
def State.readB (s : State) (errs : List (Nat × Flaw)) (key : Nat) : Ecc × BitVec 64 × State :=
  match s.oldWord key with
  | some x =>
    let e := eccWorse (flawAt errs key).ecc x.2
    (e, x.1 ^^^ BitVec.ofNat 64 (flawAt errs key).wrong,
      match e with | .clean => s | .corr => s.countCorr key 0 | .uncorr => s.countUncorr key 0)
  | none => s.readWord errs key

/-- Port A reads the eight words of a beat as they stood before port B wrote them in this cycle (R285). -/
def State.readBeatA (s : State) (errs : List (Nat × Flaw)) (base : Nat) : List (BitVec 64) × Nat × State :=
  let c := s.cyc (base / 2 ^ 20)
  let old (k : Nat) : Option (BitVec 64 × Ecc) := if c.id ≠ 0 ∧ (c.id - 1) / 5 = s.tl.fc then mfind c.bOld k else none
  let r := s.readBeat errs base
  (((List.range 8).zip r.1).map (fun e => match old (base + e.1) with | some x => x.1 | none => e.2),
   (List.range 8).foldl (fun m i => match old (base + i) with
     | some x => if x.2 = .uncorr ∧ nbits m i 1 = 0 then m + 2 ^ i else if x.2 ≠ .uncorr ∧ nbits m i 1 = 1 then m - 2 ^ i else m
     | none => m) r.2.1, r.2.2)

/-! ## Publication (R297, R298) -/

/-- CRC-32C of a byte onto a running value. -/
def crc32c (crc : Nat) (b : Byte) : Nat :=
  (List.range 8).foldl (fun c _ => if c % 2 = 1 then c / 2 ^^^ 0x82F63B78 else c / 2) (crc ^^^ b.toNat)

/-- CRC-32C over bytes, from a running value. -/
def crc32cAll (crc : Nat) (l : List Byte) : Nat := l.foldl crc32c crc

/-- Bytes of an entry and its metadata word, as the ring of chapter 24 carries them. -/
def entryBytes (ws : List (BitVec 64)) (m : Nat) : List Byte := ws.flatMap (fun w => leBytes 8 w.toNat) ++ leBytes 4 m

/-- A running capture notes a ring record of the present fc (R557). -/
def State.ringNote (s : State) (type id : Nat) (payload : List Byte) : State :=
  if s.capturing then
    { s with rpl := { s.rpl with now := s.rpl.now ++ [{ type := type, time := s.fullTime, id := id, payload := payload }] } }
  else s

/-- What capture and replay see of a publication: the INGRESS or HOSTQ record of a recorded controller, and the CRC of an
enabled queue (R557, R567). -/
def State.pubNote (s : State) (q : Nat) (bytes : List Byte) (entries : Nat) : State :=
  let cls := (s.queue q).prod / 128
  let t := if nbits (s.f F.RPL_CAPQC_QC) (q / 1024) 1 = 1 then
      if cls = 5 then s.ringNote 1 q bytes else if cls = 1 ∨ cls = 2 then s.ringNote 2 q bytes else s
    else s
  if t.b F.RPL_CRCCFG_EN = true ∧ (t.capturing = true ∨ t.f F.RPL_STAT_MODE = 3) then
    (List.range 16).foldl (fun t n =>
      if t.b (F.RPL_CRCQ_EN n) ∧ t.f (F.RPL_CRCQ_QUEUE n) = q then
        let c := mget (0, 0xFFFFFFFF) t.rpl.crc n
        { t with rpl := { t.rpl with crc := mput (0, 0xFFFFFFFF) t.rpl.crc n (c.1 + entries, crc32cAll c.2 bytes) } }
      else t) t
  else t

/-- Publish the next entries: their words and metadata stand in the ring, and the push count moves on (R297, R298). -/
def State.publish (s : State) (q : Nat) (metas : List Nat) (words : List (List (BitVec 64))) : State :=
  let n := metas.length
  let x := s.queue q
  let now := s.cycNow (q / 1024)
  let t := s.queueChange q (fun x => { x with
    push := (x.push + n) % 65536, count := x.count + n, headAt := if x.count = 0 ∧ 0 < n then s.tl.fc else x.headAt
    fresh := (now, if x.fresh.1 = now then x.fresh.2 + n else n) })
  t.pubNote q ((words.zip metas).flatMap (fun p => entryBytes (p.1.take x.words) p.2)) n

/-! ### Pushes on their way (R280, R286, R298, R302) -/

/-- Beats a push takes: one for the metadata word of each entry that the host has written, else each entry's own. -/
def Rewrite.beats (r : Rewrite) (x : Queue) : Nat := r.batch.length * (if r.bell then 1 else x.beats)

/-- The entry a push's next beat belongs to, and the beat's place in it. -/
def Rewrite.at (r : Rewrite) (x : Queue) : Nat × Nat := if r.bell then (r.done, 0) else (r.done / x.beats, r.done % x.beats)

/-- The next beat carries the entry's metadata word: its last does (R298). -/
def Rewrite.lastBeat (r : Rewrite) (x : Queue) : Bool := r.bell || (r.at x).2 + 1 == x.beats

/-- The ring words of a push's next beat, by their place in the entry. -/
def Rewrite.places (r : Rewrite) (x : Queue) : List Nat :=
  if r.bell then [] else (List.range (min 8 (x.words - 8 * (r.at x).2))).map (fun i => 8 * (r.at x).2 + i)

/-- The words a push's next beat writes. -/
def Rewrite.keys (r : Rewrite) (x : Queue) : List Nat :=
  (r.places x).map (fun w => entryKey r.queue x (x.push + (r.at x).1) + w)
    ++ (if r.lastBeat x then [metaKey r.queue x (x.push + (r.at x).1)] else [])

/-- The next beat of a push is written. -/
def State.writePart (s : State) (r : Rewrite) : State :=
  let x := s.queue r.queue
  let n := x.push + (r.at x).1
  let e := (r.batch[(r.at x).1]?).getD { words := [], sof := false, poison := false }
  let t := (r.places x).foldl (fun t w => (t.storeWord [] (entryKey r.queue x n + w) ((e.words[w]?).getD 0) 255).2)
    (s.keepOld (r.queue / 1024) (r.keys x))
  if r.lastBeat x then t.storeHalf (metaKey r.queue x n) (metaWord e.sof e.poison n) (metaHigh x n) else t

/-- A push whose beats are all written is published (R298, R306). -/
def State.publishPush (s : State) (r : Rewrite) : State :=
  let x := s.queue r.queue
  let t := s.queueChange r.queue (fun x => { x with room := x.room - r.batch.length })
  t.publish r.queue (((List.range r.batch.length).zip r.batch).map (fun p => metaWord p.2.sof p.2.poison (x.push + p.1)))
    (if r.bell then (List.range r.batch.length).map (fun i => (List.range x.words).map (fun w => s.word (entryKey r.queue x (x.push + i) + w)))
     else r.batch.map (fun e => e.words))

/-- The push whose beat port B of a bank carries next: one that has collided, else the controller's oldest, else replay's where it
is the oldest of its stream (R282, R286). -/
def State.nextWrite (s : State) (bank : Nat) : Option Rewrite :=
  let mine := s.mem.writes.filter (fun r => r.queue / 1024 == bank)
  match mine.find? (fun r => r.again), mine.find? (fun r => !r.replay), s.mem.writes.find? (fun r => r.replay) with
  | some r, _, _ => some r
  | none, some r, _ => some r
  | none, none, some r => if r.queue / 1024 = bank then some r else none
  | none, none, none => none

/-- Port B of a bank carries the next beat of the controller's pushes, or of replay's, where it is free: written, or discarded when
it collides and then written again (R280, R284, R286). -/
def State.drainWrites (s : State) (bank : Nat) : State :=
  match s.nextWrite bank with
  | some r =>
    let x := s.queue r.queue
    let t := s.usePortB bank 1
    if s.portBFree bank = false then s
    else match s.collides (r.keys x) with
      | some k => (t.collision k (if r.replay then 2 else 1)).modMem (fun m => { m with writes := m.writes.replace r { r with again := true } })
      | none =>
        if r.done + 1 < r.beats x then
          (t.writePart r).modMem (fun m => { m with writes := m.writes.replace r { r with again := false, done := r.done + 1 } })
        else ((t.writePart r).modMem (fun m => { m with writes := m.writes.erase r })).publishPush r
  | none => s

/-- The queue controller accepts a push for which the ring has room: its beats follow those it has accepted before it (R302,
R312). -/
def State.acceptPush (s : State) (r : Rewrite) : State :=
  (s.modMem (fun m => { m with writes := m.writes ++ [r] })).drainWrites (r.queue / 1024)

/-- A batch of entries for which the ring has room is pushed, to be published together. -/
def State.pushBatch (s : State) (q : Nat) (batch : List QEntry) (replay : Bool) : State :=
  if batch.isEmpty then s
  else (s.queueChange q (fun x => { x with room := x.room + batch.length })).acceptPush
    { queue := q, batch := batch, replay := replay, bell := false, done := 0, again := false, since := s.tl.fc }

/-! ## The queues of a controller (R299, R300) -/

/-- The allocated queues of a controller. -/
def State.ctlQueues (s : State) (c : Nat) : List (Nat × Queue) := s.qs.filter (fun e => e.2.en && e.1 / 1024 == c)

/-- QCc_STAT follows the allocations. -/
def State.countAlloc (s : State) (c : Nat) : State := s.setF (F.QC_STAT_ALLOC c) (s.ctlQueues c).length

/-- A queue is unallocated from now on: its entries are abandoned (R300). -/
def State.freed (s : State) (q : Nat) : State :=
  let x := s.queue q
  (s.setQueue q { x with en := false, push := 0, pop := 0, count := 0, room := 0, lent := 0, fresh := (0, 0), ending := false, bells := [], was := none
                         hist := (s.tl.fc, true, false) :: x.hist.take 19
                         gone := ((s.tl.fc, x.cfg, false) :: x.gone).take 8 }).modMem
    (fun m => { m with writes := m.writes.filter (fun r => r.queue != q) })

/-- The queues that FREE has named end with their register-bus cycle (R300, R313). -/
def State.freesFc (s : State) : State :=
  s.qs.foldl (fun t e => if e.2.ending then (t.freed e.1).countAlloc (e.1 / 1024) else t) s

/-! ## Who may push and pop (R304) -/

/-- A queue controller event of the queue's controller. -/
def qcEv (q off : Nat) : Nat := 256 + 8 * (q / 1024) + off

/-- Pushes into a recorded controller are refused while a replay runs (R563). -/
def State.replayShut (s : State) (q : Nat) : Bool :=
  decide (2 ≤ s.f F.RPL_STAT_MODE) && nbits (s.f F.RPL_CAPQC_QC) (q / 1024) 1 == 1

/-- A party may push. -/
def State.mayPush (s : State) (q party : Nat) : Bool :=
  (s.queue q).en && (s.queue q).prod == party && !s.replayShut q

/-- A party may pop. -/
def State.mayPop (s : State) (q party : Nat) : Bool := (s.queue q).en && (s.queue q).cons == party

/-- A refused push or pop (R304). -/
def State.qcPerm (s : State) (q : Nat) : State := s.raise (qcEv q 3) [q]

/-! ## Pop and poison (R312 to R316) -/

/-- What a pop delivers. -/
structure Popped where
  words : List (BitVec 64)
  mword : Nat            -- metadata word as delivered
  poison : Bool
  sof : Bool
  deriving DecidableEq, Repr

/-- QCc_PLAST (Table 11-10). -/
def State.poisonReport (s : State) (q reason seq : Nat) : State :=
  let c := q / 1024
  s.report (Rg.QC_PLAST c)
    [(F.QC_PLAST_VALID c, 1), (F.QC_PLAST_REASON c, reason), (F.QC_PLAST_QUEUE c, q % 1024), (F.QC_PLAST_SEQ c, seq)]

/-- The metadata half-word of an entry as a read finds it: the word, what its code found, the state after. -/
def State.readMeta (s : State) (errs : List (Nat × Flaw)) (q n : Nat) : Nat × Ecc × State :=
  let x := s.queue q
  let r := s.readB errs (metaKey q x n)
  (nbits r.2.1.toNat (if metaHigh x n then 32 else 0) 32, r.1, r.2.2)

/-- Remove `n` entries from the head. -/
def State.dropHead (s : State) (q n : Nat) : State :=
  s.queueChange q (fun x => { x with
    pop := (x.pop + n) % 65536, count := x.count - n, headAt := if n = 0 then x.headAt else s.tl.fc })

/-- Read the first entry no pop has taken through its codes, and poison it where a word or its metadata calls for it (R315). -/
def State.readHead (s : State) (errs : List (Nat × Flaw)) (q : Nat) : Popped × State :=
  let x := s.queue q
  let seq := (x.pop + x.lent) % 65536
  let r : List (BitVec 64) × Bool × State := (List.range x.words).foldl (fun a w =>
    let r := a.2.2.readB errs (entryKey q x seq + w)
    (a.1 ++ [r.2.1], a.2.1 || r.1 == .uncorr, r.2.2)) ([], false, s.usePortB (q / 1024) x.beats)
  let m := r.2.2.readMeta errs q seq
  let badMeta : Bool := m.2.1 == .uncorr || m.1 % 65536 != seq
  let sof : Bool := badMeta || nbits m.1 17 1 == 1
  let poison : Bool := badMeta || r.2.1 || nbits m.1 16 1 == 1
  let w := metaWord sof poison seq
  ({ words := r.1, mword := w, poison := poison, sof := sof },
    if badMeta ∨ r.2.1 = true then
      let u := ((m.2.2.storeHalf (metaKey q x seq) w (metaHigh x seq)).poisonReport q (if r.2.1 then 0 else 1) seq).raise (qcEv q 2)
        [q, seq, if r.2.1 then 0 else 1]
      if badMeta then u.raise (qcEv q 5) [q, seq] else u
    else m.2.2)

/-- A pop whose consumer takes the entry at once. -/
def State.popEntry (s : State) (errs : List (Nat × Flaw)) (q : Nat) : Popped × State :=
  let r := s.readHead errs q
  (r.1, r.2.dropHead q 1)

/-- A pop whose response is on its way: the entry is lent until the response is delivered (R312). -/
def State.lendEntry (s : State) (errs : List (Nat × Flaw)) (q : Nat) : Popped × State :=
  let r := s.readHead errs q
  (r.1, r.2.queueChange q (fun x => { x with lent := x.lent + 1 }))

/-- The response of a pop is delivered, and the entry released; or it has ended in RESET_ABORT or TIMEOUT, and the entry is back at
the head (R312, R537). -/
def State.settlePop (s : State) (q : Nat) (delivered : Bool) : State :=
  if (s.queue q).lent = 0 then s
  else
    let t := s.queueChange q (fun x => { x with lent := x.lent - 1 })
    if delivered then t.dropHead q 1 else t

/-- The entries of the head record: the head and each later published entry up to the next with SOF (R301, R317). An
entry whose metadata word is uncorrectable or out of sequence counts as SOF. -/
def State.recordLen (s : State) (errs : List (Nat × Flaw)) (q : Nat) : Nat :=
  let x := s.queue q
  1 + (((List.range x.count).drop 1).takeWhile (fun i =>
    let m := s.readMeta errs q ((x.pop + i) % 65536)
    m.2.1 != .uncorr && m.1 % 65536 == (x.pop + i) % 65536 && nbits m.1 17 1 == 0)).length

end Sys2Proof.Machine
end

