-- ==== Sys2Proof/Machine/Ports.lean ====
section
/-!
DEFINITION. Sys2Proof/Machine/Ports.lean: vertical ports: what a port accepts, where its requests go, fences on their path,
and the responses (R276 to R282, R360 to R366).
-/
namespace Sys2Proof.Machine
open Sys2Proof

/-! ## Ports -/

/-- Number of a port in the part. -/
def portKey (layer : Fin 4) (port : Fin 32) : Nat := 32 * layer.val + port.val

/-- Layer of a port's number. -/
def portLayer (key : Nat) : Nat := key / 32

/-- Die of a logic layer (Table 13-5). -/
def layerDie (layer : Nat) : Nat := 2 * layer + 2

/-- A port with nothing under way. -/
def port0 : PortQ := { reqs := [], win := 0, toMem := 0, fromMem := 0, resp := 0 }

def State.port (s : State) (key : Nat) : PortQ := mget port0 s.mem.ports key

def State.setPort (s : State) (key : Nat) (p : PortQ) : State := s.modMem (fun m => { m with ports := mput port0 m.ports key p })

/-- The port as the present window of four fc finds it (R276). -/
def State.portNow (s : State) (key : Nat) : PortQ :=
  let w := s.tl.fc - s.sched % 4 + 1
  let p := s.port key
  if p.win = w then p else { p with win := w, toMem := 0, fromMem := 0, resp := 0 }

/-- Kind-6 frames attach the port (R376). -/
def State.portAttached (s : State) (layer : Fin 4) (port : Fin 32) : Bool :=
  (mget 0 s.fab.io (512 * layer.val + 8 * port.val)).getLsbD 0

/-- The air-time family runs on its fallback: MEM and FAB cycles pass one for one, and the latencies of Table 10-3 do not hold
(R229, R413). -/
def State.slow (s : State) : Bool := s.b F.TL_STATUS_DEGRADED

/-- Beats a direction of a port moves in a window of four fc (R276, R413). -/
def State.windowBeats (s : State) : Nat := if s.slow then 4 else 5

/-- A latency of Table 10-3; on the fallback none holds, and a response comes at any time after its request is performed (R413). -/
def State.lat (s : State) (n : Nat) : Nat := if s.slow then 0 else n

/-- A port accepts a request of so many beats each way in the present fc: attached, its die up, the family running, fewer than
64 outstanding, within five beats a window (R276, R360, R376). -/
def State.portTakes (s : State) (layer : Fin 4) (port : Fin 32) (toMem fromMem : Nat) : Bool :=
  let p := s.portNow (portKey layer port)
  s.tl.running && s.portAttached layer port && s.dieUp (layerDie layer.val) && decide (p.reqs.length < 64)
    && decide (p.toMem + toMem ≤ s.windowBeats) && decide (p.fromMem + fromMem ≤ s.windowBeats)

/-! ## MEM cycles (R34, R282, R607): a MEM cycle is numbered 5 x fc + its place 0 to 4 in its window of four fc -/

/-- The first MEM cycle that begins in an fc at a place in its window. -/
def firstCyc (phase : Nat) : Nat := if phase = 0 then 0 else phase + 1

/-- Place in the window of the fc in which a MEM cycle begins. -/
def cycPhase (c : Nat) : Nat := if c = 0 then 0 else c - 1

/-- The next MEM cycle. -/
def nextCyc (id : Nat) : Nat := if id % 5 = 0 ∨ id % 5 = 4 then id + 1 else id + 6

/-- Four times the count of MEM cycles before a MEM cycle, from any origin. -/
def cycCount4 (id : Nat) : Nat := (id / 5 - cycPhase (id % 5)) * 5 + 4 * (id % 5)

/-- The first MEM cycle of the fc `k` fc on. -/
def State.cycAfter (s : State) (k : Nat) : Nat := 5 * (s.tl.fc + k) + firstCyc ((s.sched + k) % 4)

/-! ## Where a request goes (R273, R278, R281) -/

/-- First byte of DRAM space. -/
def dramBase : Nat := 0x8000000000

/-- Bank of a bank-space address. -/
def bankOf (addr : Nat) : Option Nat := if addr < 2 ^ 28 then some (addr / 2 ^ 23) else none

/-- An address lies in DRAM space. -/
def inDram (addr : Nat) : Bool := decide (dramBase ≤ addr ∧ addr < 0xA000000000)

/-- Owner in force of a bank (R283). -/
def State.owner (s : State) (n : Nat) : Nat := s.f (F.MEM_BANK_STAT_CUROWNER n)

/-- The owner an OWNER value stands for (Table 10-6). -/
def ownerOf (v : Nat) : Nat := if v ≤ 4 then v else 7

/-- Where settings load or the memory layer is reset, every bank is its OWNER's from the start (R283, R293, log 129). -/
def State.takeOwners (s : State) : State :=
  (List.range 32).foldl (fun t n => (t.setF (F.MEM_BANK_STAT_OWNPEND n) 0).setF (F.MEM_BANK_STAT_CUROWNER n)
    (ownerOf (t.f (F.MEM_BANK_CFG_OWNER n)))) s

/-- Why the memory layer refuses an address for a master: MEM_DENLAST.REASON (R278, R281). -/
def State.denied (s : State) (addr master : Nat) : Option Nat :=
  match bankOf addr with
  | some n => if s.owner n = master then none else some 0
  | none => if inDram addr then (if s.dramGone (addr - dramBase) then some 1 else none) else some 2

/-- The bank or slice of an address and its word there; a reserved address has neither, and its place in the space stands for
them. -/
def placeOf (addr : Nat) : Nat × Nat :=
  match bankOf addr with
  | some n => (n, addr % 2 ^ 23 / 8)
  | none => if inDram addr then (32 + sliceOf (addr - dramBase), (addr - dramBase) / 8) else (48, addr / 8)

/-- A refused request: MEM_DENLAST, which keeps the lowest of a MEM cycle, and MEM_DENIED (R278, R293, R294). -/
def State.denyReport (s : State) (cycle master port addr reason : Nat) : State :=
  (s.reportIn Rg.MEM_DENLAST cycle (64 * master + port)
    [(F.MEM_DENLAST_MASTER, master), (F.MEM_DENLAST_PORT, port), (F.MEM_DENLAST_ADDR, addr / 2 ^ 20),
     (F.MEM_DENLAST_REASON, reason), (F.MEM_DENLAST_VALID, 1)]).raise Ev.MEM_DENIED
    [(placeOf addr).1, master, port, (placeOf addr).2, reason]

/-- Latency of a bank access of a layer (Table 10-3). -/
def bankLat (layer : Nat) : Nat := 10 + 4 * layer

/-- Latency of a cache hit of a layer (Table 10-3); that of a queue request is the same (R305). -/
def hitLat (layer : Nat) : Nat := 16 + 4 * layer

/-- Data of a response that returns none. -/
def Req.zeros (r : Req) : List (BitVec 64) := if r.write then r.data else List.replicate (8 * r.beats) 0

/-- An owner change in progress holds a request at its port (R283). -/
def State.ownerHolds (s : State) (addr : Nat) : Bool :=
  match bankOf addr with
  | some n => s.b (F.MEM_BANK_STAT_OWNPEND n)
  | none => false

/-- The memory layer judges a request that no fence stops: refused, or due for its first MEM cycle; one to a bank that changes its
owner is held at its port, to be judged under the new one (R283). -/
def State.judge (s : State) (key : Nat) (r : Req) : Req × State :=
  let layer := portLayer key
  if r.q.isSome then (r, s)
  else if s.ownerHolds r.addr then ({ r with own := true }, s)
  else match s.denied r.addr layer with
    | some reason => ({ r with data := r.zeros, status := .denied,
                               due := some (r.acc + s.lat (if (bankOf r.addr).isSome then bankLat layer else hitLat layer)) },
                      s.denyReport (r.base + 1) layer (key % 32) r.addr reason)
    | none => (r, s)

/-! ## Fences (R360 to R366) -/

/-- A die stops requests: a fence, or a die held in reset or dark. -/
def State.closed (s : State) (die : Nat) : Bool := !s.dieUp die

/-- The fenced die a request of a layer meets first on its way down (R365). -/
def State.stopDie (s : State) (layer : Nat) : Option Nat :=
  ((List.range (layerDie layer)).reverse).find? (fun f => s.closed f)

/-- Dies strictly between a fenced die and the requester's (R362). -/
def between (layer f : Nat) : Nat := layerDie layer - f - 1

/-- The fc in which a request reaches a die's upper boundary (R26, R362). -/
def arrival (r : Req) (layer f : Nat) : Nat := r.acc + between layer f + 1

/-- Fc in which an access of a sequencer's port has sent its request; of a load, its next unit's (R203, R208). -/
def PortOp.sent : PortOp → Nat
  | .push _ _ issue _ => issue
  | .pop _ _ issue _ => issue
  | .hcoef _ _ _ _ _ written issue _ => issue + written

/-- A die is draining, and the request of a sequencer's access passed its upper boundary before the fence started: it completes
in the drain (R361). -/
def State.opPassed (s : State) (k : Fin 4) (op : PortOp) (die : Nat) : Bool :=
  s.phase die == 1 && nbits s.pwr.dark die 1 == 0 && decide (op.sent + (layerDie k.val - die) < mget 0 s.mem.fenceAt die)

/-- VL_ABORT count of a layer. -/
def abortCnt (layer : Nat) : Fld :=
  if layer = 0 then F.VL_ABORT_L1 else if layer = 1 then F.VL_ABORT_L2 else if layer = 2 then F.VL_ABORT_L3 else F.VL_ABORT_L4

/-- A RESET_ABORT for a layer: counted and raised (R363). -/
def State.abortCount (s : State) (layer f : Nat) : State := (s.incF (abortCnt layer)).raise Ev.VL_ABORT [f + 1, f, layer]

/-- A request is answered RESET_ABORT at a die in fc `a` (R362). -/
def Req.abort (r : Req) (layer f a : Nat) : Req :=
  { r with data := r.zeros, status := .resetAbort, held := none, due := some (a + between layer f + 1) }

/-- What a fence does to one request of a port that is held at it: a request that arrives in RESET or RESTART is answered in
its arrival fc, one that waited through DRAIN in the fc after drain end; once the die is OPEN again a request still on its
way passes (R362). -/
def State.heldFc (s : State) (key : Nat) (r : Req) : Req × State :=
  let layer := portLayer key
  match r.due, r.held with
  | none, some f =>
    if s.closed f = false then s.judge key { r with held := none }
    else if s.phase f ≠ 1 ∧ arrival r layer f ≤ s.tl.fc then (r.abort layer f s.tl.fc, s.abortCount layer f)
    else (r, s)
  | _, _ => (r, s)

/-- Apply a change to every request of a port, in order, the state threaded through. -/
def State.eachReq (s : State) (key : Nat) (h : State → Req → Req × State) : State :=
  let r : List Req × State := (s.port key).reqs.foldl (fun a r => let x := h a.2 r; (a.1 ++ [x.1], x.2)) ([], s)
  r.2.setPort key { (r.2.port key) with reqs := r.1 }

/-- Bound of a vertical transfer in fc (R536). -/
def vtBound : Nat := 3933

/-- The timer of a port's oldest request runs in every fc while nothing has performed the request and no fence holds it (R536). -/
def PortQ.runTimer (p : PortQ) : PortQ :=
  match p.reqs with
  | r :: rest => if r.due.isNone ∧ r.held.isNone then { p with reqs := { r with timer := r.timer + 1 } :: rest } else p
  | [] => p

/-- The oldest request of a port, where its timer has reached its bound (R536). -/
def PortQ.late? (p : PortQ) : Option Req :=
  match p.reqs with
  | r :: _ => if r.due.isNone ∧ r.held.isNone ∧ vtBound ≤ r.timer then some r else none
  | [] => none

/-- What every fc does for the requests of a port: those that fences hold, and the timer of the oldest. -/
def State.portFcStep (s : State) (key : Nat) (p : PortQ) : State :=
  let t := if p.reqs.any (fun r => r.held.isSome) then s.eachReq key (fun u r => u.heldFc key r) else s
  t.setPort key (t.port key).runTimer

/-- What every fc does for the requests of the ports. -/
def State.portsFc (s : State) : State := s.mem.ports.foldl (fun t e => t.portFcStep e.1 e.2) s

/-- A fence of a die starts in the present fc: DRAIN, and every request that has not reached its upper boundary is held
there (R360 to R362). -/
def State.fenceStart (s : State) (die : Nat) : State :=
  if s.phase die = 0 then
    let t := (s.setF ⟨Rg.VL_FENSTAT, 2 * die, 2⟩ 1).modMem (fun m => { m with fenceAt := mins m.fenceAt die s.tl.fc })
    (t.mem.ports.foldl (fun u e =>
      if die < layerDie (portLayer e.1) then
        u.eachReq e.1 (fun w r =>
          if r.due.isNone ∧ s.tl.fc ≤ arrival r (portLayer e.1) die
              ∧ (match r.held with | some f => decide (f < die) | none => true) = true then ({ r with held := some die }, w) else (r, w))
      else u) t).fenceReadback die |>.fenceSnapshot die |>.raise Ev.VL_FENCE_START [die + 1, die]
  else s

/-! ## Accepting (R276) -/

/-- A fresh request. -/
def State.newReq (s : State) (layer : Fin 4) (x : MemReq) (dram : Bool) : Req :=
  { write := x.write, addr := x.addr, beats := x.beats, data := if x.write then x.data else [], be := x.be, acc := s.tl.fc, timer := 0,
    base := s.cycAfter (2 * layer.val + (if dram then 7 else 4)), done := 0, bad := 0, err := false, late := 0,
    held := s.stopDie layer.val, fill := false, filled := false, own := false, due := none, status := .ok, q := none, qres := 0, qmeta := 0 }

/-- Put an accepted request at the end of its port, its beats counted in the window. -/
def State.addReq (s : State) (key : Nat) (r : Req) (toMem fromMem : Nat) : State :=
  let p := s.portNow key
  s.setPort key { p with reqs := p.reqs ++ [r], toMem := p.toMem + toMem, fromMem := p.fromMem + fromMem }

/-- VL_LNKLAST: of the reports of one fc the highest KIND, then the lowest joint and group (Table 13-7). -/
def State.linkReport (s : State) (joint kind group pos : Nat) : State :=
  s.reportLow Rg.VL_LNKLAST ((7 - kind) * 65536 + joint * 4096 + group)
    [(F.VL_LNKLAST_JOINT, joint), (F.VL_LNKLAST_KIND, kind), (F.VL_LNKLAST_GROUP, group), (F.VL_LNKLAST_POSITION, pos),
     (F.VL_LNKLAST_VALID, 1)]

/-- A failed timed group of a layer's port, 32 its sequencer port (R349, R354): its joint and index. -/
def State.failedGroup (s : State) (layer port : Nat) : Option (Nat × Nat) :=
  (s.vl.groups.find? (fun e =>
    let g := e.1 % 4096
    let base := 629 * layer + 19 * port
    e.2.failed && decide (1 ≤ e.1 / 4096 ∧ e.1 / 4096 ≤ 2 * layer + 2 ∧ base ≤ g ∧ g < base + 19))).map
    (fun e => (e.1 / 4096, e.1 % 4096))

/-- A request enters its port: a failed group aborts it at once, a fence holds it, else the memory layer judges it. -/
def State.enter (s : State) (layer : Fin 4) (port : Fin 32) (r : Req) (toMem fromMem : Nat) : State :=
  let key := portKey layer port
  match s.failedGroup layer.val port.val with
  | some g => ((s.abortCount layer.val (layerDie layer.val - 1)).linkReport g.1 6 g.2 0x7F).addReq key
      (r.abort layer.val (layerDie layer.val - 1) s.tl.fc) toMem fromMem
  | none =>
    if r.held.isSome then s.addReq key r toMem fromMem
    else let x := s.judge key r; x.2.addReq key x.1 toMem fromMem

/-- A memory request is well formed: one or two beats, aligned to its length, a write with all its words (R276). -/
def reqFormed (x : MemReq) : Bool :=
  (x.beats == 1 || x.beats == 2) && x.addr % (64 * x.beats) == 0 && decide (x.addr < 2 ^ 40)
    && (!x.write || x.data.length == 8 * x.beats)

/-! ## Performing (R282, R607) -/

/-- The request a port performs next. -/
def PortQ.head (p : PortQ) : Option Req := p.reqs.find? (fun r => r.due.isNone)

/-- Replace the request a port performs next. -/
def setHead : List Req → Req → List Req
  | [], _ => []
  | x :: xs, r => if x.due.isNone then r :: xs else x :: setHead xs r

def State.setHeadReq (s : State) (key : Nat) (r : Req) : State :=
  s.setPort key { s.port key with reqs := setHead (s.port key).reqs r }

/-- Key of the first word of the request's next beat: in a bank, or in DRAM by byte. -/
def Req.beatAddr (r : Req) : Nat := r.addr + 64 * r.done

/-- Unit that performs the request. -/
def Req.unit (r : Req) : Nat :=
  match bankOf r.addr with
  | some n => n
  | none => 32 + sliceOf (r.addr - dramBase)

/-- A port's next request is ready for a unit in a MEM cycle. -/
def State.readyFor (s : State) (u id key : Nat) : Bool :=
  match (s.port key).head with
  | some r => r.held.isNone && !r.own && !r.fill && r.q.isNone && r.unit == u && decide (r.base ≤ id)
  | none => false

/-- A request whose last beat is performed in MEM cycle `id` is answered at its latency, the waiting and the borrow added
(R279, R338). -/
def Req.finish (r : Req) (lat id : Nat) : Req :=
  { r with status := if r.err ∨ r.bad ≠ 0 then .err else .ok, due := some (r.acc + lat + (id / 5 - r.base / 5) + r.late) }

/-- After a beat: the next beat, or the answer. -/
def Req.beatDone (r : Req) (lat id : Nat) : Req :=
  let x := { r with done := r.done + 1 }
  if x.done < r.beats then { x with base := nextCyc r.base } else x.finish lat id

/-- A request takes the words of a read beat. -/
def Req.take (r : Req) (ws : List (BitVec 64)) (bad : Nat) : Req := { r with data := r.data ++ ws, bad := r.bad + bad * 2 ^ (8 * r.done) }

/-- Words of a write's next beat and their byte enables. -/
def Req.beatData (r : Req) : List (BitVec 64) := (r.data.drop (8 * r.done)).take 8
def Req.beatBe (r : Req) : Nat := r.be / 2 ^ (64 * r.done) % 2 ^ 64

/-- Words of a beat that a write reaches. -/
def wroteMask (be : Nat) : Nat := (List.range 8).foldl (fun m i => if be / 256 ^ i % 256 = 0 then m else m + 2 ^ i) 0

/-- Port A of a bank takes a beat of eight words from `w` on, of which `wrote` are written: they are kept as they stand before it
(R280, R284, R285). -/
def State.usePortA (s : State) (n w wrote : Nat) : State :=
  let old := (List.range 8).map (fun i => (s.word (w + i), s.foundAt [] (w + i)))
  s.modMem (fun m => { m with cyc := mins m.cyc n { s.cyc n with base := w, wrote := wrote, busyA := true, old := old } })

/-- A slice takes a beat (R288). -/
def State.useSlice (s : State) (u : Nat) : State := s.modMem (fun m => { m with cyc := mins m.cyc u { s.cyc u with busyA := true } })

/-- Port A of a bank performs a port's next beat in MEM cycle `id` (R275, R284, R285). -/
def State.bankBeat (s : State) (errs : List (Nat × Flaw)) (n id key : Nat) (r : Req) : State :=
  let w := r.beatAddr / 8
  let late := if r.done = 0 ∧ s.borrowed w then 8 else r.late
  let t := s.usePortA n w (if r.write then wroteMask r.beatBe else 0)
  if r.write then
    let x := t.writeBeat errs w r.beatData r.beatBe
    x.2.setHeadReq key ({ r with late := late, err := r.err || x.1 }.beatDone (s.lat (bankLat (portLayer key))) id)
  else
    let x := t.readBeat errs w
    x.2.2.setHeadReq key (({ r with late := late }.take x.1 x.2.1).beatDone (s.lat (bankLat (portLayer key))) id)

/-- A slice performs a port's next beat in a line it holds. -/
def State.lineBeat (s : State) (errs : List (Nat × Flaw)) (l lat id key : Nat) (r : Req) : State :=
  let w := lineWord l ((r.beatAddr - dramBase) % 128 / 8)
  let late := if r.done = 0 ∧ s.borrowed w then 8 else r.late
  let t := s.useLine l r.write
  if r.write then
    let x := t.writeBeat errs w r.beatData r.beatBe
    x.2.setHeadReq key ({ r with late := late, err := r.err || x.1 }.beatDone (s.lat lat) id)
  else
    let x := t.readBeat errs w
    (x.2.2.dropIfBad l x.2.1).setHeadReq key (({ r with late := late }.take x.1 x.2.1).beatDone (s.lat lat) id)

/-- A slice looks a DRAM byte up for a beat: the line that holds it, a hit or a miss counted with a request's first beat, but for
one whose line has just been filled for it (R288). -/
def State.lookUp (s : State) (errs : List (Nat × Flaw)) (u a : Nat) (count : Bool) : Option Nat × State :=
  let t := (s.useSlice u).checkTags errs a 0
  match t.hitLine a with
  | some l => (some l, if count then t.incF (F.MEM_SLICE_STAT_HITS (u - 32)) else t)
  | none => (none, t.incF (F.MEM_SLICE_STAT_MISSES (u - 32)))

/-- A request that needs the untimed base link completes with RESET_ABORT at the memory layer (R356). -/
def State.baseAbort (s : State) (key : Nat) (r : Req) : Req × State :=
  (r.abort (portLayer key) 0 s.tl.fc, s.abortCount (portLayer key) 0)

/-- A slice performs a port's next beat: a hit is served; a miss waits for its fill, which a failed base link aborts (R288,
R356). -/
def State.sliceBeat (s : State) (errs : List (Nat × Flaw)) (u id key : Nat) (r : Req) : State :=
  let x := s.lookUp errs u (r.beatAddr - dramBase) (r.done == 0 && !r.filled)
  match x.1 with
  | some l => x.2.lineBeat errs l (hitLat (portLayer key)) id key { r with filled := false }
  | none =>
    if s.baseDead then let y := x.2.baseAbort key r; y.2.setHeadReq key y.1
    else x.2.setHeadReq key { r with fill := true, filled := false }

/-- The untimed base link fails: requests that wait for a line's fill are aborted (R356). -/
def State.failBase (s : State) : State :=
  let t : State := { s with vl := { s.vl with dead := Nat.lor s.vl.dead 1 } }
  t.mem.ports.foldl (fun u e =>
    u.eachReq e.1 (fun w r => if r.fill ∧ r.due.isNone then w.baseAbort e.1 r else (r, w))) t

/-- The ports that share a unit: the owner's 32 vertical ports of a bank, every layer's of a slice (R280, R288). -/
def State.unitPorts (s : State) (u : Nat) : List Nat :=
  if u < 32 then (if s.owner u < 4 then (List.range 32).map (fun p => 32 * s.owner u + p) else [])
  else List.range 128

/-- The sequencer memory port of the owner uses its reserved cycle: an HCOEF reads this bank in this fc (R203, R208, R282). -/
def State.seqUses (s : State) (n : Nat) : Bool :=
  decide (s.owner n < 4) && (s.seqs.get (Fin.ofNat 4 (s.owner n))).ports.any (fun op => match op with
    | .hcoef _ src _ _ count written issue _ =>
      decide (written < count) && decide ((src + 64 * written) / 2 ^ 23 = n) && decide (issue < s.tl.fc)
    | _ => false)

/-- The port a unit grants in a MEM cycle: one that has waited 1,024 MEM cycles first, the oldest first; else the first at or
after the rotation pointer, which also decides between equally old ones (R282). -/
def State.grant (s : State) (u id : Nat) : Option Nat :=
  let cand := (s.unitPorts u).filter (fun k => s.readyFor u id k)
  let base (k : Nat) : Nat := match (s.port k).head with | some r => r.base | none => 0
  let ptr := mget 0 s.mem.rot u
  let before (k : Nat) : Bool := decide ((if u < 32 then k % 32 else k) < ptr)
  let turn := cand.filter (fun k => !before k) ++ cand.filter before
  match turn.filter (fun k => decide (4096 ≤ cycCount4 id - cycCount4 (base k))) with
  | k :: r => some (r.foldl (fun b k => if base k < base b then k else b) k)
  | [] => turn.head?

/-- The pointer moves to the port after the one granted. -/
def State.rotate (s : State) (u key : Nat) : State :=
  s.modMem (fun m => { m with rot := mput 0 m.rot u (if u < 32 then (key + 1) % 32 else (key + 1) % 128) })

/-- A MEM cycle of a unit begins: its ports are free, but for port B where an access takes several cycles; a clear goes on. -/
def State.openCyc (s : State) (u id : Nat) : State :=
  let owe := (s.cyc u).owe
  let t := s.clearCycle u
  t.modMem (fun m => { m with cyc := mins m.cyc u { cyc0 with id := id + 1, busyB := decide (0 < owe), owe := owe - 1 } })

/-- Port A of a bank, or a slice, serves one beat in a MEM cycle; the first cycle of a window goes to a vertical port when the
sequencer's memory port does not use it. -/
def State.serve (s : State) (u id : Nat) (errs : List (Nat × Flaw)) : State :=
  if u < 32 ∧ id % 5 = 0 ∧ s.seqUses u = true then s
  else match s.grant u id with
  | some key =>
    match (s.port key).head with
    | some r =>
      let t := s.memActs.rotate u key
      if u < 32 then t.bankBeat errs u id key r else t.sliceBeat errs u id key r
    | none => s
  | none => s

/-! ## Fabric queue requests (R304, R305, R313) -/

/-- A port's next request is a queue request that the controller of a bank performs in this MEM cycle. -/
def State.queueReady (s : State) (c id key : Nat) (push : Bool) : Bool :=
  match (s.port key).head with
  | some r => r.held.isNone && decide (r.base ≤ id) && (match r.q with
      | some x => x.queue / 1024 == c && (match x.op with | .push _ _ _ => push | .pop => !push)
      | none => false)
  | none => false

/-- The answer of a queue request. -/
def Req.answer (r : Req) (lat id : Nat) (st : PortStatus) (res : Nat) (data : List (BitVec 64)) (m : Nat) : Req :=
  { r with status := st, qres := res, data := data, qmeta := m,
           due := some (r.acc + lat + (id / 5 - r.base / 5)) }

/-- The controller performs a port's queue request (R302, R304, R305, R312, R315). -/
def State.queueOp (s : State) (errs : List (Nat × Flaw)) (id key : Nat) : State :=
  match (s.port key).head with
  | some r =>
    match r.q with
    | some x =>
      let layer := portLayer key
      let party := partyFabric layer (key % 32)
      match x.op with
      | .push ws sof poison =>
        if s.mayPush x.queue party = false then
          (s.qcPerm x.queue).setHeadReq key (r.answer (s.lat (hitLat layer)) id .denied 0 [] 0)
        else if (s.queue x.queue).full then s.setHeadReq key (r.answer (s.lat (hitLat layer)) id .ok 1 [] 0)
        else (s.pushBatch x.queue [{ words := (ws ++ List.replicate 16 0).take (s.queue x.queue).words, sof := sof, poison := poison }] false).setHeadReq
          key (r.answer (s.lat (hitLat layer)) id .ok 0 [] 0)
      | .pop =>
        if s.mayPop x.queue party = false then
          (s.qcPerm x.queue).setHeadReq key (r.answer (s.lat (hitLat layer)) id .denied 0 [] 0)
        else if s.poppable x.queue = 0 then s.setHeadReq key (r.answer (s.lat (hitLat layer)) id .ok 2 [] 0)
        else
          let p := s.lendEntry errs x.queue
          p.2.setHeadReq key (r.answer (s.lat (hitLat layer)) id .ok 0 p.1.words p.1.mword)
    | none => s
  | none => s

/-- The queue controller's fabric requests in a MEM cycle: pops, then pushes, as long as port B is free (R280, R313). -/
def State.queueCycle (s : State) (errs : List (Nat × Flaw)) (c id : Nat) : State :=
  let keys := s.mem.ports.map (fun e => e.1)
  let run (push : Bool) (t : State) (k : Nat) : State :=
    if t.portBFree c = true ∧ t.queueReady c id k push = true then t.memActs.queueOp errs id k else t
  keys.foldl (run true) (keys.foldl (run false) s)

/-- A request that returns data: a memory read, or a pop. -/
def Req.returnsData (r : Req) : Bool :=
  match r.q with
  | some x => (match x.op with | .pop => true | .push _ _ _ => false)
  | none => !r.write

/-- A port's oldest request leaves it: a pop's entry is released where its response is delivered, else it is back at the head
(R312). -/
def State.settleReq (s : State) (r : Req) (delivered : Bool) : State :=
  match r.q with
  | some x => (match x.op with
    | .pop => if r.due.isSome ∧ r.status = .ok ∧ r.qres = 0 then s.settlePop x.queue delivered else s
    | .push _ _ _ => s)
  | none => s

end Sys2Proof.Machine
end

