-- ==== Sys2Proof/Machine/Dma.lean ====
section
/-! DEFINITION. Sys2Proof/Machine/Dma.lean: the host DMA engine at work on its descriptors, entry by entry and beat by beat
(R457, R458).
-/
namespace Sys2Proof.Machine
open Sys2Proof

/-! ## Descriptors (Table 18-2) -/

/-- Descriptors of a channel's ring: SZ below 4 acts as 4, above 12 as 12 (Table 18-6, R457). -/
def State.dmaRing (s : State) (c : Nat) : Nat := 2 ^ min 12 (max 4 (s.f (F.DEV_DMA_CTL_SZ c)))

/-- A channel performs its next descriptor: enabled, not stopped, descriptors posted, the link up. -/
def State.dmaRuns (s : State) (c : Nat) : Bool :=
  s.pcieUp && s.pwr.stable && s.b (F.DEV_DMA_CTL_EN c) && !s.b (F.DEV_DMA_CTL_ERR c)
    && decide (s.f (F.DEV_DMA_HEAD_HEAD c) % s.dmaRing c ≠ s.f (F.DEV_DMA_TAIL_TAIL c) % s.dmaRing c)

/-- Statuses of word 6 (Table 18-2). -/
def dmaOk : Nat := 0
def dmaBadop : Nat := 1
def dmaDenied : Nat := 2
def dmaHosterr : Nat := 3
def dmaLimit : Nat := 4
def dmaAbort : Nat := 5

/-- A status that stops the channel with ERR. A descriptor that ends FULL or EMPTY has done what its queue let it do. -/
def dmaStops (st : Nat) : Bool := st != dmaOk && st != dmaLimit

/-- A descriptor ends: word 6 is written back, then HEAD advances; IRQ raises HDMA_DONE; a failure stops the channel (R457,
R458). -/
def State.descEnd (s : State) (c : Nat) (d : DescHead) (st moved : Nat) : State :=
  let i := s.f (F.DEV_DMA_HEAD_HEAD c)
  let w6 : Word := BitVec.ofNat 32 (2 ^ 31 + st * 2 ^ 28 + moved % 2 ^ 28)
  let t := (s.emit (.descDone c i w6)).setF (F.DEV_DMA_HEAD_HEAD c) ((i + 1) % s.dmaRing c)
  let u := if dmaStops st then (t.setF (F.DEV_DMA_CTL_ERR c) 1).raise Ev.HDMA_ERR [c, st] else t
  if d.w0.getLsbD 27 then u.raise (Ev.HDMA_DONE c) [c, st] else u

/-- Operation of a descriptor. -/
def descOp (d : DescHead) : Nat := nbits d.w0.toNat 28 4

/-- Queue of a descriptor. -/
def descQueue (d : DescHead) : Nat := nbits d.w0.toNat 0 15

/-- COUNT of a descriptor. -/
def descCount (d : DescHead) : Nat := d.w1.toNat

/-- Entry `i` of what a host read returned; a poisoned completion poisons it (R315, R458). -/
def hostEntry (r : HostRead) (esz i : Nat) (sof : Bool) : QEntry :=
  let b := (r.bytes.drop (i * esz)).take esz
  { words := (List.range (esz / 8)).map (fun w => BitVec.ofNat 64 (leNat ((b.drop (8 * w)).take 8))), sof := sof && i == 0,
    poison := r.poisoned.any (fun x => decide (i * (esz / 8) ≤ x ∧ x < (i + 1) * (esz / 8))) }

/-- Producer marks of the entries a DMA read found poisoned (Table 11-10, reason 2). -/
def State.markReport (s : State) (q : Nat) (batch : List QEntry) : State :=
  ((List.range batch.length).zip batch).foldl (fun t e =>
    if e.2.poison then t.poisonReport q 2 (((s.queue q).push + e.1) % 65536) else t) s

/-- The engine as a master of the memory layer (Table 10-6). -/
def dmaMaster : Nat := 4

/-! ## What a descriptor has to do -/

/-- Entries, or 64-byte beats, a descriptor asks for. -/
def descWant (d : DescHead) : Nat := if descOp d ≤ 2 then descCount d else descCount d / 64

/-- Of them those that can be moved: a host read that failed has brought fewer. -/
def DmaJob.have_ (j : DmaJob) (esz : Nat) : Nat :=
  if j.read.failed ∧ descOp j.desc.toDescHead % 2 = 1 then
    min (descWant j.desc.toDescHead) (j.read.bytes.length / (if descOp j.desc.toDescHead = 1 then esz else 64)) else descWant j.desc.toDescHead

/-- Memory-layer address of a job's next beat. -/
def DmaJob.addr (j : DmaJob) : Nat := j.desc.mla.toNat + 64 * j.moved

/-- MOVED of word 6: entries, or bytes. -/
def DmaJob.movedUnits (j : DmaJob) : Nat := if descOp j.desc.toDescHead ≤ 2 then j.moved else 64 * j.moved

/-- The status with which a descriptor has run through what can be moved. -/
def DmaJob.through (j : DmaJob) (n : Nat) : Nat := if n < descWant j.desc.toDescHead then dmaHosterr else dmaOk

/-- How a descriptor under way ends in the present state; none where it goes on (R458). An entry pushed is moved once it is
published. -/
def State.dmaVerdict (s : State) (c : Nat) (j : DmaJob) : Option Nat :=
  let q := descQueue j.desc.toDescHead
  let n := j.have_ (s.queue q).esz
  if s.closed 0 ∨ s.baseDead = true then some dmaAbort
  else match descOp j.desc.toDescHead with
    | 1 =>
      if s.mem.writes.any (fun r => r.queue == q) then none
      else if s.mayPush q (partyHdma c) = false then some dmaDenied
      else if n ≤ j.moved then some (j.through n)
      else if (s.queue q).full then some dmaLimit else none
    | 2 =>
      if s.mayPop q (partyHdma c) = false then some dmaDenied
      else if n ≤ j.moved then some dmaOk
      else if s.poppable q = 0 then some dmaLimit else none
    | _ =>
      if n ≤ j.moved then some (j.through n)
      else if s.ownerHolds j.addr then none
      else if (s.denied j.addr dmaMaster).isSome then some dmaDenied else none

/-- What a refusal reports (R278, R304). -/
def State.dmaRefused (s : State) (j : DmaJob) : State :=
  if descOp j.desc.toDescHead ≤ 2 then s.qcPerm (descQueue j.desc.toDescHead)
  else s.denyReport (s.cycNow (placeOf j.addr).1) dmaMaster 0 j.addr ((s.denied j.addr dmaMaster).getD 0)

/-- A descriptor under way ends. -/
def State.endJob (s : State) (c : Nat) (j : DmaJob) (st : Nat) : State :=
  ({ s with dma := mdel s.dma c } : State).descEnd c j.desc.toDescHead st j.movedUnits

/-- A descriptor under way ends where it has to. -/
def State.dmaSettle (s : State) (c : Nat) : State :=
  match mfind s.dma c with
  | some j => (match s.dmaVerdict c j with
    | some st => (if st = dmaDenied then s.dmaRefused j else s).endJob c j st
    | none => s)
  | none => s

/-- What every fc does for the descriptors under way. -/
def State.dmaFc (s : State) : State := (s.dma.map (fun e => e.1)).foldl (fun t c => if t.pcieUp then t.dmaSettle c else t) s

/-- A channel starts a descriptor. -/
def State.startJob (s : State) (c : Nat) (d : Desc) (r : HostRead) : State :=
  ({ s with dma := mins s.dma c { desc := d, read := r, moved := 0, fill := false, filled := false, since := s.tl.fc } } : State).dmaSettle c

/-- A descriptor has moved one more entry or beat. -/
def State.jobMoved (s : State) (c : Nat) (j : DmaJob) : State :=
  ({ s with dma := mins s.dma c { j with moved := j.moved + 1, fill := false, filled := false, since := s.tl.fc } } : State).dmaSettle c

/-- A descriptor of a channel goes on in the present state. -/
def State.dmaGoes (s : State) (c : Nat) (j : DmaJob) : Bool :=
  s.pcieUp && (s.dmaVerdict c j).isNone && decide (j.moved < j.have_ (s.queue (descQueue j.desc.toDescHead)).esz)

/-- Of the channels whose descriptors go on and want something the one that has waited longest, the lowest of several (R282,
R457). -/
def State.dmaTurn (s : State) (want : DmaJob → Bool) : Option (Nat × DmaJob) :=
  s.dma.foldl (fun best e =>
    if want e.2 = true ∧ s.dmaGoes e.1 e.2 = true then
      match best with
      | some b => if e.2.since < b.2.since then some e else some b
      | none => some e
    else best) none

/-! ## Queues -/

/-- The next entry of a descriptor is pushed; where its completion came poisoned it is marked (R315, Table 11-10 reason 2). -/
def State.dmaPushOne (s : State) (c : Nat) (j : DmaJob) : State :=
  let q := descQueue j.desc.toDescHead
  let e := hostEntry j.read (s.queue q).esz j.moved (j.desc.w0.getLsbD 26)
  ((s.markReport q [e]).pushBatch q [e] false).jobMoved c j

/-- The next entry is popped to host memory: its bytes and its metadata word, EP set when it is poisoned. -/
def State.dmaPopOne (s : State) (c : Nat) (j : DmaJob) (errs : List (Nat × Flaw)) : State :=
  let q := descQueue j.desc.toDescHead
  let p := s.popEntry errs q
  (p.2.emit (.hostWrite (j.desc.haddr.toNat + j.moved * ((s.queue q).esz + 4))
    (p.1.words.flatMap (fun w => leBytes 8 w.toNat) ++ leBytes 4 p.1.mword) p.1.poison)).jobMoved c j

/-- Port B of a bank serves the descriptors on its controller's queues in a MEM cycle, pops first (R313). -/
def State.dmaQueue (s : State) (errs : List (Nat × Flaw)) (bank : Nat) : State :=
  let mine (op : Nat) (j : DmaJob) : Bool := descOp j.desc.toDescHead == op && descQueue j.desc.toDescHead / 1024 == bank
  if s.portBFree bank = false then s
  else match s.dmaTurn (mine 2), s.dmaTurn (fun j => mine 1 j && !s.mem.writes.any (fun r => r.queue == descQueue j.desc.toDescHead)) with
    | some e, _ => s.dmaPopOne e.1 e.2 errs
    | none, some e => s.dmaPushOne e.1 e.2
    | none, none => s

/-! ## Beats of the memory layer -/

/-- The words of a beat of what the host read returned. -/
def DmaJob.beatWords (j : DmaJob) : List (BitVec 64) :=
  (List.range 8).map (fun w => BitVec.ofNat 64 (leNat ((j.read.bytes.drop (64 * j.moved + 8 * w)).take 8)))

/-- The engine stores its next beat at a word on, words whose completions came poisoned poisoned; or fetches it to host memory, EP
set where a word is uncorrectable (R323, R458). -/
def State.dmaMove (s : State) (c : Nat) (j : DmaJob) (errs : List (Nat × Flaw)) (w : Nat) : State :=
  if descOp j.desc.toDescHead = 3 then
    let t := (s.writeBeat errs w j.beatWords (2 ^ 64 - 1)).2
    ((List.range 8).foldl (fun u i => if j.read.poisoned.contains (8 * j.moved + i) then u.mark (w + i) .uncorr else u) t).jobMoved c j
  else
    let r := s.readBeat errs w
    (r.2.2.emit (.hostWrite (j.desc.haddr.toNat + 64 * j.moved) (r.1.flatMap (fun x => leBytes 8 x.toNat)) (r.2.1 != 0))).jobMoved c j

/-- Port A of a bank the engine owns, or a slice after its vertical ports, performs the engine's next beat there (R280, R288). -/
def State.dmaBeat (s : State) (errs : List (Nat × Flaw)) (u : Nat) : State :=
  if (s.cyc u).busyA then s
  else match s.dmaTurn (fun j => decide (2 < descOp j.desc.toDescHead) && (placeOf j.addr).1 == u && !j.fill) with
    | some (c, j) =>
      if u < 32 then (s.usePortA u (j.addr / 8) (if descOp j.desc.toDescHead = 3 then 0xFF else 0)).dmaMove c j errs (j.addr / 8)
      else
        let x := s.lookUp errs u (j.addr - dramBase) (!j.filled)
        (match x.1 with
         | some l =>
           let w := lineWord l ((j.addr - dramBase) % 128 / 8)
           let t := (x.2.useLine l (descOp j.desc.toDescHead == 3)).dmaMove c j errs w
           t.dropIfBad l (if (List.range 8).any (fun i => mget Ecc.clean t.mem.marks (t.home (w + i)) == .uncorr) then 1 else 0)
         | none => { x.2 with dma := mins x.2.dma c { j with fill := true } })
    | none => s

end Sys2Proof.Machine
end

