-- ==== Sys2Proof/Machine/Ctx.lean ====
section
/-!
DEFINITION. Sys2Proof/Machine/Ctx.lean: contexts, planes and regions (chapter 4), and where configuration content lies:
one key space for stored slots and resident planes, per layer, tile and context.
-/
namespace Sys2Proof.Machine
open Sys2Proof

/-! ## Where configuration content lies -/

/-- Content key of byte `off` of a tile's context: a slot of the configuration layer, or a plane of the logic layer. -/
def ckey (layer : Fin 4) (tile : Fin 64) (ctx off : Nat) : Nat := ((layer.val * 64 + tile.val) * 32 + ctx) * 2 ^ 20 + off

/-- Offsets of a tile's routing content behind the 128 bytes of each of its 4,096 tines (Tables 2-4, 3-6, 5-3). -/
def offCluster : Nat := 0x80000
def offTap : Nat := 0x82000
def offRoot : Nat := 0x84000
def offLower : Nat := 0x84400
def offUpper : Nat := 0x84504
def offHorn : Nat := 0x84C00

/-- The number that `n` little-endian bytes from `base` on spell. -/
def mnum (m : NMap Byte) (base n : Nat) : Nat :=
  (mrange m base (base + n)).foldl (fun a e => a + e.2.toNat * 256 ^ (e.1 - base)) 0

/-- Write `n` little-endian bytes of a number from `base` on. -/
def mputNum (m : NMap Byte) (base n x : Nat) : NMap Byte :=
  mpatch m base (base + n)
    ((((List.range n).zip (leBytes n x)).map (fun e => (base + e.1, e.2))).filter (fun e => e.2 != 0))

/-! ## Regions -/

def State.layer (s : State) (ly : Fin 4) : Layer := s.fab.layers.get ly

def State.setLayer (s : State) (ly : Fin 4) (l : Layer) : State :=
  { s with fab := { s.fab with layers := s.fab.layers.set ly.val l ly.isLt } }

def State.region (s : State) (ly : Fin 4) (j : Fin 8) : Region := (s.layer ly).regions.get j

def State.setRegion (s : State) (ly : Fin 4) (j : Fin 8) (r : Region) : State :=
  s.setLayer ly { s.layer ly with regions := (s.layer ly).regions.set j.val r j.isLt }

def State.modRegion (s : State) (ly : Fin 4) (j : Fin 8) (h : Region → Region) : State :=
  s.setRegion ly j (h (s.region ly j))

def State.plane (s : State) (ly : Fin 4) (j : Fin 8) (p : Fin 4) : Plane := (s.region ly j).planes.get p

def State.setPlane (s : State) (ly : Fin 4) (j : Fin 8) (p : Fin 4) (x : Plane) : State :=
  s.modRegion ly j (fun r => { r with planes := r.planes.set p.val x p.isLt })

/-- The region of a tile (R107, Table 4-8). -/
def State.tileRegion (s : State) (ly : Fin 4) (t : Fin 64) : Fin 8 :=
  Fin.ofNat 8 (nbits (s.reg (Rg.CFG_RMAP ly.val (t.val / 8))).toNat (4 * (t.val % 8)) 3)

/-- The tiles of a region. -/
def State.regionTiles (s : State) (ly : Fin 4) (j : Fin 8) : List (Fin 64) :=
  (List.finRange 64).filter (fun t => s.tileRegion ly t == j)

/-- The plane current in a tile (R85, R109). -/
def State.tilePlane (s : State) (ly : Fin 4) (t : Fin 64) : Fin 4 := (s.region ly (s.tileRegion ly t)).cur

/-- A slot is valid for a region, and may run (R110). -/
def State.slotOk (s : State) (ly : Fin 4) (j : Fin 8) (slot : Fin 32) : Bool :=
  s.b ⟨Rg.CFG_LR_SLOTV ly.val j.val, slot.val, 1⟩ && !s.b ⟨Rg.CFG_LR_SLOTU ly.val j.val, slot.val, 1⟩

/-- A region is held in the present fc (R122). -/
def State.held (s : State) (ly : Fin 4) (j : Fin 8) : Bool :=
  match (s.region ly j).heldAt with
  | some h => decide (h ≤ s.tl.fc)
  | none => false

/-- The sequencer of a layer has the same number (R152). -/
def seqOf (ly : Fin 4) : Fin 4 := ly

/-- A region whose current plane is INVALID is held from the next fc (R122). -/
def State.holdRegion (s : State) (ly : Fin 4) (j : Fin 8) : State :=
  s.modRegion ly j (fun r => { r with heldAt := some (s.tl.fc + 1) })

/-- The present fc is the first in which a region is held: REGION_HELD is raised and the ALT condition arises, behind whatever
instruction issues in it (R122, R164, R165). -/
def State.meetHold (s : State) (ly : Fin 4) (j : Fin 8) : State :=
  if (s.region ly j).heldAt = some s.tl.fc then
    (s.raise (Ev.REGION_HELD ly.val) [j.val, (s.region ly j).cur.val]).altCond (seqOf ly) 2 j.val
  else s

/-- A plane becomes INVALID; the region is held when the plane is its current one (R72, R113, R122), under global set-reset from
the fc of release (R123). -/
def State.invalidate (s : State) (ly : Fin 4) (j : Fin 8) (p : Fin 4) : State :=
  let t := s.setPlane ly j p { s.plane ly j p with st := .invalid }
  if (s.region ly j).cur = p ∧ (s.region ly j).heldAt = none ∧ s.fab.gsr = false then t.holdRegion ly j else t

/-- A slot becomes unrunnable for a region: every plane filled from it becomes INVALID in the same fc (R110, R113). A refill
that runs from it writes its remaining beats, and its plane stays INVALID (log 98). -/
def State.unrunnable (s : State) (ly : Fin 4) (j : Fin 8) (slot : Fin 32) : State :=
  (List.finRange 4).foldl (fun t p =>
      if (t.plane ly j p).slot = slot ∧ ((t.plane ly j p).st = .valid ∨ (t.plane ly j p).st = .refilling) then
        t.invalidate ly j p
      else t)
    (s.setF ⟨Rg.CFG_LR_SLOTU ly.val j.val, slot.val, 1⟩ 1)

/-- The mode word of a horn block under a plane (R137). -/
def State.hornMode (s : State) (ly : Fin 4) (t : Fin 64) (p : Fin 4) (b : Fin 32) : BitVec 64 :=
  BitVec.ofNat 64 (mnum s.fab.planes (ckey ly t p.val (offHorn + 8 * b.val)) 8)

/-- Number of a horn block in the package. -/
def hornKey (ly : Fin 4) (t : Fin 64) (b : Fin 32) : Nat := 2048 * ly.val + 32 * t.val + b.val

/-- The coefficient counters of a region's blocks reset where the mode word changes with the plane (R142). -/
def State.hornSwitch (s : State) (ly : Fin 4) (j : Fin 8) (old new : Fin 4) : State :=
  { s with fab := { s.fab with horn := s.fab.horn.map (fun e =>
      let t : Fin 64 := Fin.ofNat 64 (e.1 / 32)
      let b : Fin 32 := Fin.ofNat 32 e.1
      if e.1 / 2048 = ly.val ∧ s.tileRegion ly t = j ∧ s.hornMode ly t old b ≠ s.hornMode ly t new b then
        (e.1, { e.2 with ctr := none })
      else e) } }

/-- The guard setting in force for a layer's pair (R428). -/
def State.guardSet (s : State) (ly : Fin 4) : Bool := nbits (s.f F.THERM_STAT_GUARD) ly.val 1 == 1

/-- A plane becomes current in the present fc (R117 to R120): the switch is counted, a hold ends, the first fc is a guard
fc where the pair's setting calls for one. A target that became INVALID in the fc of its SWITCH is current all the same, and the
region is held from the fc after this one (log 99). -/
def State.makeCurrent (s : State) (ly : Fin 4) (j : Fin 8) (q : Fin 4) : State :=
  let old := (s.region ly j).cur
  let t := ((s.modRegion ly j (fun r =>
      { r with cur := q, nextCur := none, pendSw := none, heldAt := none, curAt := s.tl.fc + 1,
               guardAt := if s.guardSet ly then some s.tl.fc else r.guardAt })).hornSwitch ly j old q).incF
    (F.CFG_LR_CNT_SWITCHES ly.val j.val)
  if (t.plane ly j q).st = .valid then t else t.holdRegion ly j

/-! ## Refill (R114, R116) -/

/-- Beat of a tine's, routing or horn content that an offset lies in: eight beats of 16 bytes (R40, R85, R106). -/
def beatOf (off : Nat) : Nat := off / 16 % 8

/-- Parity group of a byte (R67): its content key / 8. -/
def groupOf (key : Nat) : Nat := key / 8

/-- The fc of a refill's beat `i`: the refill issued in fc n brings it in fc n + 1 + i (Table 4-2). -/
def Plane.beat (x : Plane) (fc : Nat) : Option Nat :=
  if x.run ∧ x.refillAt + 1 ≤ fc ∧ fc ≤ x.refillAt + 8 then some (fc - x.refillAt - 1) else none

/-- A beat of a slot comes into a plane, for every tile of a region; the parity of what it writes is right again (R67). -/
def State.copyBeat (s : State) (ly : Fin 4) (j : Fin 8) (slot : Fin 32) (p : Fin 4) (i : Nat) : State :=
  let tiles := s.regionTiles ly j
  { s with fab := { s.fab with
      planes := tiles.foldl (fun m t =>
        let src := ckey ly t slot.val 0
        let dst := ckey ly t p.val 0
        ((mrange s.fab.slots src (src + 2 ^ 20)).filter (fun e => beatOf (e.1 - src) == i)).foldl
          (fun m e => mins m (e.1 - src + dst) e.2)
          (m.filter (fun e => !(decide (dst ≤ e.1 ∧ e.1 < dst + 2 ^ 20) && beatOf (e.1 - dst) == i)))) s.fab.planes
      oddPar := s.fab.oddPar.filter (fun e => !tiles.any (fun t =>
        decide (ckey ly t p.val 0 ≤ 8 * e.1 ∧ 8 * e.1 < ckey ly t p.val 0 + 2 ^ 20) && beatOf (8 * e.1) == i)) } }

/-- A whole refill at once, as replay restores a plane (R563): all eight beats. -/
def State.copySlot (s : State) (ly : Fin 4) (j : Fin 8) (slot : Fin 32) (p : Fin 4) : State :=
  (List.range 8).foldl (fun t i => t.copyBeat ly j slot p i) s

/-- The beats of the present fc of every plane of a region (R114). -/
def State.refillBeats (s : State) (ly : Fin 4) (j : Fin 8) : State :=
  (List.finRange 4).foldl (fun t p => match (t.plane ly j p).beat t.tl.fc with
    | some i => t.copyBeat ly j (t.plane ly j p).slot p i
    | none => t) s

/-- A parity group, by content key / 8, lies in a plane of a region. -/
def State.groupIn (s : State) (ly : Fin 4) (j : Fin 8) (p : Fin 4) (g : Nat) : Bool :=
  (s.regionTiles ly j).any (fun t => decide (ckey ly t p.val 0 ≤ 8 * g ∧ 8 * g < ckey ly t p.val 0 + 2 ^ 20))

/-- Repairs pending in a plane of a region are cancelled; one that has read its 64 bits still completes (R70). -/
def State.cancelRepairs (s : State) (ly : Fin 4) (j : Fin 8) (p : Fin 4) : State :=
  { s with fab := { s.fab with upsets := s.fab.upsets.filter (fun e => e.2.read.isSome || !s.groupIn ly j p e.1) } }

/-- A refill of a plane from a slot that a PREFETCH, or a commit or restart, in fc `at_` calls for begins (R114); a slot that has
become unrunnable by then leaves the plane INVALID (R113). -/
def State.startRefill (s : State) (ly : Fin 4) (j : Fin 8) (p : Fin 4) (slot : Fin 32) (at_ : Nat) : State :=
  (s.setPlane ly j p { st := if s.slotOk ly j slot then .refilling else .invalid, slot := slot, refillAt := at_, bad := false,
                       run := true }).cancelRepairs ly j p

/-- A PREFETCH is accepted in the present fc: its refill begins in the next one (Table 4-2). -/
def State.askRefill (s : State) (ly : Fin 4) (j : Fin 8) (p : Fin 4) (slot : Fin 32) : State :=
  s.setPlane ly j p { s.plane ly j p with ask := some slot }

/-- The refills asked for in the last fc begin. -/
def State.refillsBegin (s : State) (ly : Fin 4) (j : Fin 8) : State :=
  (List.finRange 4).foldl (fun t p => match (t.plane ly j p).ask with
    | some slot => t.startRefill ly j p slot (t.tl.fc - 1)
    | none => t) s

/-! ## Parity of a plane (R67 to R72) -/

/-- Parity of a plane is armed: it holds a complete fill, also where that was taken from a slot that has become unrunnable. -/
def Plane.armed (x : Plane) : Bool := x.st == .valid || (x.st == .invalid && x.filled && !x.bad && !x.run)

/-- A group of an armed plane has a mismatch: its upset is detected in the present fc, once. -/
def State.detect (s : State) (g : Nat) (act : Bool) : State :=
  if (mfind s.fab.upsets g).isSome then s
  else { s with fab := { s.fab with upsets := mins s.fab.upsets g { since := s.tl.fc, act := act, read := none } } }

/-- The parity of a plane is armed with its last beat: a group that no longer agrees with its parity bit is an upset. -/
def State.armPlane (s : State) (ly : Fin 4) (j : Fin 8) (p : Fin 4) : State :=
  (s.fab.oddPar.filter (fun e => s.groupIn ly j p e.1)).foldl (fun t e => t.detect e.1 ((s.region ly j).cur == p)) s

/-! ## The stored-slot ports (R124, R326) -/

/-- Number of a tile in the package. -/
def tileNo (ly : Fin 4) (t : Fin 64) : Nat := 64 * ly.val + t.val

/-- The port a stored word, by content key / 16, is read through: one for each tine's 128 bytes in its 32 slots, and one for each
128 bytes of a tile's routing and horn content (R114, R124). -/
def wordPort (word : Nat) : Nat := 8192 * (word / 2 ^ 21) + word % 2 ^ 16 / 8

/-- A refill claims the ports of a tile in the present fc: it reads a beat. -/
def State.refillClaims (s : State) (ly : Fin 4) (t : Fin 64) : Bool :=
  (List.finRange 4).any (fun p => ((s.plane ly (s.tileRegion ly t) p).beat s.tl.fc).isSome)

/-- A port has served another request in the present fc. -/
def State.portUsed (s : State) (word : Nat) : Bool := s.fab.portUse.contains (wordPort word)

/-- The configuration stream or readback has the ports of a tile in the present fc. -/
def State.tileUsed (s : State) (ly : Fin 4) (t : Fin 64) : Bool := s.fab.tileUse.contains (tileNo ly t)

/-- A port serves a request in the present fc. -/
def State.usePort (s : State) (word : Nat) : State := { s with fab := { s.fab with portUse := wordPort word :: s.fab.portUse } }

/-- The stream or readback takes the ports of a tile in the present fc. -/
def State.useTile (s : State) (ly : Fin 4) (t : Fin 64) : State := { s with fab := { s.fab with tileUse := tileNo ly t :: s.fab.tileUse } }

/-- Tile of a stored word. -/
def wordTile (word : Nat) : Fin 64 := Fin.ofNat 64 (word * 16 / 2 ^ 25)

/-- Slot of a stored word. -/
def wordSlot (word : Nat) : Fin 32 := Fin.ofNat 32 (word * 16 / 2 ^ 20)

/-- Layer of a content key. -/
def keyLayer (word : Nat) : Fin 4 := Fin.ofNat 4 (word * 16 / 2 ^ 31)

/-- A write-back waits for a port: it ranks below refill and above the stream, readback and browse (R326). -/
def State.wbWaits (s : State) (word : Nat) : Bool := s.fab.slotWb.any (fun w => wordPort w == wordPort word)

/-- A write-back waits for a port of a tile. -/
def State.tileWaits (s : State) (ly : Fin 4) (t : Fin 64) : Bool :=
  s.fab.slotWb.any (fun w => decide (keyLayer w = ly ∧ wordTile w = t))

/-- The stream, or readback, may take the ports of a tile in the present fc. -/
def State.tileFree (s : State) (ly : Fin 4) (t : Fin 64) : Bool := !s.refillClaims ly t && !s.tileUsed ly t && !s.tileWaits ly t

/-- Browse may take a port in the present fc: no one else asks for it. -/
def State.browseFree (s : State) (word : Nat) : Bool :=
  !s.refillClaims (keyLayer word) (wordTile word) && !s.tileUsed (keyLayer word) (wordTile word) && !s.wbWaits word && !s.portUsed word

/-! ## Reads of stored-slot words through their code (R326 to R329, R334) -/

/-- Key of the 128-bit word that holds a byte of a stored slot. -/
def wordKey (key : Nat) : Nat := key / 16

/-- ECC_CFGLLAST for a stored word: layer, slot, place, outcome (Table 12-9). -/
def State.cfglReport (s : State) (word : Nat) (uncorr browse : Bool) : State :=
  let off := word * 16 % 2 ^ 20
  let ctx := word * 16 / 2 ^ 20
  let slot := ctx % 32
  let tile := ctx / 32 % 64
  let layer := ctx / 2048
  let route := decide (0x80000 ≤ off)
  s.report Rg.ECC_CFGLLAST
    [(F.ECC_CFGLLAST_LAYER, layer), (F.ECC_CFGLLAST_SLOT, slot),
     (F.ECC_CFGLLAST_ADDR, if route then tile * 4096 + (off - 0x80000) / 16 else tile * 4096 + off / 128),
     (F.ECC_CFGLLAST_BEAT, if route then 0 else off % 128 / 16),
     (F.ECC_CFGLLAST_ROUTE, if route then 1 else 0), (F.ECC_CFGLLAST_UNCORR, if uncorr then 1 else 0),
     (F.ECC_CFGLLAST_BROWSE, if browse then 1 else 0), (F.ECC_CFGLLAST_VALID, 1)]

/-- Stored words whose data bits turn out wrong: what a read delivers of them, and what is stored, differs in those bits (R322). -/
def State.slotWrong (s : State) (words : List (Nat × Flaw)) : State :=
  let put (m : NMap Byte) (e : Nat × Flaw) : NMap Byte :=
    if e.2.wrong % 2 ^ 128 = 0 then m else mputNum m (16 * e.1) 16 (Nat.xor (mnum m (16 * e.1) 16) (e.2.wrong % 2 ^ 128))
  { s with fab := { s.fab with slots := words.foldl put s.fab.slots } }

/-- What the codes of a list of words say. -/
def codes (l : List (Nat × Flaw)) : List (Nat × Ecc) := l.map (fun e => (e.1, e.2.ecc))

/-- A corrected stored word is to be written back, where its layer's action is WRITEBACK (R324, R326). -/
def State.slotAsk (s : State) (word : Nat) : State :=
  if nbits (s.f F.ECC_MODE_CFGL) (keyLayer word).val 1 = 0 ∧ s.fab.slotWb.contains word = false then
    { s with fab := { s.fab with slotWb := s.fab.slotWb ++ [word] } }
  else s

/-- A refill, a repair or browse reads a stored word and finds `found` beside its mark. A correctable word is counted
and reported; it stays marked until it is written back, unless `wb` writes it back at once. An uncorrectable word is
counted and reported. Answers what was found. -/
def State.readSlotWord (s : State) (word : Nat) (found : Ecc) (browse wb : Bool) : Ecc × State :=
  let mark := eccWorse found (mget Ecc.clean s.fab.slotErr word)
  let ly := (keyLayer word).val
  match mark with
  | .clean => (.clean, s)
  | .corr =>
    let t := { s with fab := { s.fab with slotErr := mput Ecc.clean s.fab.slotErr word (if wb then .clean else .corr) } }
    let u := ((t.incF (F.ECC_CFGL_CNT_CORR ly)).cfglReport word false browse).raise Ev.CFGL_CORR [ly, word % 2 ^ 32]
    (.corr, if wb then { u with fab := { u.fab with slotWb := u.fab.slotWb.filter (· != word) } } else u.slotAsk word)
  | .uncorr =>
    let t := { s with fab := { s.fab with slotErr := mput Ecc.clean s.fab.slotErr word .uncorr } }
    (.uncorr, (t.incF (F.ECC_CFGL_CNT_UNCORR ly)).cfglReport word true browse)

/-- Read a list of stored words; answers whether one is uncorrectable. -/
def State.readSlotWords (s : State) (words : List (Nat × Ecc)) (browse wb : Bool) : Bool × State :=
  words.foldl (fun a e =>
    let r := a.2.readSlotWord e.1 e.2 browse wb
    (a.1 || r.1 == .uncorr, r.2)) (false, s)

/-- The stored words of a slot of a region that bear a mark, joined with those a read finds now. -/
def State.slotWords (s : State) (ly : Fin 4) (j : Fin 8) (slot : Fin 32) (errs : List (Nat × Ecc)) : List (Nat × Ecc) :=
  let inSlot (w : Nat) : Bool := (s.regionTiles ly j).any (fun t =>
    decide (ckey ly t slot.val 0 ≤ w * 16 ∧ w * 16 < ckey ly t slot.val 0 + 2 ^ 20))
  (s.fab.slotErr.filter (fun e => inSlot e.1 && !(errs.any (fun x => x.1 == e.1)))) ++ errs.filter (fun e => inSlot e.1)

/-- The stored words of a slot of a region that a refill reads through a bond with failed lanes beyond its spares: one such lane
makes them correctable, two make them uncorrectable (R357). -/
def State.bondWords (s : State) (ly : Fin 4) (j : Fin 8) (slot : Fin 32) : List (Nat × Ecc) :=
  s.vl.bond.flatMap (fun e =>
    let t : Fin 64 := Fin.ofNat 64 (e.1 / 4096)
    if e.1 / 2 ^ 18 = ly.val ∧ s.tileRegion ly t = j then
      (List.range 8).map (fun i => ((ckey ly t slot.val (e.1 % 4096 * 128)) / 16 + i, if e.2 = 1 then Ecc.corr else Ecc.uncorr))
    else [])

/-- A refill reads the words of a bond with failed lanes: the stored cells keep the marks they had. -/
def State.readBond (s : State) (ly : Fin 4) (j : Fin 8) (slot : Fin 32) : Bool × State :=
  let r := s.readSlotWords (s.bondWords ly j slot) false false
  let bad := (s.bondWords ly j slot).any (fun e => e.2 == .uncorr)
  (r.1, (if bad then r.2.raise Ev.VL_BOND_FAILED [2 * ly.val + 2, ly.val, j.val, slot.val] else r.2 : State)
    |> fun t => { t with fab := { t.fab with slotErr := s.fab.slotErr } })

/-- The tine a stored word belongs to and the first parity group it covers; a word of routing or horn content names its tile's
first tine and group 0 (log 95). -/
def wordTine (word : Nat) : Nat × Nat :=
  let off := word * 16 % 2 ^ 20
  if off < offCluster then ((wordTile word).val * 4096 + off / 128, off % 128 / 8) else ((wordTile word).val * 4096, 0)

/-- ECC_PULAST for a refill that has read uncorrectable words: the lowest tine among them stands, as in R75 (R116, log 95). -/
def State.refillReport (s : State) (ly : Fin 4) (j : Fin 8) (p : Fin 4) (bad : List Nat) : State :=
  bad.foldl (fun t w => t.reportLow Rg.ECC_PULAST (ly.val * 2 ^ 18 + (wordTine w).1)
    [(F.ECC_PULAST_LAYER, ly.val), (F.ECC_PULAST_PLANE, p.val), (F.ECC_PULAST_GROUP, (wordTine w).2),
     (F.ECC_PULAST_TINE, (wordTine w).1), (F.ECC_PULAST_ACTIVE, if (s.region ly j).cur = p then 1 else 0),
     (F.ECC_PULAST_UNCORR, 1), (F.ECC_PULAST_VALID, 1)]) s

/-- The words of a refill that were not correctable: in the stored slot, or through the bond. -/
def State.badWords (s : State) (ly : Fin 4) (j : Fin 8) (slot : Fin 32) (errs : List (Nat × Ecc)) : List Nat :=
  ((s.slotWords ly j slot errs ++ s.bondWords ly j slot).filter (fun e =>
    eccWorse e.2 (mget Ecc.clean s.fab.slotErr e.1) == .uncorr)).map (fun e => e.1)

/-- The beats in which a stored word turned out wrong hold the data as they are stored (R116). -/
def State.copyWrong (s : State) (ly : Fin 4) (j : Fin 8) (slot : Fin 32) (p : Fin 4) (errs : List (Nat × Flaw)) : State :=
  let put (m : NMap Byte) (e : Nat × Flaw) : NMap Byte :=
    if e.2.wrong ≠ 0 ∧ wordSlot e.1 = slot ∧ keyLayer e.1 = ly ∧ s.tileRegion ly (wordTile e.1) = j then
      mputNum m (ckey ly (wordTile e.1) p.val (16 * e.1 % 2 ^ 20)) 16 (mnum s.fab.slots (16 * e.1) 16)
    else m
  { s with fab := { s.fab with planes := errs.foldl put s.fab.planes } }

/-- A refill has read its last beat (R114, R116): the plane becomes VALID with parity armed, or INVALID when a word was
uncorrectable or its slot has become unrunnable meanwhile. -/
def State.endRefill (s : State) (ly : Fin 4) (j : Fin 8) (p : Fin 4) (errs : List (Nat × Flaw)) : State :=
  let x := s.plane ly j p
  let b := (s.slotWrong (errs.filter (fun e => wordSlot e.1 == x.slot && keyLayer e.1 == ly && s.tileRegion ly (wordTile e.1) == j))
    ).readBond ly j x.slot
  let r := b.2.readSlotWords (s.slotWords ly j x.slot (codes errs)) false false
  let t := r.2.copyWrong ly j x.slot p errs
  if b.1 || r.1 then
    ((t.setPlane ly j p { x with st := .invalid, bad := true, run := false }).refillReport ly j p
      (s.badWords ly j x.slot (codes errs))).raise (Ev.PLANE_UNCORR ly.val) [j.val, p.val, x.slot.val]
  else (t.setPlane ly j p { x with st := if x.st = .invalid then .invalid else .valid, bad := false, run := false }).armPlane ly j p

end Sys2Proof.Machine
end

