-- ==== Sys2Proof/Machine/Wires.lean ====
section
/-!
DEFINITION. Sys2Proof/Machine/Wires.lean: what every wire of the fabric carries in an fc, under the current planes: tine
logic (chapter 2), local and cluster tracks, antler taps, shaft receive points and horn read lanes (chapter 3).
-/
namespace Sys2Proof.Machine
open Sys2Proof

/-- A wire of one tile, or a point that feeds its wires. Herds are 0 to 255, tines 0 to 15. -/
inductive Wire where
  | zero
  | one
  | lt (h k : Nat)          -- local track
  | ch (r k : Nat)          -- row track
  | cv (c k : Nat)          -- column track
  | port (h i o : Nat)      -- output port
  | q (h i m : Nat)         -- registered output of a macrocell
  | tap (h k : Nat)         -- antler tap
  | rx (h p : Nat)          -- shaft receive point
  | hr (h k : Nat)          -- horn read lane
  deriving DecidableEq, Repr

/-- A place whose fabric is looked at: a tile of a layer. -/
structure At where
  ly : Fin 4
  t : Fin 64
  deriving DecidableEq, Repr

/-- Configuration bytes of the plane current in a tile (R85, R109). -/
def State.cfgNum (s : State) (a : At) (off n : Nat) : Nat :=
  mnum s.fab.planes (ckey a.ly a.t (s.tilePlane a.ly a.t).val off) n

/-- The 1,024 configuration bits of a tine (R63). -/
def State.tineCfg (s : State) (a : At) (h i : Nat) : Nat := s.cfgNum a (128 * (16 * h + i)) 128

/-- The edge tracks of a neighbour, by direction: north, east, south, west (R81). -/
def edgeTrack (dir n : Nat) : Nat :=
  match dir with
  | 0 => n
  | 1 => [0, 1, 8, 9, 16, 17, 24, 25].getD n 0
  | 2 => 24 + n
  | _ => [6, 7, 14, 15, 22, 23, 30, 31].getD n 0

/-- Edge track `n` of the neighbour of a herd in a direction; a neighbour outside the tile reads constant 0 (R80). -/
def edgeWire (h dir n : Nat) : Wire :=
  let row := h / 16
  let col := h % 16
  match dir with
  | 0 => if row < 15 then .lt (h + 16) (edgeTrack 0 n) else .zero
  | 1 => if col < 15 then .lt (h + 1) (edgeTrack 1 n) else .zero
  | 2 => if 0 < row then .lt (h - 16) (edgeTrack 2 n) else .zero
  | _ => if 0 < col then .lt (h - 1) (edgeTrack 3 n) else .zero

/-- The source an input-mux code selects (R42, Table 3-2). -/
def inputWire (h i code : Nat) : Wire :=
  if code < 4 then .q h i code
  else if code < 0x24 then .lt h (code - 4)
  else if code < 0x44 then edgeWire h ((code - 0x24) / 8) ((code - 0x24) % 8)
  else if code < 0x64 then .ch (h / 16) (code - 0x44)
  else if code < 0x84 then .cv (h % 16) (code - 0x64)
  else if code < 0xA4 then .tap h (code - 0x84)
  else if code < 0xC4 then .rx h (code - 0xA4)
  else if code < 0xE4 then .hr h (code - 0xC4)
  else if code = 0xFF then .one
  else .zero

/-- The driver a local-track code selects (Table 3-3). -/
def trackWire (h code : Nat) : Wire :=
  if code = 0 then .zero
  else if code < 0x41 then .port h ((code - 1) / 4) ((code - 1) % 4)
  else if code < 0x61 then .ch (h / 16) (code - 0x41)
  else if code < 0x81 then .cv (h % 16) (code - 0x61)
  else if code < 0xA1 then .tap h (code - 0x81)
  else if code < 0xC1 then .rx h (code - 0xA1)
  else if code < 0xE1 then .hr h (code - 0xC1)
  else if code = 0xFF then .one
  else .zero

/-- The driver a cluster-track code selects at its driving herd: the turn goes to the other direction (Table 3-4). -/
def clusterWire (h : Nat) (row : Bool) (code : Nat) : Wire :=
  if code = 0 then .zero
  else if code < 0x21 then .lt h (code - 1)
  else if code < 0x41 then .tap h (code - 0x21)
  else if code < 0x61 then .rx h (code - 0x41)
  else if code < 0x81 then (if row then .cv (h % 16) (code - 0x61) else .ch (h / 16) (code - 0x61))
  else .zero

/-- The source an antler root code selects (R87); a shaft launch takes the codes below 0x61 alone (R92). -/
def rootWire (h : Nat) (shaft : Bool) (code : Nat) : Wire :=
  if code = 0 then .zero
  else if code < 0x21 then .lt h (code - 1)
  else if code < 0x41 then .ch (h / 16) (code - 0x21)
  else if code < 0x61 then .cv (h % 16) (code - 0x41)
  else if code < 0x81 ∧ !shaft then .rx h (code - 0x61)
  else .zero

/-! ## Tine logic -/

/-- The 24-bit control word of macrocell `m` (R64). -/
def mcc (cfg m : Nat) : Nat := nbits cfg (768 + 24 * m) 24

/-- The connect bits of product term `k` (R45). -/
def conBits (cfg k : Nat) : Nat := nbits cfg (32 * k) 32

/-- The 32 literals of 16 inputs: K(2j) is Ij and K(2j+1) its complement (R44). -/
def lits (inp : Nat → Bool) : Nat :=
  (List.range 16).foldl (fun a j => a + (if inp j then 1 else 2) * 4 ^ j) 0

/-- A product term: the AND of the connected literals (R45). -/
def term (cfg k l : Nat) : Bool := Nat.land (conBits cfg k) l == conBits cfg k

/-- The native terms a 6-bit mask of macrocell `m` takes. -/
def natives (m mask : Nat) : List Nat := ((List.range 6).filter (fun i => nbits mask i 1 == 1)).map (fun i => 6 * m + i)

/-- The terms in the share sum of macrocell `m` (R46). -/
def shareTerms (cfg m : Nat) : List Nat := natives m (nbits (mcc cfg m) 6 6)

/-- The terms in the main sum of macrocell `m` (R46): its own, and the neighbours' shares it takes in. -/
def mainTerms (cfg m : Nat) : List Nat :=
  natives m (nbits (mcc cfg m) 0 6)
    ++ (if nbits (mcc cfg m) 12 1 = 1 then shareTerms cfg ((m + 3) % 4) else [])
    ++ (if nbits (mcc cfg m) 13 1 = 1 then shareTerms cfg ((m + 1) % 4) else [])

/-- An OR of terms; an empty OR is 0 (R46). -/
def orTerms (cfg l : Nat) (ts : List Nat) : Bool := ts.any (fun k => term cfg k l)

/-- X(m): the main sum through the polarity XOR (R48). -/
def xOut (cfg l m : Nat) : Bool := orTerms cfg l (mainTerms cfg m) != (nbits (mcc cfg m) 14 1 == 1)

/-- The terms an output port depends on combinationally (Table 2-3). -/
def portTerms (cfg o : Nat) : List Nat :=
  let code := nbits cfg (992 + 4 * o) 4
  if 5 ≤ code ∧ code ≤ 8 then mainTerms cfg (code - 5)
  else if 9 ≤ code ∧ code ≤ 0xC then shareTerms cfg (code - 9)
  else []

/-- Input `j` is connected in one of the terms. -/
def usesInput (cfg : Nat) (ts : List Nat) (j : Nat) : Bool := ts.any (fun k => nbits (conBits cfg k) (2 * j) 2 != 0)

/-- The input-mux select of input `j` (Table 2-4). -/
def imux (cfg j : Nat) : Nat := nbits cfg (864 + 8 * j) 8

/-! ## Values of an fc -/

/-- The flop bank of a tine, bit 4m + e for entry e of macrocell m (R49, R397). -/
def State.bank (s : State) (a : At) (h i : Nat) : BitVec 16 :=
  mget 0 s.fab.flops (a.ly.val * 2 ^ 18 + a.t.val * 4096 + h * 16 + i)

/-- The selected entry of macrocell `m`: the region's override, or FLOPSEL (R49, R55). -/
def State.selEntry (s : State) (a : At) (cfg m : Nat) : Nat :=
  match (s.region a.ly (s.tileRegion a.ly a.t)).ovr with
  | some e => e.val
  | none => nbits (mcc cfg m) 16 2

/-- Q of macrocell `m` of a tine (R49). -/
def State.qOut (s : State) (a : At) (h i m : Nat) : Bool :=
  (s.bank a h i).getLsbD (4 * m + s.selEntry a (s.tineCfg a h i) m)

/-- Set-reset stands for a tile's region: global, or regional (R57). -/
def State.setReset (s : State) (a : At) : Bool :=
  s.fab.gsr || (match (s.region a.ly (s.tileRegion a.ly a.t)).rsr with
    | some c => decide (c ≤ s.tl.fc)
    | none => false)

/-- Tap `k` of a herd: tree 32s + k of its tap select s, in the second stage (R88, R89). -/
def State.tapVal (s : State) (a : At) (h k : Nat) : Bool :=
  !s.fab.gsr && (s.layer a.ly).tree2.getLsbD (32 * nbits (s.cfgNum a (offTap + 32 * h + k) 1) 0 5 + k)

/-- Key of a shaft group: boundary `b`, group `g`. -/
def shKey (b g : Nat) : Nat := 256 * b + g

/-- Quadrant of a herd (R91). -/
def quadOf (h : Nat) : Nat := 2 * (h / 128) + h % 16 / 8

/-- Number of a herd within its quadrant (R91). -/
def herdU (h : Nat) : Nat := 8 * (h / 16 % 8) + h % 8

/-- Herd that launches lane `d` of quadrant `q` (R91). -/
def launchHerd (q d : Nat) : Nat :=
  let u := 4 * (d % 16) + d / 16
  16 * (8 * (q / 2) + u / 8) + 8 * (q % 2) + u % 8

/-- Shaft receive point `p` of a herd: lanes 16(u mod 4) + p mod 16 of its group at the lower (p below 16) or the upper
boundary; 0 where the layer lacks the boundary, on the launching side, in a failed group and under global set-reset
(R79, R92, R95, R96, R102). -/
def State.rxVal (s : State) (a : At) (h p : Nat) : Bool :=
  let upperB := 16 ≤ p
  if s.fab.gsr ∨ (a.ly.val = 0 ∧ !upperB) ∨ (a.ly.val = 3 ∧ upperB) then false
  else
    let b := if upperB then a.ly.val else a.ly.val - 1
    let g := 4 * a.t.val + quadOf h
    match mfind s.fab.rx (shKey b g) with
    | some w => w.upper == upperB && !s.b (F.VL_BG_STAT_FAILED b g) && w.data.getLsbD (16 * (herdU h % 4) + p % 16)
    | none => false

/-- The horn block of a key. -/
def State.hornAt (s : State) (ly : Fin 4) (t : Fin 64) (b : Fin 32) : Horn := mget Horn.reset s.fab.horn (hornKey ly t b)

/-- Replace a horn block. -/
def State.setHorn (s : State) (ly : Fin 4) (t : Fin 64) (b : Fin 32) (x : Horn) : State :=
  { s with fab := { s.fab with horn := mput Horn.reset s.fab.horn (hornKey ly t b) x } }

/-- The result bus of a block: the last result, with NEW and BROKE as they stand in this fc; all 0 under set-reset
(R135, R136, R140). -/
def State.resultBus (s : State) (a : At) (b : Fin 32) : BitVec 256 :=
  if s.setReset a then 0
  else
    let x := s.hornAt a.ly a.t b
    x.bus ||| (if x.newAt = s.tl.fc + 1 then 1#256 <<< 192 else 0) ||| (if x.brokeAt = s.tl.fc + 1 then 1#256 <<< 196 else 0)

/-- Horn read lane `k` of a herd: bit 32j + k of the bus of the block that serves it as herd j (R129, R131). -/
def State.hrVal (s : State) (a : At) (h k : Nat) : Bool :=
  (s.resultBus a (Fin.ofNat 32 (16 * (h / 128) + h % 16))).getLsbD (32 * (h / 16 % 8) + k)

/-- The wires a wire depends on within the fc. -/
def State.wireDeps (s : State) (a : At) : Wire → List Wire
  | .lt h k => [trackWire h (nbits (s.tineCfg a h (k / 2)) (1008 + 8 * (k % 2)) 8)]
  | .ch r k => [clusterWire (16 * r + k % 16) true (s.cfgNum a (offCluster + 32 * r + k) 1)]
  | .cv c k => [clusterWire (16 * (k % 16) + c) false (s.cfgNum a (offCluster + 512 + 32 * c + k) 1)]
  | .port h i o =>
    let cfg := s.tineCfg a h i
    let ts := portTerms cfg o
    ((List.range 16).filter (usesInput cfg ts)).map (fun j => inputWire h i (imux cfg j))
  | _ => []

/-- The wires reached from a list of wires. -/
def reach (deps : Wire → List Wire) : Nat → List Wire → List Wire → List Wire
  | 0, _, seen => seen
  | _ + 1, [], seen => seen
  | n + 1, w :: ws, seen => if seen.contains w then reach deps n ws seen else reach deps n (deps w ++ ws) (w :: seen)

/-- The wire lies on a combinational loop: it reaches itself (R84). -/
def State.looped (s : State) (a : At) (w : Wire) : Bool :=
  (reach (s.wireDeps a) (2 ^ 20) (s.wireDeps a w) []).contains w

/-- A number for a wire of the package. -/
def Wire.code (a : At) : Wire → Nat
  | .lt h k => (a.ly.val * 64 + a.t.val) * 2 ^ 18 + h * 32 + k
  | .ch r k => (a.ly.val * 64 + a.t.val) * 2 ^ 18 + 2 ^ 14 + r * 32 + k
  | .cv c k => (a.ly.val * 64 + a.t.val) * 2 ^ 18 + 2 ^ 15 + c * 32 + k
  | .port h i o => (a.ly.val * 64 + a.t.val) * 2 ^ 18 + 2 ^ 17 + h * 64 + i * 4 + o
  | _ => 0

/-- The value an output port drives (Table 2-3). -/
def State.portVal (s : State) (a : At) (h i o : Nat) (inp : Nat → Bool) : Bool :=
  let cfg := s.tineCfg a h i
  let code := nbits cfg (992 + 4 * o) 4
  if code = 0 then false
  else if code ≤ 4 then s.qOut a h i (code - 1)
  else if code ≤ 8 then xOut cfg (lits inp) (code - 5)
  else if code ≤ 0xC then orTerms cfg (lits inp) (shareTerms cfg (code - 9))
  else code == 0xD

/-- The value of a wire, to a depth that exceeds every acyclic path of a tile. -/
def State.wireVal (s : State) (a : At) : Nat → Wire → Bool
  | _, .zero => false
  | _, .one => true
  | _, .q h i m => s.qOut a h i m
  | _, .tap h k => s.tapVal a h k
  | _, .rx h p => s.rxVal a h p
  | _, .hr h k => s.hrVal a h k
  | 0, _ => false
  | n + 1, .lt h k =>
    if s.looped a (.lt h k) then Config.loopBit ((Wire.lt h k).code a) s.tl.fc
    else s.wireVal a n (trackWire h (nbits (s.tineCfg a h (k / 2)) (1008 + 8 * (k % 2)) 8))
  | n + 1, .ch r k =>
    if s.looped a (.ch r k) then Config.loopBit ((Wire.ch r k).code a) s.tl.fc
    else s.wireVal a n (clusterWire (16 * r + k % 16) true (s.cfgNum a (offCluster + 32 * r + k) 1))
  | n + 1, .cv c k =>
    if s.looped a (.cv c k) then Config.loopBit ((Wire.cv c k).code a) s.tl.fc
    else s.wireVal a n (clusterWire (16 * (k % 16) + c) false (s.cfgNum a (offCluster + 512 + 32 * c + k) 1))
  | n + 1, .port h i o =>
    if s.looped a (.port h i o) then Config.loopBit ((Wire.port h i o).code a) s.tl.fc
    else s.portVal a h i o (fun j =>
      usesInput (s.tineCfg a h i) (portTerms (s.tineCfg a h i) o) j
        && s.wireVal a n (inputWire h i (imux (s.tineCfg a h i) j)))

/-- The value of a wire in the present fc. -/
def State.wire (s : State) (a : At) (w : Wire) : Bool := s.wireVal a 26000 w

end Sys2Proof.Machine
end

