-- ==== Sys2Proof/Machine/Snapshots.lean ====
section
/-!
DEFINITION. Sys2Proof/Machine/Snapshots.lean: the capture ring at the end of an fc (R556, R557), and a snapshot as its fc ends
(R559 to R561).
-/
namespace Sys2Proof.Machine
open Sys2Proof

/-! ## The ring -/

/-- The ring's place in DRAM and its size, in bytes (R556). -/
def State.ringBase (s : State) : Nat := s.f F.RPL_RING_BASE * 2 ^ 30
def State.ringSize (s : State) : Nat := s.f F.RPL_RING_SZ * 2 ^ 30

/-- Bytes a payload takes with its padding. -/
def padTo16 (n : Nat) : Nat := (n + 15) / 16 * 16

/-- A record in the ring (R557). -/
def RingRec.bytes (r : RingRec) (seq : Nat) : List Byte :=
  leBytes 4 (r.type * 2 ^ 24 + r.payload.length) ++ leBytes 8 r.time ++ leBytes 4 (seq % 65536 * 65536 + r.id) ++ r.payload
    ++ List.replicate (padTo16 r.payload.length - r.payload.length) 0

/-- Bytes a record takes. -/
def RingRec.size (r : RingRec) : Nat := 16 + padTo16 r.payload.length

/-- Bytes written into the ring, past the shared cache (R289). -/
def State.ringBytes (s : State) (pos : Nat) (bytes : List Byte) : State :=
  (List.range (bytes.length / 8)).foldl (fun t i =>
    t.putDram ((s.ringBase + (pos + 8 * i) % s.ringSize) / 8) (BitVec.ofNat 64 (leNat ((bytes.drop (8 * i)).take 8))) .clean) s

/-- A snapshot loses its cover: the ring no longer holds every record after its fc (R561). -/
def State.uncover (s : State) (b : Fin 2) (lost : Snapshot → Bool) : State :=
  match s.rpl.snaps.get b with
  | some x => if lost x then s.setF (F.RPL_SNAP_HI_COVERED b.val) 0 else s
  | none => s

/-- A record goes into the ring; a wrap past a snapshot's fc uncovers it. -/
def State.ringPut (s : State) (r : RingRec) : State :=
  let t := s.ringBytes s.rpl.wr (r.bytes s.rpl.seq)
  let u : State := { t with rpl := { t.rpl with wr := t.rpl.wr + r.size, seq := t.rpl.seq + 1 } }
  (List.finRange 2).foldl (fun v b => v.uncover b (fun x => decide (x.pos + v.ringSize < v.rpl.wr))) u

/-- The 1 MiB buffer, and what 400 Gb/s take from it in one fc, in 1/1536 byte (R556). -/
def bufferUnits : Nat := 1536 * 2 ^ 20
def drainUnits : Nat := 78125

/-- A record of the fc is accepted, or lost for want of room; behind a gap not yet written it is lost too. -/
def State.ringAdd (s : State) (r : RingRec) : State :=
  match s.rpl.gap with
  | some (t, n, b) => { s with rpl := { s.rpl with gap := some (t, n + 1, b + r.size) } }
  | none =>
    if s.rpl.fill + 1536 * r.size ≤ bufferUnits then
      ({ s with rpl := { s.rpl with fill := s.rpl.fill + 1536 * r.size } } : State).ringPut r
    else { s with rpl := { s.rpl with gap := some (r.time, 1, r.size) } }

/-- The records of one fc in the order of Table 24-1. -/
def ringOrder (l : List RingRec) : List RingRec := (List.range 8).flatMap (fun ty => l.filter (fun r => r.type == ty))

/-- The end of an fc in the engine: its records, the buffer's drain, and where a snapshot of the fc stands in the ring. -/
def State.ringFc (s : State) : State :=
  if s.rpl.now = [] ∧ s.rpl.fill = 0 then s
  else
    let t := (ringOrder s.rpl.now).foldl State.ringAdd { s with rpl := { s.rpl with now := [] } }
    let mark (x : Option Snapshot) : Option Snapshot :=
      match x with
      | some y => if y.time = s.fullTime ∧ t.rpl.copy.isSome then some { y with pos := t.rpl.wr } else some y
      | none => none
    { t with rpl := { t.rpl with fill := t.rpl.fill - drainUnits, snaps := t.rpl.snaps.map mark } }

/-! ## A snapshot begins (R559) -/

/-- Layers in the scope. -/
def State.scopeLayers (s : State) : List (Fin 4) := (List.finRange 4).filter (fun k => s.inScope k.val)

/-- A layer's own sequencer takes a capture of its scope region in this fc. -/
def State.scopeCapture (s : State) (k : Fin 4) : Bool :=
  match (s.layer k).capReq with
  | some r => !r.host && r.region == s.scopeRegion k.val
  | none => false

/-- A snapshot begins at the end of the present fc: capture runs, armed, and LEAD captures its scope region. -/
def State.snapNow (s : State) : Bool :=
  s.capturing && s.b F.RPL_SNAP_ARM && s.inScope (s.f F.RPL_SNAP_LEAD) && s.scopeCapture (Fin.ofNat 4 (s.f F.RPL_SNAP_LEAD))
    && s.rpl.copy.isNone

/-- A horn block of the scope holds an operand set in its pipeline, or a request of the scope is outstanding (Table 24-2, BUSY). -/
def State.scopeBusy (s : State) : Bool :=
  let tiles (ly : Fin 4) (t : Nat) : Bool := s.inScope ly.val && s.tileRegion ly (Fin.ofNat 64 t) == s.scopeRegion ly.val
  s.fab.horn.any (fun e => tiles (Fin.ofNat 4 (e.1 / 2048)) (e.1 / 32) && (e.2.pipe != [] || e.2.fft.isSome))
    || s.scopeLayers.any (fun k => !(s.seq k).ports.isEmpty)
    || s.mem.ports.any (fun e => !e.2.reqs.isEmpty
        && tiles (Fin.ofNat 4 (e.1 / 32)) (mget 0 s.fab.io (512 * (e.1 / 32 % 4) + 8 * (e.1 % 32) + 1)).toNat)

/-- Queue `q` lies in a recorded bank. -/
def State.bankRecorded (s : State) (bank : Nat) : Bool := nbits (s.f F.RPL_BANKS_BANKS) bank 1 == 1

/-- Digest of the settings copy in force: its items in order (R559). -/
def NvsCopy.digest (c : NvsCopy) : Nat :=
  c.items.foldl (fun d e => Config.digestStep (Config.digestStep d (BitVec.ofNat 32 e.1)) e.2) 0

/-- Digest of the copy NVS_STAT.COPY names; 0 where there is none. -/
def State.settingsDigest (s : State) : Nat :=
  match s.nvs.copies.get (Fin.ofNat 2 (s.f F.NVS_STAT_COPY)) with
  | some c => c.digest
  | none => 0

/-- What a snapshot records at the end of the present fc (R559); of a borrowed window what its save buffer holds (R337). -/
def State.snapshot (s : State) : Snapshot :=
  let inScopeKey (key : Nat) : Bool :=
    s.inScope (key / 2 ^ 21 % 4) && s.tileRegion (Fin.ofNat 4 (key / 2 ^ 21)) (Fin.ofNat 64 (key / 2 ^ 15))
      == s.scopeRegion (key / 2 ^ 21 % 4)
  let m := s.returnWindows.mem
  { time := s.fullTime, pos := s.rpl.wr,
    regions := s.scopeLayers.map (fun k => (k, s.scopeRegion k.val, s.region k (s.scopeRegion k.val))),
    caps := s.scopeLayers.filterMap (fun k => (s.layer k).cap.map (fun c => (k, c))),
    coef := s.fab.coef.filter (fun e => inScopeKey e.1),
    queues := s.qs.filter (fun e => e.2.en && s.bankRecorded (e.1 / 1024)),
    words := m.words.filter (fun e => decide (e.1 < 2 ^ 25) && s.bankRecorded (e.1 / 2 ^ 20)),
    marks := m.marks.filter (fun e => decide (e.1 < 2 ^ 25) && s.bankRecorded (e.1 / 2 ^ 20)),
    image := s.rpl.image, settings := s.settingsDigest }

/-- SNAPSHOT_BEGIN (R559, R561): `asked` is the state in which the captures of the fc were still asked for, `s` the state at
its end with them done. -/
def State.snapBegin (asked s : State) : State :=
  let b := s.rpl.nextBuf
  let t : State := { s with rpl := { s.rpl with nextBuf := b + 1, copy := some (b, s.tl.fc), dirty := false,
                                                snaps := s.rpl.snaps.set b.val (some s.snapshot) b.isLt } }
  let u := ((t.setReg (Rg.RPL_SNAP_LO b.val) (BitVec.ofNat 32 s.fullTime)).report (Rg.RPL_SNAP_HI b.val)
    [(F.RPL_SNAP_HI_COVERED b.val, 1), (F.RPL_SNAP_HI_HF b.val, s.fullTime / 2 ^ 34), (F.RPL_SNAP_HI_ATH b.val, s.fullTime / 2 ^ 32)]
    ).ringNote 7 0 (leBytes 4 b.val)
  if asked.scopeLayers.any (fun k => !asked.scopeCapture k) then u.snapFail b 1
  else if s.scopeBusy then u.snapFail b 2
  else u

end Sys2Proof.Machine
end

