-- ==== Sys2Proof/Machine/FcStep.lean ====
section
/-!
DEFINITION. Sys2Proof/Machine/FcStep.lean: the passage from one fc to the next: flop banks, antler stages, shafts,
captures, planes that become current, and what a sequencer does at the boundary.
-/
namespace Sys2Proof.Machine
open Sys2Proof

/-- The place a content key lies in: layer, tile, context and offset. -/
def keyAt (key : Nat) : At := { ly := Fin.ofNat 4 (key / 2 ^ 31), t := Fin.ofNat 64 (key / 2 ^ 25) }

/-- A plane content key lies in the plane current in its tile. -/
def State.inCurrent (s : State) (key : Nat) : Bool :=
  decide (key / 2 ^ 20 % 32 = (s.tilePlane (keyAt key).ly (keyAt key).t).val)

/-- Offset of a content key in its tile's context. -/
def keyOff (key : Nat) : Nat := key % 2 ^ 20

/-- The tines that have configuration in the current plane, by package tine index (R28). -/
def State.liveTines (s : State) : List Nat :=
  ((s.fab.planes.filter (fun e => decide (keyOff e.1 < offCluster) && s.inCurrent e.1)).map (fun e =>
    ((keyAt e.1).ly.val * 64 + (keyAt e.1).t.val) * 4096 + keyOff e.1 / 128)).eraseDups

/-- The place of a package tine index. -/
def tineAt (n : Nat) : At := { ly := Fin.ofNat 4 (n / 2 ^ 18), t := Fin.ofNat 64 (n / 4096) }

/-- The four bits of a macrocell in a bank. -/
def bankPut (w : BitVec 16) (m : Nat) (v : Nat) : BitVec 16 :=
  (w &&& ~~~(15#16 <<< (4 * m))) ||| (BitVec.ofNat 16 (v % 16) <<< (4 * m))

/-- One entry of a bank. -/
def bankSet (w : BitVec 16) (m e : Nat) (b : Bool) : BitVec 16 :=
  (w &&& ~~~(1#16 <<< (4 * m + e))) ||| (if b then 1#16 <<< (4 * m + e) else 0)

/-- The flop bank of a macrocell after the end of the fc (Table 2-1, R50 to R52): set-reset, a guard fc or a held region,
synchronous reset and set, the clock enable. -/
def State.nextCell (s : State) (a : At) (cfg l : Nat) (i15 : Bool) (w : BitVec 16) (m : Nat) : BitVec 16 :=
  let c := mcc cfg m
  let r := s.region a.ly (s.tileRegion a.ly a.t)
  let sel := s.selEntry a cfg m
  let q := w.getLsbD (4 * m + sel)
  if s.setReset a then bankPut w m (if nbits c 22 1 = 1 then 15 else 0)
  else if r.guardAt = some s.tl.fc ∨ s.held a.ly (s.tileRegion a.ly a.t) then w
  else if nbits c 20 2 = 1 ∧ term cfg (6 * m + 4) l then bankSet w m sel false
  else if nbits c 20 2 = 2 ∧ term cfg (6 * m + 4) l then bankSet w m sel true
  else
    let ce : Bool := match nbits c 18 2 with
      | 0 => false
      | 1 => true
      | 2 => term cfg (6 * m + 5) l
      | _ => i15
    let x := xOut cfg l m
    if ce then bankSet w m sel (if nbits c 15 1 = 1 then x != q else x) else w

/-- The flop bank of a tine after the end of the fc. -/
def State.nextBank (s : State) (n : Nat) : BitVec 16 :=
  let a := tineAt n
  let h := n / 16 % 256
  let i := n % 16
  let cfg := s.tineCfg a h i
  let inp := fun j => s.wire a (inputWire h i (imux cfg j))
  let l := lits inp
  (List.range 4).foldl (s.nextCell a cfg l (inp 15)) (s.bank a h i)

/-- Every flop bank after the end of the fc: a tine with no configuration holds, and under set-reset takes GSRVAL 0. -/
def State.nextFlops (s : State) : NMap (BitVec 16) :=
  s.liveTines.foldl (fun m n => mput 0 m n (s.nextBank n))
    (s.fab.flops.filter (fun e => !s.setReset (tineAt e.1)))

/-- The antler roots' captures at the end of the fc (R87, R89). -/
def State.rootBits (s : State) (ly : Fin 4) : BitVec 1024 :=
  if s.fab.gsr then 0
  else
    (s.fab.planes.filter (fun e => decide ((keyAt e.1).ly = ly ∧ offRoot ≤ keyOff e.1 ∧ keyOff e.1 < offRoot + 16)
        && s.inCurrent e.1)).foldl (fun w e =>
      let j := keyOff e.1 - offRoot
      if s.wire (keyAt e.1) (rootWire (17 * j) false e.2.toNat) then
        w ||| (1#1024 <<< (64 * j + (keyAt e.1).t.val)) else w) 0

/-! ## Shafts -/

/-- The code column of data lane `i` (R97). -/
def laneColumn (i : Nat) : Nat :=
  if i < 1 then 3
  else if i < 4 then i + 4
  else if i < 11 then i + 5
  else if i < 26 then i + 6
  else if i < 57 then i + 7
  else i + 8

/-- The position a syndrome names: a check lane, a data lane, or none (Table 3-7). -/
def syndromePos (x : Nat) : Option Nat :=
  match (List.range 7).find? (fun j => x == 2 ^ j) with
  | some j => some (64 + j)
  | none => (List.range 64).find? (fun i => x == laneColumn i)

/-- The check lanes of a word (R97): lane j carries the XOR of the data lanes whose column has bit j set. -/
def checkLanes (data : BitVec 64) : BitVec 7 :=
  (List.range 64).foldl (fun c i => if data.getLsbD i then c ^^^ BitVec.ofNat 7 (laneColumn i) else c) 0

/-- The word in which no side launches: all zero (R95). A word with no listed side counts as launched by the lower one (log 100). -/
def idleWord : ShaftWord := { upper := false, data := 0, check := 0 }

/-- The word at a group's receive points in the present fc. -/
def State.shaftWord (s : State) (key : Nat) : ShaftWord := (mfind s.fab.rx key).getD idleWord

/-- A word some lanes of which have flipped on the way: lane i at bit i, the check lanes from 64 on. -/
def ShaftWord.flipped (w : ShaftWord) (flip : BitVec 71) : ShaftWord :=
  { w with data := w.data ^^^ flip.setWidth 64, check := w.check ^^^ (flip >>> 64).setWidth 7 }

/-- The syndrome of a received word: the XOR of the columns of the positions that disagree with the code (R98). -/
def ShaftWord.syndrome (w : ShaftWord) : BitVec 7 := checkLanes w.data ^^^ w.check

/-- The data the receiver presents: the data lane the syndrome names is inverted (Table 3-7). -/
def ShaftWord.corrected (w : ShaftWord) : BitVec 64 :=
  match syndromePos w.syndrome.toNat with
  | some i => if i < 64 then w.data ^^^ (1#64 <<< i) else w.data
  | none => w.data

/-- A shaft group's lane health. -/
def State.lanes (s : State) (b g : Nat) : Lanes := mget lanes0 s.fab.lanes (shKey b g)

/-- Replace a shaft group's lane health. -/
def State.setLanes (s : State) (b g : Nat) (x : Lanes) : State :=
  { s with fab := { s.fab with lanes := mput lanes0 s.fab.lanes (shKey b g) x } }

/-- A layer claims a shaft group: DRIVE in its current routing plane, unless its region is held (R93, R122). -/
def State.claims (s : State) (ly : Fin 4) (upperB : Bool) (g : Nat) : Bool :=
  let a : At := { ly := ly, t := Fin.ofNat 64 (g / 4) }
  nbits (s.cfgNum a ((if upperB then offUpper else offLower) + 256 + g % 4) 1) 0 1 == 1
    && !s.held ly (s.tileRegion ly a.t)

/-- The word a layer launches into a group (R91, R92). -/
def State.launchWord (s : State) (ly : Fin 4) (upperB : Bool) (g : Nat) : BitVec 64 :=
  let a : At := { ly := ly, t := Fin.ofNat 64 (g / 4) }
  let q := g % 4
  BitVec.ofNat 64 ((List.range 64).foldl (fun w d =>
    let code := s.cfgNum a ((if upperB then offUpper else offLower) + 64 * q + d) 1
    if s.wire a (rootWire (launchHerd q d) true code) then w + 2 ^ d else w) 0)

/-- The shaft groups that are in use: claimed in some current plane, or launched into in the last fc. -/
def State.liveGroups (s : State) : List Nat :=
  let at_ (off b : Nat) (e : Nat × Byte) : Option Nat :=
    let o := keyOff e.1
    if off + 256 ≤ o ∧ o < off + 260 then some (shKey b (4 * (keyAt e.1).t.val + (o - off - 256))) else none
  ((s.fab.planes.filterMap (fun e =>
      if s.inCurrent e.1 then
        if (keyAt e.1).ly.val < 3 ∧ (at_ offUpper 0 e).isSome then at_ offUpper (keyAt e.1).ly.val e
        else if 0 < (keyAt e.1).ly.val then at_ offLower ((keyAt e.1).ly.val - 1) e
        else none
      else none)) ++ s.fab.side.map (fun e => e.1)).eraseDups

/-- What a group does in the present fc (R93, R94, R96, R102): the side that launches and its word; the side whose turn
it is; DRV; and whether both layers claim. -/
structure ShaftFc where
  side : Option Bool       -- launching side of this fc, true the upper layer; none in an idle or turnaround fc
  drv : Nat
  conflict : Bool
  word : Option ShaftWord
  deriving DecidableEq, Repr

/-- A group in the present fc. -/
def State.shaftFc (s : State) (key : Nat) : ShaftFc :=
  let b := key / 256
  let g := key % 256
  let lower : Fin 4 := Fin.ofNat 4 b
  let upper : Fin 4 := Fin.ofNat 4 (b + 1)
  let cl := s.claims lower true g
  let cu := s.claims upper false g
  let dir : Option Bool := if cl then some false else if cu then some true else none
  let prev := mfind s.fab.side key
  let turn : Bool := match dir, prev with
    | some d, some p => d != p
    | _, _ => false
  if turn ∨ s.fab.gsr ∨ s.b (F.VL_BG_STAT_FAILED b g) then { side := none, drv := 0, conflict := cl && cu, word := none }
  else match dir with
    | none => { side := none, drv := 0, conflict := false, word := none }
    | some up =>
      { side := some up, drv := if cl && cu then 3 else if up then 2 else 1, conflict := cl && cu,
        word :=
          let d := s.launchWord (if up then upper else lower) (!up) g
          some { upper := up, data := d, check := checkLanes d } }

/-- Every live group's fc: conflicts raised, DRV, the words launched and the sides remembered (R93 to R95). -/
def State.shaftStep (s : State) : State :=
  let fcs := s.liveGroups.map (fun k => (k, s.shaftFc k))
  let t := fcs.foldl (fun t e =>
    let u := t.setF (F.VL_BG_STAT_DRV (e.1 / 256) (e.1 % 256)) e.2.drv
    if e.2.conflict then u.raise (Ev.SHAFT_CONFLICT (e.1 / 256)) [e.1 / 256, e.1 % 256] else u) s
  { t with fab := { t.fab with
      rx := if s.fab.gsr then [] else s.fab.sh2, sh2 := if s.fab.gsr then [] else s.fab.sh1,
      sh1 := fcs.foldl (fun m e => match e.2.word with | some w => mins m e.1 w | none => m) [],
      side := fcs.foldl (fun m e => match e.2.side with | some w => mins m e.1 w | none => m) [] } }

/-- A group's receivers take a swapped position from its spare in the present fc: the old lane is out of use, and FAILLANE names
it no longer (R100 step 4, Table 3-10). -/
def State.laneSwapped (s : State) (key : Nat) (x : Lanes) : State :=
  match x.old with
  | some (pos, f) =>
    if f ≤ s.tl.fc then
      let t := s.setLanes (key / 256) (key % 256) { x with old := none }
      let shown := F.VL_BG_STAT_FAILLANE (key / 256) (key % 256)
      if x.faill = none ∧ s.f shown = pos then t.setF shown 0x7F else t
    else s
  | none => s

/-- Swaps that reach the receivers in the present fc. -/
def State.lanesFc (s : State) : State := s.fab.lanes.foldl (fun t e => t.laneSwapped e.1 e.2) s

/-! ## Repairs (R69) -/

/-- The repair path a parity group belongs to: its tine, or its tile's routing or mode words (R69, log 41). -/
def repairUnit (g : Nat) : Nat :=
  let off := 8 * g % 2 ^ 20
  8192 * (8 * g / 2 ^ 25) + (if off < offCluster then off / 128 else if off < offHorn then 4096 else 4097)

/-- A detected upset waits for its path in the present fc. -/
def State.waitsRepair (s : State) (u : Upset) : Bool := u.read.isNone && decide (u.since < s.tl.fc)

/-- One waiting group stands before another of its path: it appeared earlier, or in the same fc with a lower plane and group. -/
def beforeUpset (a b : Nat × Upset) : Bool :=
  repairUnit a.1 == repairUnit b.1 && (decide (a.2.since < b.2.since) || (a.2.since == b.2.since && decide (a.1 < b.1)))

/-- Each path reads the 64 bits of one group in an fc, in ascending order of plane and then of group among those upset together
(R68, R69), from the slot that last filled the plane. -/
def State.repairReads (s : State) : State :=
  { s with fab := { s.fab with upsets := s.fab.upsets.map (fun e =>
      if s.waitsRepair e.2 && !(s.fab.upsets.any (fun x => s.waitsRepair x.2 && beforeUpset x e)) then
        let a := keyAt (8 * e.1)
        let p : Fin 4 := Fin.ofNat 4 (8 * e.1 / 2 ^ 20 % 32)
        (e.1, { e.2 with read := some (s.tl.fc, (s.plane a.ly (s.tileRegion a.ly a.t) p).slot) })
      else e) } }

/-! ## Captures (R195, R402, R403) -/

/-- The full time's two register words of the fc, low and high as the CFG_CAPk registers hold them. -/
def State.captureRegs (s : State) (ly : Fin 4) (r : CapReq) : State :=
  let x := s.region ly r.region
  (s.setReg (Rg.CFG_CAP_LO ly.val) (BitVec.ofNat 32 s.tl.at34)).report (Rg.CFG_CAP_HI ly.val)
    [(F.CFG_CAP_HI_HFN ly.val, s.tl.hfn), (F.CFG_CAP_HI_SRC ly.val, if r.host then 1 else 0),
     (F.CFG_CAP_HI_HORN ly.val, if r.horn then 1 else 0), (F.CFG_CAP_HI_REGION ly.val, r.region.val),
     (F.CFG_CAP_HI_PLANE ly.val, x.cur.val), (F.CFG_CAP_HI_OVR ly.val, if x.ovr.isSome then 1 else 0),
     (F.CFG_CAP_HI_OVRENT ly.val, (x.ovr.getD 0).val), (F.CFG_CAP_HI_ATH ly.val, s.tl.at34 / 2 ^ 32)]

/-- A capture asked for in the present fc is done at its end, after the flop-bank update. -/
def State.captureEnd (s : State) (ly : Fin 4) : State :=
  match (s.layer ly).capReq with
  | none => s
  | some r =>
    let cap : Capture :=
      { flops := s.fab.flops.filter (fun e => (tineAt e.1).ly == ly && s.tileRegion ly (tineAt e.1).t == r.region),
        accs := if r.horn then
            (s.fab.horn.filter (fun e => decide (e.1 / 2048 = ly.val ∧ e.2.acc ≠ Vector.replicate 4 0)
              && s.tileRegion ly (Fin.ofNat 64 (e.1 / 32)) == r.region)).map (fun e => (e.1 % 2048, e.2.acc))
          else [] }
    let t := (s.captureRegs ly r).setLayer ly { s.layer ly with cap := some cap, capReq := none }
    (t.setF ⟨Rg.CFG_CAPSTAT, ly.val, 1⟩ 1).raise Ev.CAP_TAKEN
      [ly.val, r.region.val, s.fullTime % 2 ^ 32, s.fullTime / 2 ^ 32]

/-- A block under set-reset holds 0 in its bus, accumulators, cascade output and pipeline (R136). -/
def Horn.cleared (x : Horn) : Horn :=
  { x with acc := Vector.replicate 4 0, pipe := [], fft := none, casc := [], bus := 0, newAt := 0, brokeAt := 0 }

/-- Horn blocks at the end of an fc: those under set-reset are cleared, and each may capture anew. -/
def State.hornEnd (s : State) : NMap Horn :=
  s.fab.horn.filterMap (fun e =>
    let x := if s.setReset { ly := Fin.ofNat 4 (e.1 / 2048), t := Fin.ofNat 64 (e.1 / 32) } then e.2.cleared else e.2
    if { x with took := false } = Horn.reset then none else some (e.1, { x with took := false }))

/-- The end of the present fc: every value is formed from the state that stands in it. -/
def State.fabricEnd (s : State) : State :=
  let t := s.shaftStep
  { t with fab := { t.fab with
      flops := s.nextFlops, horn := s.hornEnd,
      layers := Vector.ofFn (fun ly : Fin 4 =>
        { t.fab.layers.get ly with
            tree1 := s.rootBits ly, tree2 := if s.fab.gsr then 0 else (s.layer ly).tree1 }) } }

/-- The planes and overrides that take effect at a boundary (R55, R117, R194). -/
def State.planeStep (s : State) (ly : Fin 4) (j : Fin 8) : State :=
  let r := s.region ly j
  let t := match r.ovrNext with
    | some o => s.modRegion ly j (fun r => { r with ovr := o, ovrNext := none })
    | none => s
  match r.nextCur with
  | some q => t.makeCurrent ly j q
  | none => t

/-- A signal flag set earlier becomes visible in its fc (R174). -/
def SigFlag.tick (f : SigFlag) (fc : Nat) : SigFlag :=
  match f.due with
  | some d => if d ≤ fc then { set := true, due := none } else f
  | none => f

/-- The clocks of the stack are stopped: a die above M is held in reset or has no power (R430, R482, R499). -/
def State.stackStopped (s : State) : Bool := decide (s.pwr.held / 2 ≠ 0 ∨ s.pwr.dark / 2 ≠ 0)

/-- The slots of a partial image become valid at the end of its commit fc (R393). -/
def State.slotsLand (s : State) : State :=
  s.fab.newSlots.foldl (fun t e => t.setF ⟨Rg.CFG_LR_SLOTV e.1 e.2.1, e.2.2, 1⟩ 1) { s with fab := { s.fab with newSlots := [] } }

/-- A die whose reset has ended passes from RESET to RESTART (Table 13-3); one that is held stays in RESET. -/
def State.fenceFc (s : State) (die : Nat) : State :=
  if s.phase die = 2 ∧ nbits s.pwr.held die 1 = 0 ∧ nbits s.pwr.dark die 1 = 0 ∧ mget 0 s.mem.drainEnd die < s.tl.fc then
    s.setF ⟨Rg.VL_FENSTAT, 2 * die, 2⟩ 3
  else s

/-- Every region of every layer in turn. -/
def State.eachRegion (s : State) (h : State → Fin 4 → Fin 8 → State) : State :=
  (List.finRange 4).foldl (fun t ly => (List.finRange 8).foldl (fun t j => h t ly j) t) s

/-- Every sequencer in turn. -/
def State.eachSeq (s : State) (h : State → Fin 4 → State) : State := (List.finRange 4).foldl h s

/-- What the present fc still brings behind the instructions that issue in it: regions that become held (R122), stops at a barrier
that no release has ended (R179), and the last fc of a program word's write-back (R156). -/
def State.fcClose (s : State) : State := ((s.eachRegion State.meetHold).eachSeq State.barrierStop).pgmWbEnd

/-- The end of the present fc: fabric, refill beats and captures (Table 2-1, R114, R195). A stack whose clocks stand still
has none. -/
def State.fcEnd (s : State) : State :=
  (List.finRange 4).foldl (fun t ly => t.captureEnd ly)
    (if s.stackStopped then s else s.fabricEnd.eachRegion State.refillBeats)

/-- A copy of AT after a disagreement: the third counter is rewritten from the two that agree (R231). -/
def settled (v : Vector Int 3) : Vector Int 3 :=
  match agreed v with
  | some d => Vector.replicate 3 d
  | none => v

/-- The passage itself: time, which on a fallback no longer is 2 Tc an fc (R229), the flags that become visible, and the coefficient
words that were overwritten. -/
def State.fcTick (s : State) : State :=
  { s with tl := { s.tl.tick with copies := s.tl.copies.map settled },
           rin := { s.rin with tai := if s.b F.TL_STATUS_DEGRADED then s.rin.tai else s.rin.tai + 3125 }, fab := { s.fab with coefOld := [], portUse := [], tileUse := [] },
           flags := s.flags.map (fun f => f.tick (s.tl.fc + 1)) }

/-- The start of the fc that has come: planes, refills, repairs and lanes, then the sequencers (R114, R117, R69, R100, R179). -/
def State.fcBegin (s : State) : State :=
  ((((s.eachRegion State.planeStep).eachRegion State.refillsBegin).repairReads).lanesFc).eachSeq State.seqFc

/-- One fc boundary: the end of the present fc, and the start of the next. -/
def State.fcStep (s : State) : State :=
  let c := s.fcClose
  let a0 := c.fcEnd
  let a : State := (if c.snapNow then State.snapBegin c a0 else a0).ringFc
  ((List.range 9).foldl State.fenceFc a.wdTick.fcTick.askedEpoch.fcBegin).slotsLand.portsFc.clearsFc.freesFc.dmaFc

end Sys2Proof.Machine
end

