-- ==== Sys2Proof/Machine/Fabric.lean ====
section
/-!
DEFINITION. Sys2Proof/Machine/Fabric.lean: the fabric's own events: upsets and their repair (R68 to R72),
shaft errors, swaps and failures (R97 to R102), and the counter clears of the ECC and VL blocks.
-/
namespace Sys2Proof.Machine
open Sys2Proof

/-! ## Upsets -/

/-- Key of a parity group's first byte in a plane (R67, R85, R137). -/
def groupKey (layer : Fin 4) (tile : Fin 64) (plane : Fin 4) (group : Nat) : Nat := ckey layer tile plane.val 0 + 8 * group

/-- Number of bits set. -/
def ones : Nat → Nat → Nat
  | 0, _ => 0
  | n + 1, x => x % 2 + ones n (x / 2)

/-- The coefficient counter of a block resets when the mode word it runs under has changed from what it was in `s` (R142). -/
def State.modeStep (t s : State) (layer plane : Fin 4) (tile : Fin 64) (group : Nat) : State :=
  let b : Fin 32 := Fin.ofNat 32 ((8 * group - offHorn) / 8)
  if offHorn ≤ 8 * group ∧ 8 * group < offHorn + 256 ∧ s.tilePlane layer tile = plane
      ∧ t.hornMode layer tile plane b ≠ s.hornMode layer tile plane b then
    t.setHorn layer tile b { t.hornAt layer tile b with ctr := none }
  else t

/-- Bits of a resident group flip: bit 64 is its parity bit (R67). -/
def State.flipGroup (s : State) (g : Nat) (flip : BitVec 65) : State :=
  { s with fab := { s.fab with
      planes := mputNum s.fab.planes (8 * g) 8 (Nat.xor (mnum s.fab.planes (8 * g) 8) (flip.toNat % 2 ^ 64)),
      oddPar := if ones 65 flip.toNat % 2 = 1 then mput false s.fab.oddPar g (!mget false s.fab.oddPar g) else s.fab.oddPar } }

/-- A group whose parity agrees again within the fc of its upset is no upset (R67). -/
def State.undetect (s : State) (g : Nat) : State :=
  match mfind s.fab.upsets g with
  | some u => if u.since = s.tl.fc ∧ u.read.isNone then { s with fab := { s.fab with upsets := mdel s.fab.upsets g } } else s
  | none => s

/-- Parity is checked for a group of an armed plane (R67, R68). -/
def State.checkParity (s : State) (armed : Bool) (g : Nat) (act : Bool) : State :=
  if armed then (if mget false s.fab.oddPar g then s.detect g act else s.undetect g) else s

/-- UPSET (R67, R68): bits of a resident group, its parity bit among them, flip; parity finds a mismatch in an armed group. -/
def execUpset (layer plane : Fin 4) (tile : Fin 64) (group : Nat) (flip : BitVec 65) (s : State) :
    Host.Outcome State Fault Refusal :=
  let g := groupOf (groupKey layer tile plane group)
  ok (((s.flipGroup g flip).modeStep s layer plane tile group).checkParity (s.plane layer (s.tileRegion layer tile) plane).armed g
    (s.tilePlane layer tile == plane))

/-- Where an upset or a failed repair is reported: ECC_PULAST for tines, ECC_RULAST for routing, ECC_HULAST for horn
mode words (R74, R85, R150); `current` says whether the plane was current when the upset appeared (R71). -/
def State.upsetReport (s : State) (layer plane : Fin 4) (tile : Fin 64) (group : Nat) (uncorr current : Bool) : State :=
  let act := if current then 1 else 0
  let un := if uncorr then 1 else 0
  let off := 8 * group
  if off < offCluster then
    let tine := tile.val * 4096 + group / 16
    s.reportLow Rg.ECC_PULAST (layer.val * 2 ^ 18 + tine)
      [(F.ECC_PULAST_LAYER, layer.val), (F.ECC_PULAST_PLANE, plane.val), (F.ECC_PULAST_GROUP, group % 16),
       (F.ECC_PULAST_TINE, tine), (F.ECC_PULAST_ACTIVE, act), (F.ECC_PULAST_UNCORR, un), (F.ECC_PULAST_VALID, 1)]
  else if off < offHorn then
    let kind := if off < offTap then 1 else if off < offLower then 2 else 3
    let grp := (off - (if off < offTap then offCluster else if off < offLower then offTap else offLower)) / 8
    s.reportLow Rg.ECC_RULAST (((layer.val * 64 + tile.val) * 4 + kind) * 2048 + grp)
      [(F.ECC_RULAST_LAYER, layer.val), (F.ECC_RULAST_PLANE, plane.val), (F.ECC_RULAST_TILE, tile.val),
       (F.ECC_RULAST_KIND, kind), (F.ECC_RULAST_GROUP, grp), (F.ECC_RULAST_ACTIVE, act), (F.ECC_RULAST_UNCORR, un),
       (F.ECC_RULAST_VALID, 1)]
  else
    let block := (off - offHorn) / 8
    s.reportLow Rg.ECC_HULAST (((layer.val * 64 + tile.val) * 32 + block) * 4 + plane.val)
      [(F.ECC_HULAST_LAYER, layer.val), (F.ECC_HULAST_PLANE, plane.val), (F.ECC_HULAST_TILE, tile.val),
       (F.ECC_HULAST_BLOCK, block), (F.ECC_HULAST_ACTIVE, act), (F.ECC_HULAST_UNCORR, un), (F.ECC_HULAST_VALID, 1)]

/-- The repair of one upset group from the 64 bits read from the stored slot that last filled its plane, which the read found as
`found` (R68, R72). -/
def State.repairGroup (s : State) (layer plane : Fin 4) (tile : Fin 64) (group : Nat) (u : Upset) (slot : Fin 32) (found : Flaw) : State :=
  let j := s.tileRegion layer tile
  let g := groupOf (groupKey layer tile plane group)
  let src := ckey layer tile slot.val 0 + 8 * group
  let r := (s.slotWrong [(wordKey src, found)]).readSlotWord (wordKey src) found.ecc false false
  let t := { r.2 with fab := { r.2.fab with upsets := mdel r.2.fab.upsets g } }
  if r.1 = .uncorr then
    let v := (t.upsetReport layer plane tile group true u.act).raise (Ev.PLANE_UNCORR layer.val) [j.val, plane.val, slot.val]
    if (s.plane layer j plane).st = .refilling then v else v.invalidate layer j plane
  else
    let v := { t with fab := { t.fab with planes := mputNum t.fab.planes (8 * g) 8 (mnum t.fab.slots src 8),
                                          oddPar := mput false t.fab.oddPar g false } }
    ((((v.modeStep s layer plane tile group).incF (F.ECC_PUPSET_COUNT layer.val)).upsetReport layer plane tile group false u.act).raise
      (Ev.PLANE_UPSET layer.val) [j.val, plane.val, slot.val])

/-- The repair of a group whose bits were read in the last fc, or earlier, is complete in this one (Table 2-6): its upset, and the
slot they were read from. -/
def State.repairDue (s : State) (g : Nat) : Option (Upset × Fin 32) :=
  match mfind s.fab.upsets g with
  | some u => match u.read with
    | some (r, slot) => if r + 1 ≤ s.tl.fc then some (u, slot) else none
    | none => none
  | none => none

/-- PLANE_UPSET (R69): in the fc after the one that read its 64 bits a group's repair completes. -/
def execPlaneUpset (layer plane : Fin 4) (tile : Fin 64) (group : Nat) (found : Flaw) (s : State) :
    Host.Outcome State Fault Refusal :=
  match s.repairDue (groupOf (groupKey layer tile plane group)) with
  | some (u, slot) => ok (s.repairGroup layer plane tile group u slot found)
  | none => ok s

/-! ## Shafts -/

/-- THRESH of VL_SHCFG: 0 and 1 act as 2 (Table 3-9). -/
def State.shaftThresh (s : State) : Nat := max 2 (s.f F.VL_SHCFG_THRESH)

/-- Field of a spare of a group in VL_BbGg_MAP. -/
def spareFld (b g i : Nat) : Fld := ⟨Rg.VL_BG_MAP b g, 8 * i, 8⟩

/-- The next spare of a group: the first that is neither in use nor bad (R100). -/
def State.nextSpare (s : State) (b g : Nat) : Option Nat :=
  (List.range 4).find? (fun i => s.f (spareFld b g i) < 128 && nbits (s.lanes b g).badSpares i 1 == 0)

/-- A stored slot drives a group: DRIVE in its shaft frame (R102). -/
def State.slotDrives (s : State) (ly : Fin 4) (upperB : Bool) (g slot : Nat) : Bool :=
  nbits (mnum s.fab.slots (ckey ly (Fin.ofNat 64 (g / 4)) slot
    ((if upperB then offUpper else offLower) + 256 + g % 4)) 1) 0 1 == 1

/-- The slots of one layer that drive a failed group become unrunnable (R102), with them one that becomes valid at the end of the
present fc. -/
def State.dropDriven (s : State) (ly : Fin 4) (upperB : Bool) (g : Nat) : State :=
  let j := s.tileRegion ly (Fin.ofNat 64 (g / 4))
  (List.finRange 32).foldl (fun t slot =>
    if (s.b ⟨Rg.CFG_LR_SLOTV ly.val j.val, slot.val, 1⟩ || s.fab.newSlots.contains (ly.val, j.val, slot.val))
        ∧ s.slotDrives ly upperB g slot.val then t.unrunnable ly j slot
    else t) s

/-- A group is declared failed (R102). -/
def State.failGroup (s : State) (b : Fin 3) (g : Nat) : State :=
  let t := (s.setF (F.VL_BG_STAT_FAILED b.val g) 1).raise (Ev.SHAFT_FAILED b.val) [b.val, g]
  (t.dropDriven (Fin.ofNat 4 b.val) true g).dropDriven (Fin.ofNat 4 (b.val + 1)) false g

/-- A position is declared failed (R99 to R102). -/
def State.failPosition (s : State) (b : Fin 3) (g pos : Nat) : State :=
  match (s.lanes b.val g).faill with
  | some _ => s.failGroup b g
  | none =>
    let t := (s.setLanes b.val g { s.lanes b.val g with faill := some pos }).setF (F.VL_BG_STAT_FAILLANE b.val g) pos
    match s.nextSpare b.val g with
    | some _ => t.setF (F.VL_BG_STAT_SWAPPEND b.val g) 1
    | none => t.raise (Ev.SHAFT_SPARES_GONE b.val) [b.val, g, pos]

/-- A position has moved to its spare, and the receivers still take it from the old lane: a word launched before the swap fc is
on its way (R100 steps 3 and 4). -/
def State.onOldLane (s : State) (b g pos : Nat) : Bool :=
  match (s.lanes b g).old with
  | some (p, f) => p == pos && decide (s.tl.fc < f)
  | none => false

/-- A correction of a position: counted, and counted in the window against the threshold (R98, R99). One of a lane that a spare
already replaces is counted alone. -/
def State.shaftCorrect (s : State) (b : Fin 3) (g pos : Nat) : State :=
  let n := mget 0 (s.lanes b.val g).win pos + 1
  let t := (s.incF (F.VL_BG_STAT_CORRCNT b.val g)).raise (Ev.SHAFT_CORR b.val) [b.val, g, pos]
  if s.onOldLane b.val g pos then t
  else
    let u := t.setLanes b.val g { s.lanes b.val g with win := mput 0 (s.lanes b.val g).win pos n }
    if n ≥ s.shaftThresh ∧ (s.lanes b.val g).faill ≠ some pos then u.failPosition b g pos else u

/-- What a receiver makes of the word of the present fc when lanes of it have flipped: a syndrome that names a data lane inverts
that bit, rightly or not (R98). -/
def State.receive (s : State) (key : Nat) (flip : BitVec 71) : State :=
  let w := s.shaftWord key
  let r := w.flipped flip
  let d := r.corrected
  if d = w.data then s else { s with fab := { s.fab with rx := mins s.fab.rx key { w with data := d } } }

/-- SHAFT_CORR (R98): lanes of a received word, `flip` with lane i at bit i, have changed on the way. The receiver forms the
syndrome and acts on it; a group that has failed reads 0 and its errors are no longer judged (log 100). -/
def execShaftCorr (b : Fin 3) (g : Fin 256) (flip : BitVec 71) (s : State) : Host.Outcome State Fault Refusal :=
  let t := s.receive (shKey b.val g.val) flip
  let x := ((s.shaftWord (shKey b.val g.val)).flipped flip).syndrome
  onlyIf (s.b (F.VL_BG_STAT_FAILED b.val g.val) = false) s
    (if x = 0 then t
     else match syndromePos x.toNat with
     | some pos => t.shaftCorrect b g.val pos
     | none => t.failGroup b g.val)

/-- The present fc is a swap fc of a group: a new plane becomes current in the region of its tile on either layer, or it
is a frame boundary (R100). The fc of the declaration may itself be one (log 101). -/
def State.swapFc (s : State) (b : Fin 3) (g : Nat) : Bool :=
  let t : Fin 64 := Fin.ofNat 64 (g / 4)
  let now (ly : Fin 4) : Bool := (s.region ly (s.tileRegion ly t)).curAt == s.tl.fc + 1
  now (Fin.ofNat 4 b.val) || now (Fin.ofNat 4 (b.val + 1)) || s.sched % frameFc == 0

/-- The swap of a group that is to come in the present fc: the position, and the spare it moves to. -/
def State.swapDue (s : State) (b : Fin 3) (g : Nat) : Option (Nat × Nat) :=
  match (s.lanes b.val g).faill, s.nextSpare b.val g with
  | some pos, some i => if s.b (F.VL_BG_STAT_SWAPPEND b.val g) = true ∧ s.swapFc b g = true then some (pos, i) else none
  | _, _ => none

/-- SHAFT_SWAP (R100): a declared position moves to the next spare: the launching side drives the spare too from the present fc s,
the receivers take it from fc s + 3 on, and until then the code goes on correcting the old lane. The position's count in the
running window starts again at 0 (log 102), and a group that has meanwhile failed swaps all the same (log 103). -/
def execShaftSwap (b : Fin 3) (g : Fin 256) (s : State) : Host.Outcome State Fault Refusal :=
  match s.swapDue b g.val with
  | some (pos, i) =>
    ok (((((s.setF (spareFld b.val g.val i) (128 + pos)).setF (F.VL_BG_STAT_SWAPPEND b.val g.val) 0).setF
          (F.VL_BG_STAT_SPARES b.val g.val) (s.f (F.VL_BG_STAT_SPARES b.val g.val) - 1)).setLanes b.val g.val
          { s.lanes b.val g.val with faill := none, win := mput 0 (s.lanes b.val g.val).win pos 0, old := some (pos, s.tl.fc + 3) }).raise
        (Ev.SHAFT_SWAP b.val) [b.val, g.val, pos])
  | none => ok s

/-- CORRECTION_WINDOW (R99, R352): a 4,096-fc window begins, with no correction in it. -/
def execCorrectionWindow (s : State) : Host.Outcome State Fault Refusal :=
  onlyIf (s.sched % 4096 = 0) s s.newWindow

/-! ## Counter clears -/

/-- What hardware adds to a count in the register-bus cycle of its clear, which the clear leaves standing (R20, R75); `same` lists
counts by index. -/
def metAt (same : List (Nat × Nat)) (i : Nat) : Nat :=
  match same.find? (fun e => e.1 == i) with
  | some e => e.2
  | none => 0

/-- A count is cleared by a write: it holds what was added to it in that cycle, which it already counts (R20). -/
def State.clearCount (s : State) (x : Fld) (n : Nat) : State := s.setF x (min n (s.f x))

/-- VL_SHCLR (R103): a boundary's correction counts clear; those of the cycle are listed by 256 b + g. -/
def execVlShclr (who : Who) (v : CountClear) (s : State) : Host.Outcome State Fault Refusal :=
  ok (s.onBus who Rg.VL_SHCLR v.word (fun t =>
    (List.range 3).foldl (fun t b =>
      if nbits v.word.toNat b 1 = 1 then
        (List.range 256).foldl (fun t g => t.clearCount (F.VL_BG_STAT_CORRCNT b g) (metAt v.same (shKey b g))) t
      else t) t))

/-- ECC_PUCLR (R74, R75): plane-upset counts clear; the repairs of the cycle are listed by layer. -/
def execEccPuclr (who : Who) (v : CountClear) (s : State) : Host.Outcome State Fault Refusal :=
  ok (s.onBus who Rg.ECC_PUCLR v.word (fun t =>
    (List.range 4).foldl (fun t n =>
      if nbits v.word.toNat n 1 = 1 then t.clearCount (F.ECC_PUPSET_COUNT n) (metAt v.same n) else t) t))

/-- ECC_HCCLR (R150): coefficient-correction counts clear; the corrections of the cycle are listed by layer. -/
def execEccHcclr (who : Who) (v : CountClear) (s : State) : Host.Outcome State Fault Refusal :=
  ok (s.onBus who Rg.ECC_HCCLR v.word (fun t =>
    (List.range 4).foldl (fun t n =>
      if nbits v.word.toNat n 1 = 1 then t.clearCount (F.ECC_HCCOR_COUNT n) (metAt v.same n) else t) t))

end Sys2Proof.Machine
end

