-- ==== Sys2Proof/Machine/Sensors.lean ====
section
/-!
DEFINITION. Sys2Proof/Machine/Sensors.lean: temperature sensors as other blocks see them: dies, readings, the hottest of a die
(R423 to R426).
-/
namespace Sys2Proof.Machine
open Sys2Proof

/-- Die of an on-die sensor, 0 to 9 for B, M, C1, L1 to C4, L4 (Table 17-1). -/
def sensorDie (x : Nat) : Nat :=
  if x < 4 then 0
  else if x < 8 then 1
  else let y := x - 8; 2 + 2 * (y / 13) + if y % 13 < 4 then 0 else 1

/-- Sensors of a die. -/
def dieSensors (die : Nat) : List Nat := (List.range 60).filter (fun x => sensorDie x == die)

/-- STALE, BROKEN and TEMP of a sensor, 60 RD_A and 61 RD_B. -/
def staleOf (x : Nat) : Fld := if x < 60 then F.THERM_S_STALE x else F.THERM_RD_STALE (x - 60)
def brokenOf (x : Nat) : Fld := if x < 60 then F.THERM_S_BROKEN x else F.THERM_RD_BROKEN (x - 60)
def tempOf (x : Nat) : Fld := if x < 60 then F.THERM_S_TEMP x else F.THERM_RD_TEMP (x - 60)

/-- Bit of a sensor in THERM_BROKEN_LO and THERM_BROKEN_HI. -/
def brokenBit (x : Nat) : Fld :=
  if x < 32 then ⟨Rg.THERM_BROKEN_LO, x, 1⟩ else ⟨Rg.THERM_BROKEN_HI, x - 32, 1⟩

/-- A reading held in a register, 1/64 °C. -/
def State.tempAt (s : State) (x : Nat) : Int := sgn 16 (s.f (tempOf x))

/-- Nothing known of a sensor yet. -/
def sensor0 : Sensor := { prev := none, bad := false, seen := false }

def State.sensor (s : State) (x : Nat) : Sensor := mget sensor0 s.thm.sens x

def State.setSensor (s : State) (x : Nat) (v : Sensor) : State :=
  { s with thm := { s.thm with sens := mput sensor0 s.thm.sens x v } }

/-- Sound sensors of a die that have had a valid reading. -/
def State.sound (s : State) (die : Nat) : List Nat :=
  (dieSensors die).filter (fun x => !s.b (brokenOf x) && (s.sensor x).seen)

/-- The highest of some readings. -/
def State.hottest (s : State) (l : List Nat) : Option Int :=
  l.foldl (fun a x => match a with | some m => some (max m (s.tempAt x)) | none => some (s.tempAt x)) none

/-- m of R426. -/
def State.dieTemp (s : State) (die : Nat) : Option Int := s.hottest (s.sound die)

/-- The reading of a die as an event carries it: 151 °C where every sensor is broken (R424, R438). -/
def State.dieReading (s : State) (die : Nat) : Nat := unsgn 16 ((s.dieTemp die).getD 9664)

end Sys2Proof.Machine
end

