-- ==== Sys2Proof/Machine/Rinom.lean ====
section
/-!
DEFINITION. Sys2Proof/Machine/Rinom.lean: the timekeeper's tick, its states, its temperature model, its references and
its wall time (R247 to R263).
-/
namespace Sys2Proof.Machine
open Sys2Proof

/-- Replace Rinom. -/
def State.modRin (s : State) (h : Rinom → Rinom) : State := { s with rin := h s.rin }

/-- Rinom's state, by the codes of Table 8-3: 0 ACQUIRING, 1 LOCKED, 2 HOLDOVER, 3 FREERUN. -/
def State.tkState (s : State) : Nat := s.f F.TK_STATE_STATE

/-- What an event of Rinom carries: state, reference used, TEE, and what else applies (R272). -/
def State.rinPay (s : State) (extra : List Nat) : List Nat :=
  [s.tkState, s.f F.TK_STATE_REFSEL, unsgn 32 s.rin.tee] ++ extra

/-- Operating time, 2⁻⁸ h. -/
def State.optime (s : State) : Nat := s.f F.PWR_OPTIME_OPTIME

/-- Rinom is held in reset: VDD_TK is below its reset level (R245). -/
def State.rinomOff (s : State) : Bool := nbits (s.f F.PWR_STAT_RAILOK) 1 1 == 0

/-! ## The sealed log (R246) -/

/-- Bytes of its ring. -/
def sealRing : Nat := 229376

/-- Drop the oldest records until a record of `n` bytes finds room. -/
def dropSeal (n : Nat) : List SealRec → List SealRec
  | [] => []
  | r :: rs => if ((r :: rs).map (fun x => x.bytes.length)).foldl (· + ·) n ≤ sealRing then r :: rs else dropSeal n rs

/-- Write a record behind the newest one, over the oldest as far as it needs. -/
def State.sealRcd (s : State) (r : Rcd) : State :=
  let bs := r.bytes s.rin.logSeq (s.f F.PWR_PCC_COUNT) s.optime
  let e : SealRec :=
    { off := match s.rin.log.getLast? with | some x => (x.off + x.bytes.length) % sealRing | none => 0
      bytes := bs ++ List.replicate (r.size - bs.length) 0 }
  s.modRin (fun x => { x with log := dropSeal e.bytes.length x.log ++ [e], logSeq := satAdd 32 x.logSeq 1 })

/-- The record of a state change, refit, report or model reset: the spec states its header, and neither its severity, TYPE and
optional fields nor its payload, which are free values (log 24). -/
def State.sealFree (s : State) : State :=
  let h := s.draw 32
  let n := nbits h.1.toNat 16 8 % 240
  let d := h.2.draw (32 * n)
  d.2.sealRcd
    { sev := [Sev.information, .correctable, .warning, .critical, .fatal].getD (nbits h.1.toNat 24 3 % 5) .information
      type := nbits h.1.toNat 0 12, cls := 0x11, desc := true, src := 0
      wall := if nbits h.1.toNat 12 1 = 1 then s.wall else none
      time := if nbits h.1.toNat 13 1 = 1 then s.stamp else none
      last := s.fullTime, rep := 0
      payload := (List.range n).map (fun i => BitVec.ofNat 32 (d.1.toNat / 2 ^ (32 * i))) }

/-- The newer of the two copies of the snapshot. -/
def Rinom.snap (r : Rinom) : Option SealSnap :=
  match r.snaps.get 0, r.snaps.get 1 with
  | some a, some b => if a.gen < b.gen then some b else some a
  | some a, none => some a
  | none, x => x

/-- Write a snapshot over the older copy, with the next generation number. -/
def Rinom.saveSnap (r : Rinom) (cfg : RinCfg) (model : TempModel) : Rinom :=
  let gen := match r.snap with | some x => x.gen + 1 | none => 1
  let old : Fin 2 := match r.snaps.get 0, r.snaps.get 1 with
    | some a, some b => if a.gen < b.gen then 0 else 1
    | some _, none => 1
    | none, _ => 0
  { r with snaps := r.snaps.set old.val (some { gen := gen, cfg := cfg, model := model }) old.isLt }

/-- Save a configuration beside the model saved last. -/
def Rinom.saveCfg (r : Rinom) (c : RinCfg) : Rinom :=
  r.saveSnap c (match r.snap with | some x => x.model | none => TempModel.empty)

/-- Save the model beside the configuration saved last. -/
def Rinom.saveModel (r : Rinom) : Rinom := r.saveSnap (match r.snap with | some x => x.cfg | none => RinCfg.shipped) r.model

/-! ## The oscillator temperature (R254) -/

/-- The hottest sound sensor of the base die, in 1/64 °C. -/
def State.baseTemp (s : State) : Option Int := s.dieTemp 0

/-- The remote input SET_MODEL names, where it is neither broken nor off (R254, R433). -/
def State.oscInput (s : State) : Option Nat :=
  let x := s.rin.cfg.tempSrc
  if x < 2 ∧ s.b (F.THERM_RD_BROKEN x) = false ∧ (s.f (F.THERM_RDCFG_MODE x) = 1 ∨ s.f (F.THERM_RDCFG_MODE x) = 2) then some x else none

/-- Oscillator temperature in 1/64 °C: the source SET_MODEL names, the base die where it cannot serve (R254, R433). -/
def State.oscTemp (s : State) : Int :=
  match s.oscInput with
  | some x => sgn 16 (s.f (F.THERM_RD_TEMP x))
  | none => s.baseTemp.getD 0

/-- The temperature comes from a sound sensor. -/
def State.oscSound (s : State) : Bool := s.oscInput.isSome || s.baseTemp.isSome

/-- The temperature source is in calibration. -/
def State.oscStale (s : State) : Bool :=
  match s.oscInput with
  | some x => s.b (F.THERM_RD_STALE x)
  | none => (List.range 4).any (fun i => s.b (F.THERM_S_STALE i))

/-- A threshold field in 1/64 °C: 0 and 1 act as 2, above 16 as 16 (R468). -/
def threshold (v : Nat) : Nat := 64 * min 16 (max 2 v)

/-! ## The temperature model (R254 to R258) -/

/-- A bin never fed. -/
def bin0 : Bin := { mean := 0, var := 0, count := 0, upd := 0 }

/-- The whole square root. -/
def isqrt (n : Nat) : Nat := (List.range 48).reverse.foldl (fun r b => if (r + 2 ^ b) * (r + 2 ^ b) ≤ n then r + 2 ^ b else r) 0

/-- Residual of a bin: the standard deviation of its samples (R254). -/
def Bin.resid (b : Bin) : Nat := isqrt b.var

/-- The bin of a temperature in 1/64 °C: bin i covers i − 40 °C to i − 39 °C. -/
def binOf (temp : Int) : Nat := min 159 ((temp + 2560) / 64).toNat

/-- A bin is populated from 16 samples (R255). -/
def TempModel.pop (m : TempModel) (i : Nat) : Bool := decide (16 ≤ (mget bin0 m.bins i).count)

/-- Populated bins. -/
def TempModel.populated (m : TempModel) : Nat := (m.bins.filter (fun e => decide (16 ≤ e.2.count))).length

/-- Seven days of operating time. -/
def week : Nat := 43008

/-- A bin last updated more than 7 days ago is stale (R257). -/
def TempModel.stale (m : TempModel) (now i : Nat) : Bool := decide ((mget bin0 m.bins i).upd + week < now)

/-- The last refit found a bin populated. -/
def TempModel.fitted (m : TempModel) (i : Nat) : Bool := (mfind m.fit i).isSome

/-- The bin that serves for bin `i`: a fresh one of the last refit within 2 °C in place of a stale one (R257). -/
def TempModel.serve (m : TempModel) (now i : Nat) : Nat :=
  if m.stale now i then
    ([i - 1, i + 1, i - 2, i + 2].find? (fun j => m.fitted j && !m.stale now j)).getD i
  else i

/-- Effective residual of a bin: a stale one's grows with the aging uncertainty (R257). -/
def State.effResid (s : State) (i : Nat) : Nat :=
  let b := mget bin0 s.rin.model.bins i
  let age := s.optime - b.upd
  if week < age then b.resid + s.rin.cfg.aging * (age - week) / 6144 else b.resid

/-- The model is VALID (R257). -/
def State.modelValid (s : State) : Bool := s.f F.TK_STATE_MODELST == 2

/-- Rinom steers by a VALID model: not while XI1's monitor is tripped (R258, R407). -/
def State.modelServes (s : State) : Bool := s.modelValid && s.b F.CLK_OSCSTAT_XI1OK

/-- What the aging slope adds to a mean between two operating times. -/
def TempModel.aged (m : TempModel) (now : Nat) : Int := m.slope * ((now : Int) - m.base) / 6144

/-- The interpolation of the last refit at a temperature: between the populated bins on both sides, none outside them (R256 to
R258). -/
def TempModel.inside (m : TempModel) (now : Nat) (t : Int) : Option Int :=
  let i := binOf t
  let lo := ((List.range (i + 1)).reverse).find? (fun j => m.fitted j)
  let hi := ((List.range 160).drop (i + 1)).find? (fun j => m.fitted j)
  let val (j : Nat) : Int := (mget bin0 m.fit (m.serve now j)).mean
  match lo, hi with
  | some a, some b =>
    let ta : Int := (a : Int) * 64 - 2560
    some (val a + (val b - val a) * (t - ta) / (((b : Int) - a) * 64))
  | some a, none => if a = i then some (val a) else none
  | none, _ => none

/-- The cubic of the last refit at a temperature in 1/64 °C. -/
def TempModel.outside (m : TempModel) (t : Int) : Int :=
  m.cubic.get 0 + m.cubic.get 1 * t / 64 + m.cubic.get 2 * t ^ 2 / 4096 + m.cubic.get 3 * t ^ 3 / 262144

/-- The mean offset of the last hour in LOCKED (R258). -/
def TempModel.hourMean (m : TempModel) : Int := if m.last = [] then 0 else m.last.foldl (· + ·) 0 / (m.last.length : Int)

/-- Holdover steers outside the populated bins (R258). -/
def State.extrapolates (s : State) : Bool := s.modelServes && (s.rin.model.inside s.optime s.oscTemp).isNone

/-- The predicted offset of XI1 (R258, R407): of a VALID model its value at the present temperature with the aging term, else
the mean of the last hour in LOCKED. -/
def State.predict (s : State) : Int :=
  let m := s.rin.model
  if s.modelServes then (m.inside s.optime s.oscTemp).getD (m.outside s.oscTemp) + m.aged s.optime else m.hourMean

/-- The residual a tick of HOLDOVER adds to the bound (R258): under ASSIST, ASSISTERR; while the model is not VALID,
0.1 ppb; else the effective residual of the bin used, a free value where the present bin is not populated and the spec names no one
bin (log 22). -/
def State.tickResid (s : State) : Nat × State :=
  if s.b F.TK_STATE_ASSIST then (s.rin.cfg.assistErr, s)
  else if !s.modelServes then (102400, s)
  else
    let i := s.rin.model.serve s.optime (binOf s.oscTemp)
    if s.rin.model.fitted i then (s.effResid i, s) else
      let d := s.draw 32
      (d.1.toNat, d.2)

/-- The holdover bound B in 2⁻⁸ ns (R258). -/
def State.bound (s : State) : Nat :=
  let r := s.rin
  r.tee0 + 5120 + (3 * r.holdSum * 2764800 + r.cfg.aging * r.holdTicks ^ 2) / 176947200000

/-- A bin after a sample: mean and variance move with weight 1/64, or 1/count while the count is below 64 (R255, log 22). -/
def Bin.fed (b : Bin) (x : Int) (now : Nat) : Bin :=
  let w : Int := if b.count + 1 < 64 then (b.count : Int) + 1 else 64
  let mean := b.mean + (x - b.mean) / w
  { mean := mean, var := ((b.var : Int) + ((x - b.mean) * (x - mean) - b.var) / w).toNat, count := satAdd 32 b.count 1, upd := now }

/-- MODEL_SAMPLE (R255): one frequency sample of a 16 s interval in LOCKED with no slew, corrected to the aging baseline (R254); one
more than 4 residuals from the mean of a bin of two samples or more is rejected (log 22). -/
def execModelSample (sample temp : Int) (s : State) : Host.Outcome State Fault Refusal :=
  let i := binOf temp
  let m := s.rin.model
  let b := mget bin0 m.bins i
  let x := sample - m.aged s.optime
  let reject : Bool := decide (2 ≤ b.count) && decide (4 * b.resid < (x - b.mean).natAbs)
  let kept := { m with last := (sample :: m.last).take 225 }
  onlyIf (s.rinomOff = false ∧ s.tkState = 1 ∧ s.b F.TK_STATE_SLEW = false) s
    (s.modRin (fun r => { r with model :=
      if reject then kept else { kept with bins := mput bin0 m.bins i (b.fed x s.optime), learn := m.learn + 16 } }))

/-- TK_MODEL_REFIT (R256): a refit ends. Its interpolation is over the bins now populated, their means carried to the new baseline;
the aging slope and the cubic are free values, as the spec names no method of fitting (log 22). -/
def execTkModelRefit (s : State) : Host.Outcome State Fault Refusal :=
  let d := s.draw 320
  let c (i : Nat) : Int := sgn 64 (nbits d.1.toNat (64 * i) 64)
  let t := d.2.modRin (fun r =>
    let bins := r.model.bins.map (fun e => (e.1, { e.2 with mean := e.2.mean + r.model.aged s.optime }))
    let m := { r.model with
      bins := bins, fit := bins.filter (fun e => decide (16 ≤ e.2.count)), cubic := #v[c 0, c 1, c 2, c 3],
      slope := sgn 32 (nbits d.1.toNat 256 32), base := s.optime, fit48 := decide (172800 ≤ r.model.learn) }
    { r with model := m, refit := false, calCnt := satAdd 16 r.calCnt 1, calTime := s.optime }.saveModel)
  onlyIf (s.rinomOff = false ∧ s.rin.refit = true) s (t.sealFree.raise Ev.TK_MODEL_REFIT (t.rinPay []))

/-- MODEL_LOG_WRITE (R256): once per hour in LOCKED. -/
def execModelLogWrite (s : State) : Host.Outcome State Fault Refusal :=
  onlyIf (s.rinomOff = false ∧ s.tkState = 1) s (s.modRin Rinom.saveModel)

/-! ## References (R247 to R249) -/

/-- A reference input. -/
def Rinom.ref (r : Rinom) (i : Fin 4) : RefIn := r.refs.get i

/-- Change a reference input. -/
def State.modRef (s : State) (i : Fin 4) (h : RefIn → RefIn) : State :=
  s.modRin (fun r => { r with refs := r.refs.set i.val (h (r.ref i)) i.isLt })

/-- A reference becomes qualified. -/
def State.qualify (s : State) (i : Fin 4) : State :=
  if (s.rin.ref i).qual then s
  else (s.modRef i (fun x => { x with qual := true, stay := 0 })).raise Ev.TK_REF_QUAL (s.rinPay [i.val])

/-- A reference is disqualified for a reason of Table 9-8; one that was not qualified only starts its qualification anew. -/
def State.disqualify (s : State) (i : Fin 4) (why : Nat) : State :=
  let t := s.modRef i (fun x => { x with qual := false, good := 0, stay := 0, dis := if x.qual ∨ why = 5 then why else x.dis })
  if (s.rin.ref i).qual then t.raise Ev.TK_REF_DISQUAL (s.rinPay [i.val]) else t

/-- Ticks of good behaviour after which an input qualifies (Table 9-1); PPS_TOD counts labelled edges instead. -/
def qualTicks (i : Fin 4) : Nat :=
  match i.val with
  | 0 => 256
  | 1 => 160
  | 2 => 0
  | _ => 160

/-- One input's tick: whether its signal is present, and the disqualifying condition that holds, by its code in Table 9-8, 0 none. A
disabled input or one in bad order is disqualified, time enough in good order qualifies. -/
def State.refTick (s : State) (i : Fin 4) (present : Bool) (bad : Nat) : State :=
  let t := s.modRef i (fun x => { x with present := present, good := if bad = 0 then x.good + 1 else 0,
                                         stay := if x.qual then x.stay + 1 else 0 })
  if s.rin.cfg.prio.get i = 0 then t.disqualify i 5
  else if bad ≠ 0 then t.disqualify i bad
  else
    let x := t.rin.ref i
    let enough : Bool := if i = 2 then decide (10 ≤ t.rin.ppsCount) else decide (qualTicks i ≤ x.good)
    if enough then t.qualify i else t

/-- A clockClass PTP may have: 6 and 7, and the holdover classes where SET_REF accepts them (Table 9-1). -/
def RinCfg.classOk (c : RinCfg) (cls : Nat) : Bool :=
  cls == 6 || cls == 7 || (c.flags % 2 == 1 && (cls == 135 || cls == 165))

/-- What PTP's messages of a tick leave Rinom with: another grandmaster starts the qualification anew. -/
def State.ptpHear (s : State) (m : PtpMeas) : State :=
  let a := if s.sdsOn then m.announce.filter (fun x => x.domain == s.rin.cfg.domain) else none
  let other : Bool := match a, s.rin.ann with
    | some x, some y => x.gm != y.gm
    | _, _ => false
  let t := s.modRin (fun r => { r with
    ann := match a with | some x => some x | none => r.ann
    annAge := if a.isSome then 0 else r.annAge + 1
    syncAge := if m.sync && s.sdsOn then 0 else r.syncAge + 1 })
  if other then t.modRef 0 (fun x => { x with good := 0 }) else t

/-- PTP's tick (Table 9-1): 3 missed Announce intervals or no Sync for 1 s, a clockClass outside the set, a path delay out of
range. -/
def State.ptpTick (s : State) (m : PtpMeas) : State :=
  let t := s.ptpHear m
  match t.rin.ann with
  | none => t.refTick 0 false 1
  | some a =>
    let lost : Bool := !t.sdsOn || decide (3 * a.interval < t.rin.annAge) || decide (16 ≤ t.rin.syncAge)
    t.refTick 0 (!lost)
      (if lost then 1 else if t.rin.cfg.classOk a.cls = false then 3 else if m.delay < 0 ∨ 100000 < m.delay then 2 else 0)

/-- A quality level of SSU-A or better. -/
def qualityOk (q : Quality) : Bool := q != .lower && q != .dnu

/-- SYNCE's tick (Table 9-1): no ESMC PDU for 5 s or no lock, a quality level below SSU-A, a frequency out of range. -/
def State.synceTick (s : State) (m : SynceMeas) : State :=
  let t := s.modRin (fun r => { r with
    ql := match m.esmc with | some q => some q | none => r.ql
    qlAge := if m.esmc.isSome then 0 else r.qlAge + 1 })
  let on := t.sdsOn && m.lock
  t.refTick 1 on
    (match t.rin.ql with
     | none => 1
     | some q => if on = false ∨ 80 ≤ t.rin.qlAge then 1 else if qualityOk q = false then 3 else if 4600 < m.freq.natAbs then 2 else 0)

/-- PPS_TOD's tick (Table 9-1): two consecutive edges are missing once 2 s have passed since the latest. -/
def State.ppsTick (s : State) : State :=
  let t := s.modRin (fun r => { r with ppsAge := r.ppsAge.map (· + 1) })
  let lost : Bool := match t.rin.ppsAge with | some n => decide (33 ≤ n) | none => true
  (if lost then t.modRin (fun r => { r with ppsCount := 0 }) else t).refTick 2 (!lost) (if lost then 1 else 0)

/-- REF10M's tick (Table 9-1). -/
def State.freqTick (s : State) (m : FreqMeas) : State :=
  s.refTick 3 m.signal (if m.signal = false then 1 else if 10000 < m.freq.natAbs then 2 else 0)

/-- The better of two inputs of a kind: lower priority number, then lower input number. -/
def State.betterRef (s : State) (a : Option (Fin 4)) (i : Fin 4) : Option (Fin 4) :=
  if !(s.rin.ref i).qual ∨ s.rin.cfg.prio.get i = 0 then a
  else match a with
    | none => some i
    | some j => if s.rin.cfg.prio.get i < s.rin.cfg.prio.get j then some i else some j

/-- The reference used of a kind (R249): the one in use stays while it is qualified, until an equal priority with a lower number, or
one of higher priority that has stayed qualified for WTR. -/
def State.chooseRef (s : State) (ins : List (Fin 4)) (cur : Option (Fin 4)) : Option (Fin 4) :=
  match cur with
  | none => ins.foldl s.betterRef none
  | some c =>
    if (s.rin.ref c).qual = false ∨ s.rin.cfg.prio.get c = 0 then ins.foldl s.betterRef none
    else (ins.filter (fun i => decide (s.rin.cfg.prio.get c ≤ s.rin.cfg.prio.get i ∨ s.rin.cfg.wtr * 16 ≤ (s.rin.ref i).stay))).foldl
      s.betterRef none

/-- The time reference in use, by TK_STATE.REFSEL: 1 PTP, 3 PPS_TOD. -/
def State.timeRef (s : State) : Option (Fin 4) :=
  match s.f F.TK_STATE_REFSEL with
  | 1 => some 0
  | 3 => some 2
  | _ => none

/-- The frequency reference in use, by TK_STATE.FREQSEL: 1 SYNCE, 2 REF10M. -/
def State.freqRef (s : State) : Option (Fin 4) :=
  match s.f F.TK_STATE_FREQSEL with
  | 1 => some 1
  | 2 => some 3
  | _ => none

/-- Choose both references; answers whether the time reference switched from one to another. -/
def State.selectRefs (s : State) : Bool × State :=
  let old := s.timeRef
  let new := s.chooseRef [0, 2] old
  let frq := s.chooseRef [1, 3] s.freqRef
  let t := (s.setF F.TK_STATE_REFSEL (match new with | some i => i.val + 1 | none => 0)).setF F.TK_STATE_FREQSEL
    (match frq with | some i => (i.val + 1) / 2 | none => 0)
  let sw : Bool := old.isSome && new.isSome && old != new
  (sw, if sw then t.raise Ev.TK_REF_SWITCH (t.rinPay [(old.getD 0).val, (new.getD 0).val]) else t)

/-- Fc of a second, in sixteenths. -/
def second16 : Nat := 15728640000

/-- PPS_IN (R247, R248): a rising edge, `gap` sixteenths of an fc after the one before. A run of labelled edges goes on with
one that comes 1 s ± 1 µs after an edge that was labelled. -/
def execPpsIn (gap : Nat) (s : State) : Host.Outcome State Fault Refusal :=
  let onTime : Bool := decide (second16 - 15728 ≤ gap ∧ gap ≤ second16 + 15728)
  let n := (2 * gap + second16) / (2 * second16)
  let t := s.modRin (fun r => { r with
    ppsCount := if onTime ∧ r.ppsOpen = false then r.ppsCount else 0
    ppsSecs := r.ppsSecs + n, ppsOpen := true, ppsAge := some 0 })
  onlyIf (s.rinomOff = false) s (if 3 ≤ n then t.disqualify 2 1 else t)

/-- ZDA (R247): the sentence that labels the edge before it, ending `endMs` ms after that edge. A sentence outside its window, or a
label that disagrees with the count of edges since the last label, disqualifies. -/
def execZda (utc endMs : Nat) (s : State) : Host.Outcome State Fault Refusal :=
  let inTime : Bool := s.rin.ppsAge.isSome && decide (10 ≤ endMs ∧ endMs ≤ 900)
  let agrees : Bool := match s.rin.ppsLabel with | some l => utc == l + s.rin.ppsSecs | none => true
  let t := s.modRin (fun r => { r with
    ppsCount := if agrees then (if r.ppsOpen then r.ppsCount + 1 else r.ppsCount) else 0
    ppsLabel := some utc, ppsSecs := 0, ppsOpen := false })
  let bad (u : State) : State := (u.modRin (fun r => { r with ppsCount := 0 })).disqualify 2 4
  onlyIf (s.rinomOff = false) s (if inTime = false then bad s else if agrees then t else bad t)

/-! ## Wall time (R261, R262) -/

/-- ATOFF is set when wall time leaves the relation of R220 by more than half an fc (R262). -/
def State.checkAtOff (s : State) : State :=
  let e : Int := s.tl.e0 + ((s.tl.fc : Int) - s.tl.relFc) + s.tl.offset
  if s.tl.released ∧ 3125 < 2 * (s.gps - e * 3125).natAbs ∧ s.b F.TK_STATE_ATOFF = false then
    let t := s.setF F.TK_STATE_ATOFF 1
    t.raise Ev.TK_ATOFF (t.rinPay [])
  else s

/-- A TAI time as a TIME_STEP record carries it: seconds in two words, nanoseconds. -/
def taiWords (t : Int) : List Word :=
  [BitVec.ofInt 32 (t / tsec), BitVec.ofInt 32 (t / tsec / 2 ^ 32), BitVec.ofInt 32 (t % tsec / 3072)]

/-- Wall time steps, or a leap second changes the UTC offset: the records, and TK_TIME_STEP (R261, Table 22-2). -/
def State.timeStep (s : State) (new : Int) (cause : Nat) : State :=
  let old := s.rin.tai
  let t := s.modRin (fun r => { r with tai := new, wallOk := true, nstep := r.nstep + 1 })
  let pay := taiWords old ++ taiWords new ++ [BitVec.ofNat 32 cause]
  let u := (t.blockRecord .warning 0x402 0x11 pay).sealRcd
    { sev := .warning, type := 0x402, cls := 0x11, desc := true, src := 0, wall := t.wall, time := t.stamp, last := t.fullTime,
      rep := 0, payload := pay }
  (u.raise Ev.TK_TIME_STEP (u.rinPay ((taiWords old ++ taiWords new).map (fun w => w.toNat)))).checkAtOff

/-- The label of the time reference in a tick: the first sets wall time; one that is whole seconds off for 16 ticks
steps it. -/
def State.labelTick (s : State) (label : Option Int) : State :=
  match label with
  | none => s.modRin (fun r => { r with labelTicks := 0 })
  | some l =>
    if s.timeRef = none then s
    else if s.rin.wallOk = false then
      (s.modRin (fun r => { r with tai := l, wallOk := true, labelTicks := 0 })).checkAtOff
    else
      let secs := (2 * (l - s.rin.tai) + tsec) / (2 * tsec)
      if secs = 0 then s.modRin (fun r => { r with labelTicks := 0 })
      else if s.rin.labelTicks + 1 < 16 then s.modRin (fun r => { r with labelTicks := r.labelTicks + 1 })
      else (s.modRin (fun r => { r with labelTicks := 0 })).timeStep (s.rin.tai + secs * tsec) 1

/-- The UTC offset in force: that of PTP Announce while PTP is used, else that of SET_LEAP (R263). -/
def State.utcOfs (s : State) : Int := if s.timeRef = some 0 then s.rin.ptpUtc.getD s.rin.cfg.utc else s.rin.cfg.utc

/-- The pending leap second, 0 none, 1 insert, 2 delete, and the day at whose end it comes: as PTP Announce or SET_LEAP names it
(R261). -/
def State.leapNow (s : State) : Nat × Nat := if s.rin.ptpLeap.1 ≠ 0 then s.rin.ptpLeap else (s.rin.cfg.leap, s.rin.cfg.leapDay)

/-- UTC in seconds, by wall time and the UTC offset. -/
def State.utcSec (s : State) : Int := s.rin.tai / tsec - s.utcOfs

/-- The pending leap second is due: the end of its UTC day, a second later for an insertion, earlier for a deletion. -/
def State.leapDue (s : State) : Bool :=
  let last : Int := ((s.leapNow.2 : Int) + 1) * 86400
  s.rin.wallOk && ((s.leapNow.1 == 1 && decide (last + 1 ≤ s.utcSec)) || (s.leapNow.1 == 2 && decide (last - 1 ≤ s.utcSec)))

/-- The UTC offset and the leap flags in TK_UTC. -/
def State.showUtc (s : State) : State :=
  s.report Rg.TK_UTC [(F.TK_UTC_LEAP61, if s.leapNow.1 = 1 then 1 else 0),
    (F.TK_UTC_LEAP59, if s.leapNow.1 = 2 then 1 else 0), (F.TK_UTC_UTCOFS, unsgn 16 s.utcOfs)]

/-- The leap second passes: the offsets that name it change. -/
def Rinom.leap (r : Rinom) (kind day : Nat) : Rinom :=
  let d : Int := if kind = 1 then 1 else -1
  let q := if r.ptpLeap.1 = 0 then r else { r with ptpUtc := r.ptpUtc.map (· + d), ptpLeap := (0, 0) }
  if r.cfg.leap = kind ∧ r.cfg.leapDay = day then
    let c := { q.cfg with utc := q.cfg.utc + d, leap := 0 }
    { q with cfg := c }.saveCfg c
  else q

/-- LEAP_SECOND (R261): the UTC offset changes; wall time in TAI does not. -/
def execLeapSecond (s : State) : Host.Outcome State Fault Refusal :=
  onlyIf (s.rinomOff = false ∧ s.leapDue = true) s
    ((s.modRin (fun r => r.leap s.leapNow.1 s.leapNow.2)).timeStep s.rin.tai 2)

/-! ## States (R250 to R253) -/

/-- |TEE| is within a multiple of LOCKLIM. -/
def Rinom.within (r : Rinom) (n : Nat) : Bool := decide (r.tee.natAbs ≤ n * r.cfg.lockLim * 256)

/-- The state the rows of Table 9-2 lead to in this tick. `sw`: a switch of time reference with a phase difference above
LOCKLIM happened. -/
def State.nextTk (s : State) (sw : Bool) (forced : Option Nat) : Nat :=
  let st := s.tkState
  let ref := s.timeRef.isSome
  let r := s.rin
  if forced = some 2 ∧ st ≠ 3 then 3
  else if forced = some 1 ∧ st = 1 then 2
  else if 2 ≤ st ∧ ref ∧ r.force = 0 then 0
  else if st ≤ 1 ∧ !ref ∧ r.locked then 2
  else if st = 0 ∧ !ref ∧ !r.locked then 3
  else if st = 2 ∧ r.cfg.holdLim * 256 < s.bound then 3
  else if st = 1 ∧ (16 ≤ r.hiTicks ∨ sw) then 0
  else if st = 0 ∧ r.cfg.lockQual * 16 ≤ r.okTicks then 1
  else st

/-- The event of a state. -/
def tkEvent (st : Nat) : Nat :=
  match st with
  | 0 => Ev.TK_ACQUIRING
  | 1 => Ev.TK_LOCKED
  | 2 => Ev.TK_HOLDOVER
  | _ => Ev.TK_FREERUN

/-- Rinom enters a state. -/
def State.enterTk (s : State) (st : Nat) : State :=
  let t := (s.setF F.TK_STATE_STATE st).setF F.TL_STATUS_TKSTATE st
  let u := (t.modRin (fun r => { r with
      stateTicks := 0, hiTicks := 0, okTicks := 0, locked := r.locked || st == 1, slewAsk := false,
      tee0 := if st = 2 then r.tee.natAbs else r.tee0, holdTicks := 0, holdSum := 0, boundHigh := false })).sealFree
  let u := if st = 2 then u.modRin Rinom.saveModel else u
  (u.raise (tkEvent st) (u.rinPay [])).autoRelease

/-- The phase error that slewing removes, in 2⁻⁸ ns: TEE against a time reference in use, else what a release or a fallback has left
(R220, R227, R229). -/
def State.slewErr (s : State) : Int := if s.tkState ≤ 1 ∧ s.timeRef.isSome = true then s.rin.tee else s.rin.owed

/-- Slewing begins and ends (R227, R252). -/
def State.slewTick (s : State) : State :=
  let st := s.tkState
  let within : Bool := decide (s.slewErr.natAbs ≤ s.rin.cfg.lockLim * 256)
  let want : Bool := (st == 0 || (st == 1 && s.rin.slewAsk) || 2 ≤ st) && !within
  let on := s.b F.TK_STATE_SLEW
  if want ∧ on = false then
    ((s.setF F.TK_STATE_SLEW 1).setF F.TL_STATUS_SLEWING 1).raise Ev.AT_SLEW_START (s.timed [])
  else if on = true ∧ within = true then
    let t := ((s.setF F.TK_STATE_SLEW 0).setF F.TL_STATUS_SLEWING 0).modRin (fun r => { r with slewAsk := false })
    if st ≤ 1 ∨ s.rin.owed ≠ 0 then t.raise Ev.AT_SLEW_DONE (s.timed []) else t
  else s

/-- A tick of HOLDOVER adds to the bound; above 3/4 of HOLDLIM it is reported once (R258). -/
def State.holdTick (s : State) : State :=
  if s.tkState = 2 then
    let r := s.tickResid
    let t := r.2.modRin (fun x => { x with holdTicks := x.holdTicks + 1, holdSum := x.holdSum + r.1 })
    if s.rin.boundHigh = false ∧ 3 * s.rin.cfg.holdLim * 256 < 4 * t.bound then
      (t.modRin (fun x => { x with boundHigh := true })).raise Ev.TK_BOUND_HIGH (t.rinPay [])
    else t
  else s

/-- EXTRAP: holdover steers outside the populated bins (R258). -/
def State.extrapTick (s : State) : State :=
  let out : Bool := s.tkState == 2 && s.extrapolates
  let t := s.setF F.TK_STATE_EXTRAP (if out then 1 else 0)
  if out ∧ s.b F.TK_STATE_EXTRAP = false then t.raise Ev.TK_MODEL_EXTRAP (t.rinPay []) else t

/-- A refit starts when a sound temperature has lain past the threshold from the last one's for two ticks in succession, or
after 24 h in LOCKED (R256, R467 to R469, log 22). -/
def State.refitTick (s : State) : State :=
  let past : Bool := s.oscSound && (match s.rin.refitTemp with
    | some t => decide (threshold (s.f F.THERM_CALTH_TK) < (s.oscTemp - t).natAbs)
    | none => false)
  let ticks := s.rin.refitTicks + (if s.tkState = 1 then 1 else 0)
  if s.rin.refit = false ∧ (past && s.rin.refitPast || (s.tkState == 1 && decide (1382400 ≤ ticks))) = true then
    s.modRin (fun r => { r with refit := true, refitTemp := some s.oscTemp, refitPast := false, refitTicks := 0 })
  else s.modRin (fun r => { r with refitPast := past, refitTicks := ticks })

/-- The model's status: EMPTY, LEARNING or VALID (R257). -/
def TempModel.status (m : TempModel) : Nat :=
  if m.populated = 0 then 0 else if 172800 ≤ m.learn ∧ m.fit48 then 2 else 1

/-- A byte of TK_INSTAT (Table 9-8). -/
def Rinom.inStat (r : Rinom) (i : Fin 4) : Nat :=
  let x := r.ref i
  (if x.qual then 128 else 0) + (if x.present then 64 else 0) + r.cfg.prio.get i % 8 * 8 + x.dis % 8

/-- The hour of operating time that ends gives an entry of HIST (Table 9-6). -/
def Rinom.histTick (r : Rinom) (hour worst st : Nat) : Rinom :=
  let lk := if st = 1 then 1 else 0
  let hd := if st = 2 then 1 else 0
  match r.hour with
  | some (h, mx, a, b) =>
    if h = hour then { r with hour := some (hour, max mx worst, a + lk, b + hd) }
    else { r with hist := ((mx, a / 16, b / 16) :: r.hist).take 24, hour := some (hour, worst, lk, hd) }
  | none => { r with hour := some (hour, worst, lk, hd) }

/-- TK_TEEBOUND by state (Table 9-9). -/
def State.boundReg (s : State) : Nat :=
  match s.tkState with
  | 2 => min s.bound 0xFFFFFFFF
  | 3 => 0xFFFFFFFF
  | _ => s.rin.cfg.lockLim * 256

/-- TL_FREQ from the present offset: units of 2⁻¹⁰ ppb, to the nearest. -/
def State.showFreq (s : State) : State := s.setReg Rg.TL_FREQ (BitVec.ofInt 32 ((2 * s.rin.fofs + 1000) / 2000))

/-- Every result register is updated together (R250, R271). -/
def State.tkRegs (s : State) : State :=
  let r := s.rin
  let st := s.tkState
  let assist : Bool := decide (2 ≤ st) && s.timeRef.isNone && s.freqRef.isSome
  let a := (((((s.setF F.TK_STATE_MODELST r.model.status).setF F.TK_STATE_ASSIST (if assist then 1 else 0)).setF
      F.TK_STATE_FORCEH (if r.force = 1 then 1 else 0)).setF F.TK_STATE_FORCEF (if r.force = 2 then 1 else 0)).setF
      F.TK_STATE_STATETIME (min (r.stateTicks / 16) 0xFFFF))
  let b := (a.setReg Rg.TK_INSTAT (BitVec.ofNat 32
      (r.inStat 0 + r.inStat 1 * 2 ^ 8 + r.inStat 2 * 2 ^ 16 + r.inStat 3 * 2 ^ 24))).setReg Rg.TK_TEEBOUND
      (BitVec.ofNat 32 s.boundReg)
  let c := (b.setReg Rg.TK_HOLDTIME (BitVec.ofNat 32 (if st = 2 then r.holdTicks / 16 else 0))).setReg Rg.TK_WALL_LO
      (BitVec.ofInt 32 (r.tai / tsec))
  let d := (c.setReg Rg.TK_WALL_HI (BitVec.ofInt 32 (r.tai / tsec / 2 ^ 32 % 2 ^ 16))).setReg Rg.TL_TEE (BitVec.ofInt 32 r.tee)
  let e := if r.refit then d.setF F.TK_MODEL_STALE 1 else
    (((((d.setF F.TK_MODEL_STALE 0).setF F.TK_MODEL_BINS r.model.populated).setF F.TK_MODEL_CALCNT r.calCnt).setF
      F.TK_CALTIME_OPTIME r.calTime)).report Rg.TK_TEMP
      [(F.TK_TEMP_STALE, if s.oscStale then 1 else 0), (F.TK_TEMP_TEMP, unsgn 16 s.oscTemp)]
  ((e.setReg Rg.TK_LEARN (BitVec.ofNat 32 (r.model.learn * 256 / 3600))).showUtc).showFreq

/-- A configuration command acts (R266): a leap that becomes pending is reported. -/
def State.applyCfg (s : State) : State :=
  match s.rin.next with
  | none => s
  | some c =>
    let t := s.modRin (fun r => { r with cfg := c, next := none })
    if c.leap ≠ 0 ∧ s.rin.cfg.leap = 0 then t.raise Ev.TK_LEAP_PENDING (t.rinPay [c.leap, c.leapDay]) else t

/-- MODEL_RESET acts: the model is EMPTY, and a record is written (R257). -/
def State.applyReset (s : State) : State :=
  if s.rin.resetCmd then
    (s.modRin (fun r => { r with resetCmd := false, model := TempModel.empty, refitTemp := none, refitPast := false,
                                 refitTicks := 0 }.saveModel)).sealFree
  else s

/-- SET_TIME acts: the seconds of wall time are replaced (R268, log 23). -/
def State.applyTime (s : State) : State :=
  match s.rin.timeCmd with
  | none => s
  | some sec => (s.modRin (fun r => { r with timeCmd := none })).timeStep ((sec : Int) * tsec + s.rin.tai % tsec) 0

/-- While PTP is used its Announce gives the UTC offset and the leap second of the present UTC day (R261, R263). -/
def State.utcTick (s : State) (a : Option Announce) : State :=
  if s.timeRef ≠ some 0 then s.modRin (fun r => { r with ptpUtc := none, ptpLeap := (0, 0) })
  else match a with
    | some x =>
      if x.domain ≠ s.rin.cfg.domain then s
      else
        let t := s.modRin (fun r => { r with ptpUtc := some x.utc })
        let u := t.modRin (fun r => { r with ptpLeap := if x.leap = 0 then (0, 0) else (x.leap.val, (t.utcSec / 86400).toNat) })
        if x.leap ≠ 0 ∧ s.leapNow.1 = 0 then u.raise Ev.TK_LEAP_PENDING (u.rinPay [u.leapNow.1, u.leapNow.2]) else u
    | none => s

/-- Rinom's Delay_Req leaves on the timing transmit path of its port, ahead of queued user frames, with its departure stamp
(R248). -/
def State.delayReq (s : State) (send : Bool) : State :=
  if send = true ∧ s.sdsOn = true ∧ s.rin.cfg.prio.get 0 ≠ 0 ∧ s.b (F.FH_PORT_STAT_UP s.rin.cfg.ptpPort) = true then
    s.emit (.delayReq s.rin.cfg.ptpPort (16 * s.fhTime))
  else s

/-- What Rinom measures of phase in a tick: TEE against the time reference in use, its static delay removed (R248, R251); after a
fallback the error AT has gathered against Rinom's own timescale (R229). A time reference in use shows both in one. -/
def State.teeTick (s : State) (m : Meas) : State :=
  s.modRin (fun r =>
    let q := if r.measure then { r with measure := false, owed := m.drift, slewAsk := r.slewAsk || s.tkState == 1 } else r
    match s.timeRef with
    | some i => if s.tkState ≤ 1 then { q with tee := m.tee - r.cfg.asym.get i, owed := 0 } else q
    | none => q)

/-- What a report gives of a tick, behind its NONCE (R270, Table 9-6): full time, wall time, UTC, states, time error, temperature,
grandmaster, inputs and history. -/
def State.tickShot (s : State) : List (Nat × Nat) :=
  let r := s.rin
  let hist := (r.hist ++ List.replicate 24 (0, 0, 0)).take 24
  let gm : Nat × Nat × Nat := if s.timeRef = some 0 then (match r.ann with | some a => (a.gm, a.cls, a.steps) | none => (0, 0, 0)) else (0, 0, 0)
  [(8, s.fullTime), (8, (r.tai / tsec).toNat), (4, (r.tai % tsec / 3072).toNat), (2, unsgn 16 s.utcOfs), (1, s.leapNow.1), (1, 0),
   (1, s.tkState), (1, s.f F.TK_STATE_REFSEL), (1, s.f F.TK_STATE_MODELST),
   (1, s.f F.TK_STATE_ASSIST + 2 * s.f F.TK_STATE_EXTRAP + 4 * s.f F.TK_STATE_ATOFF
      + (if r.force = 0 then 0 else 8) + 16 * s.f F.TK_STATE_RESTART),
   (4, r.stateTicks / 16), (4, unsgn 32 r.tee), (4, s.boundReg), (4, s.f F.TK_HOLDTIME_SEC),
   (4, (s.reg Rg.TL_FREQ).toNat), (2, s.f F.TK_TEMP_TEMP), (2, 0), (8, gm.1), (1, gm.2.1), (1, min 255 gm.2.2), (1, r.cfg.domain), (1, 0),
   (4, (s.reg Rg.TK_INSTAT).toNat), (4, r.nstep)]
  ++ hist.flatMap (fun h => [(4, h.1), (2, h.2.1), (2, h.2.2)])

/-- The references' part of a tick: measurements, the inputs used, TEE, and what counts towards a transition (R247 to R251). -/
def State.refsTick (s : State) (m : Meas) : Bool × State :=
  let c := (((s.ptpTick m.ptp).synceTick m.synce).ppsTick).freqTick m.ref10m
  let sel := c.selectRefs
  let d := (sel.2.teeTick m).modRin (fun r => { r with stateTicks := r.stateTicks + 1 })
  (sel.1, d.modRin (fun r => { r with
    hiTicks := if d.tkState = 1 ∧ !r.within 2 then r.hiTicks + 1 else 0
    okTicks := if d.tkState = 0 ∧ r.within 1 ∧ m.ferr ≤ 5120 then r.okTicks + 1 else 0
    slewAsk := r.slewAsk || (sel.1 && d.tkState == 1) }))

/-- RINOM_TICK (R250): measurements, at most one transition, and the result registers. -/
def execRinomTick (m : Meas) (s : State) : Host.Outcome State Fault Refusal :=
  let s0 := if s.tl.running ∧ s.b F.TL_STATUS_DEGRADED = false then s else s.modRin (fun r => { r with tai := r.tai + 192000000000 })
  let a := ((s0.applyCfg).applyReset).applyTime
  let forced := a.rin.forceCmd
  let b := a.modRin (fun r => { r with forceCmd := none, force := forced.getD r.force })
  let e := b.refsTick m
  let f := e.2.holdTick
  let big : Bool := e.1 && decide (f.rin.cfg.lockLim * 256 < m.jump)
  let st := f.nextTk big forced
  let g := if st = f.tkState then f else f.enterTk st
  let h := (((((g.slewTick).extrapTick).utcTick m.ptp.announce).labelTick m.label).refitTick).delayReq m.delayReq
  let i := (h.modRin (fun r => r.histTick (h.optime / 256) (if h.tkState = 2 then h.bound else r.tee.natAbs) h.tkState)).tkRegs
  onlyIf (s.rinomOff = false) s (i.modRin (fun r => { r with shot := (4, i.optime) :: i.tickShot }))

/-! ## Restart (R245) -/

/-- What of Rinom outlasts its reset: the sealed log, the count of reports, and the frequency FAB_PLL keeps. -/
def Rinom.lasting (r : Rinom) : Rinom :=
  { Rinom.reset with fofs := r.fofs, snaps := r.snaps, log := r.log, logSeq := r.logSeq, rseq := r.rseq }

/-- Rinom starts: its configuration and its model come from its log. -/
def Rinom.start (r : Rinom) : Rinom :=
  match r.snap with
  | some x => { r.lasting with cfg := x.cfg, model := x.model }
  | none => r.lasting

/-- Rinom's reset begins: its registers are at reset and a command in progress is lost; AT goes on. -/
def State.rinomDown (s : State) : State :=
  let t := (s.resetRegs (fun o => decide (0x90000 ≤ o ∧ o < 0xA0000))).modRin Rinom.lasting
  (t.setF F.TL_STATUS_TKSTATE 3).setF F.TL_STATUS_SLEWING 0

/-- Rinom restarts, in FREERUN. -/
def State.rinomUp (s : State) : State :=
  let v := ((s.modRin Rinom.start).setF F.TK_STATE_RESTART 1).showUtc
  v.raise Ev.TK_RESTART (v.rinPay [])

/-- Rinom resets and restarts. -/
def State.rinomRestart (s : State) : State := s.rinomDown.rinomUp

/-- RINOM_RESET (R245): VDD_TK has been lost, and is back. A loss that lasts is RAIL_RESET's (log 112). -/
def execRinomReset (s : State) : Host.Outcome State Fault Refusal := onlyIf (s.rinomOff = false) s s.rinomRestart

/-- RINOM_WATCHDOG (R245): the firmware watchdog expires. -/
def execRinomWatchdog (s : State) : Host.Outcome State Fault Refusal := onlyIf (s.rinomOff = false) s s.rinomRestart

/-! ## Steering at a frame boundary (R225, R226, R253, R258) -/

/-- An integer kept between two limits. -/
def clampInt (lo hi x : Int) : Int := if x < lo then lo else if hi < x then hi else x

/-- 1 ppb in the units of FAB_PLL's offset. -/
def ppb : Int := 1024000

/-- The offset that corrects a phase error in 2⁻⁸ ns (R226, R227): against the error, at most 50 ppb, and never more than a
ramp back at 1 ppb a boundary still makes up for: k ppb remove k²/200 ns on the way to 0 (the worked example of R227, log
113). -/
def phaseGoal (err : Int) : Int :=
  let k : Int := min (50 * ppb) (isqrt (err.natAbs * 819200000000) : Int)
  if err < 0 then k else -k

/-- The offset that tracks: the reference used, or under ASSIST the frequency reference; in HOLDOVER, and in FREERUN with a
model, the prediction cancelled; else XI1's nominal (R252, R253, R258). -/
def State.trackGoal (s : State) (ref : Int) : Int :=
  match s.tkState with
  | 0 => ref
  | 1 => ref
  | 2 => if s.b F.TK_STATE_ASSIST then ref else -s.predict
  | _ => if s.b F.TK_STATE_ASSIST then ref else if s.rin.model.status = 0 then 0 else -s.predict

/-- The frame that ends has been corrected by the phase part of its offset: 10 ms of k ppb are k/100 ns. -/
def Rinom.slewed (r : Rinom) : Rinom :=
  let d := clampInt (-(r.owed.natAbs : Int)) r.owed.natAbs (Int.tdiv r.phase 400000)
  { r with owed := r.owed + d, tai := r.tai - 12 * d }

/-- The change of FAB_PLL's frequency at a frame boundary, at most 1 ppb, the tracking within 100 ppm (R225, R226); a Rinom without
supply changes nothing (R245). `ref` is the offset at which an fc equals 2 Tc of the reference in use. -/
def State.steer (s : State) (ref : Int) : State :=
  if s.rinomOff then s
  else
    let t := s.modRin Rinom.slewed
    let goal := if t.tkState = 0 ∨ t.b F.TK_STATE_SLEW = true then phaseGoal t.slewErr else 0
    let ph := t.rin.phase + clampInt (-ppb) ppb (goal - t.rin.phase)
    let want := clampInt (-100000 * ppb) (100000 * ppb) (t.trackGoal ref) + ph
    (t.modRin (fun r => { r with phase := ph, fofs := r.fofs + clampInt (-ppb) ppb (want - r.fofs) })).showFreq

end Sys2Proof.Machine
end

