-- ==== Sys2Proof/Machine/Clocks.lean ====
section
/-!
DEFINITION. Sys2Proof/Machine/Clocks.lean: clock monitors, loops, domains and their fallback, divider ramps and gates
(chapter 16). Frequencies are in units of 10 kHz.
-/
namespace Sys2Proof.Machine
open Sys2Proof

/-! ## Sources and domains (Tables 16-2 and 16-4) -/

/-- The air-time family. -/
def family : List Nat := [5, 6, 7, 8, 9, 10, 11, 12, 13, 18, 20]

/-- Every domain. -/
def domains : List Nat := (List.range 25).map (· + 1)

/-- The loop a domain's primary source is, 7 the PCIe PHY loop; none for AON, JTAG, SENS and NVM. -/
def loopOf (d : Nat) : Option Nat :=
  if d = 2 ∨ d = 4 ∨ d = 17 ∨ d = 25 then some 0
  else if d = 3 ∨ d = 21 then some 5
  else if d = 5 then some 2
  else if family.contains d then some 1
  else if d = 14 then some 7
  else if d = 15 then some 3
  else if d = 16 then some 4
  else if d = 19 then some 6
  else none

/-- Frequency of a domain's primary source, and its divide ratio on it. -/
def primaryClk (d : Nat) : Nat × Nat :=
  if d = 1 then (5, 1) else if d = 2 then (40000, 1) else if d = 3 ∨ d = 25 then (50000, 1)
  else if d = 4 ∨ d = 17 ∨ d = 14 then (100000, 1) else if d = 5 then (122880, 1)
  else if d = 15 ∨ d = 16 then (80000, 1) else if d = 19 then (12288, 1) else if d = 21 then (20000, 1)
  else if d = 23 then (20000, 8) else if d = 24 then (20000, 4) else (98304, 1)

/-- Frequency of a domain's fallback, and its divide ratio on it. -/
def fallbackClk (d : Nat) : Nat × Nat :=
  if d = 1 then (20000, 4000) else if d = 19 then (20000, 2) else if d = 23 ∨ d = 24 then (5, 1) else (20000, 1)

/-- SOSC divided by 1, on which a degraded domain runs. -/
def degradedClk : Nat × Nat := (5, 1)

/-- The source a domain runs on, by its frequency and target ratio. -/
def State.clkNow (s : State) (d : Nat) : Nat × Nat :=
  let x := s.f (F.CLK_DOM_SRC d)
  if x = srcPrimary then primaryClk d else if x = srcDegraded then degradedClk else fallbackClk d

/-- The least `k` for which f / (Dt 2^k) is at most f_old = a / b, at most `n` (R416). -/
def rampK (f dt a b : Nat) : Nat → Nat → Nat
  | 0, k => k
  | n + 1, k => if f * b ≤ a * dt * 2 ^ k then k else rampK f dt a b n (k + 1)

/-- Move a domain to a source by a ramp (R416); a stopped domain starts at 16 times its ratio. -/
def State.rampTo (s : State) (d src : Nat) (c : Nat × Nat) : State :=
  let div := s.f (F.CLK_DOM_DIV d)
  let k := if s.f (F.CLK_DOM_SRC d) = srcStopped ∨ div = 0 then 4 else rampK c.1 c.2 (s.clkNow d).1 div 32 0
  ((s.setF (F.CLK_DOM_SRC d) src).setF (F.CLK_DOM_DIV d) (c.2 * 2 ^ k)).setF (F.CLK_DOM_RAMP d) (if k = 0 then 0 else 1)

/-- Stop a domain's clock. -/
def State.stopClk (s : State) (d : Nat) : State :=
  ((s.setF (F.CLK_DOM_SRC d) srcStopped).setF (F.CLK_DOM_DIV d) 0).setF (F.CLK_DOM_RAMP d) 0

/-- A bit of CLK_PLLSTAT of a loop: 0 locked, 1 on the alternate reference, 2 good for 1 ms. -/
def loopFld (i b : Nat) : Fld := ⟨Rg.CLK_PLLSTAT, 4 * i + b, 1⟩

/-- A domain's primary source has been good for 1 ms (R408). -/
def State.primaryGood (s : State) (d : Nat) : Bool :=
  match loopOf d with
  | some 7 => s.pwr.phyGood
  | some i => if family.contains d then s.b (loopFld 1 2) && s.b (loopFld 2 2) else s.b (loopFld i 2)
  | none => if d = 1 then s.b F.CLK_OSCSTAT_SOSCOK else if d = 22 then true else s.pwr.foscGood

/-! ## Trips (R409 to R412) -/

/-- LPDDR6 channels of DDR_A or DDR_B (Table 16-4). -/
def channelsOf (d : Nat) : List Nat := if d = 15 ∨ d = 16 then (List.range 8).map (· + 8 * (d - 15)) else []

/-- What a domain that leaves its primary source does to its external interface: the PCIe link goes down, LPDDR6 devices enter
self-refresh (R412). -/
def State.quieten (s : State) (d : Nat) : State :=
  if s.quiet d = false then s
  else
    let t := (channelsOf d).foldl (fun u n => if n < u.dramChannels then u.setF (F.DDR_CH_STAT_SELFREF n) 1 else u) s
    if d = 14 then t.pcieDown else t

/-- A domain whose primary source tripped: it stops, and moves to its fallback where that source is ready; SENS and NVM
wait for the restart of FOSC (R409, R411). AON moves with no stop (R412). -/
def State.tripDomain (s : State) (d : Nat) : State :=
  if s.f (F.CLK_DOM_SRC d) ≠ srcPrimary ∨ d = 22 then s
  else
    let t := (s.setF (F.CLK_DOM_TRIPPED d) 1).raise Ev.CLK_TRIP [d]
    (if d = 23 ∨ d = 24 then t.stopClk d
     else if t.b F.CLK_OSCSTAT_FOSCRDY then
       (if d = 1 then t.rampTo d srcFallback (fallbackClk d) else (t.stopClk d).rampTo d srcFallback (fallbackClk d))
     else t.stopClk d).quieten d

/-- A domain that runs on FOSC as its fallback stops when FOSC trips. -/
def State.stopOnFosc (s : State) (d : Nat) : State :=
  let x := s.f (F.CLK_DOM_SRC d)
  if (x = srcFallback ∨ x = srcBoot) ∧ d ≠ 23 ∧ d ≠ 24 then (s.stopClk d).quieten d else s

/-- A loop whose primary reference tripped while it is locked moves to its alternate without losing lock (R407). -/
def State.reference (s : State) (i : Nat) : State :=
  if s.b (loopFld i 0) ∧ s.b (loopFld i 1) = false then (s.setF (loopFld i 1) 1).raise Ev.CLK_REF_SWITCH [i] else s

/-- The air-time family leaves FAB_PLL: AT degrades (R229). -/
def State.degradeAt (s : State) : State :=
  if s.b F.TL_STATUS_DEGRADED then s
  else ((s.setF F.TL_STATUS_DEGRADED 1).raise Ev.AT_DEGRADED (s.timed [])).askFreeze 6

/-- The family trips as one (R410). -/
def State.tripFamily (s : State) : State :=
  if s.f (F.CLK_DOM_SRC 20) = srcPrimary then (family.foldl State.tripDomain s).degradeAt else s

/-- A monitor trips (R407 to R411). An oscillator's or a loop's bits fall; what it feeds moves. -/
def State.trip (s : State) (src : ClkSrc) : State :=
  match src with
  | .sosc => ((s.setF F.CLK_OSCSTAT_SOSCOK 0).raise Ev.CLK_OSC_FAIL [0]).tripDomain 1
  | .fosc =>
    let u := { s with pwr := { s.pwr with foscGood := false } }
    let t := ((u.setF F.CLK_OSCSTAT_FOSCRDY 0).incF F.CLK_OSCSTAT_FOSCRST).raise Ev.CLK_FOSC_RESTART [1]
    ([23, 24].foldl State.tripDomain (domains.foldl State.stopOnFosc t))
  | .xi0 =>
    let t := (s.setF F.CLK_OSCSTAT_XI0OK 0).raise Ev.CLK_OSC_FAIL [2]
    [0, 3, 4, 5].foldl State.reference t
  | .xi1 => ((s.setF F.CLK_OSCSTAT_XI1OK 0).raise Ev.CLK_OSC_FAIL [3]).reference 6
  | .refclk => (s.setF F.CLK_OSCSTAT_REFCLKOK 0).raise Ev.CLK_OSC_FAIL [4]
  | .loop i =>
    let t := (s.setF (loopFld i.val 0) 0).setF (loopFld i.val 2) 0
    if i.val = 1 ∨ i.val = 2 then t.tripFamily
    else if i.val = 6 then
      let u := (t.reference 1)
      if u.f (F.CLK_DOM_SRC 19) = srcPrimary then (u.tripDomain 19).rinomRestart else u
    else (domains.filter (fun d => loopOf d == some i.val)).foldl State.tripDomain t
  | .phy => { s with pwr := { s.pwr with phyGood := false } }.tripDomain 14

/-- CLK_TRIP (R411). -/
def execClkTrip (src : ClkSrc) (s : State) : Host.Outcome State Fault Refusal := ok (s.trip src)

/-- A domain that waits for FOSC starts or resumes (R409, R411, R415). -/
def State.resumeClk (s : State) (first : Bool) (d : Nat) : State :=
  if s.f (F.CLK_DOM_SRC d) ≠ srcStopped then s
  else if first then s.rampTo d srcBoot (fallbackClk d)
  else if d = 23 ∨ d = 24 then s.rampTo d srcPrimary (primaryClk d)
  else s.rampTo d srcFallback (fallbackClk d)

/-- FOSC_READY (R409, R415): at power-on each domain ramps onto its fallback and reads BOOT. -/
def execFoscReady (s : State) : Host.Outcome State Fault Refusal :=
  onlyIf (s.b F.CLK_OSCSTAT_FOSCRDY = false) s
    (domains.foldl (fun t d => t.resumeClk (!s.pwr.fosc) d)
      { s.setF F.CLK_OSCSTAT_FOSCRDY 1 with pwr := { s.pwr with fosc := true } })

/-- A domain still stopped 100 µs after the trip moves to SOSC (R411). -/
def State.degradeClk (s : State) (d : Nat) : State :=
  if s.f (F.CLK_DOM_SRC d) = srcStopped then (s.rampTo d srcDegraded degradedClk).raise Ev.CLK_DEGRADED [d] else s

/-- CLK_DEGRADED (R411): FOSC is not ready 100 µs after a trip. -/
def execClkDegraded (s : State) : Host.Outcome State Fault Refusal :=
  onlyIf (s.b F.CLK_OSCSTAT_FOSCRDY = false ∧ s.pwr.fosc = true) s (domains.foldl State.degradeClk s)

/-- A source is good (R408); a loop is then locked too. FAB_PLL waits for the Rinom DPLL at power-on (R496). -/
def State.sourceGood (s : State) (src : ClkSrc) : State :=
  match src with
  | .sosc => s.setF F.CLK_OSCSTAT_SOSCOK 1
  | .fosc => if s.b F.CLK_OSCSTAT_FOSCRDY then { s with pwr := { s.pwr with foscGood := true } } else s
  | .xi0 => s.setF F.CLK_OSCSTAT_XI0OK 1
  | .xi1 => s.setF F.CLK_OSCSTAT_XI1OK 1
  | .refclk => s.setF F.CLK_OSCSTAT_REFCLKOK 1
  | .loop i =>
    if i.val = 1 ∧ s.pwr.started = false ∧ s.b (loopFld 6 2) = false then s
    else (s.setF (loopFld i.val 0) 1).setF (loopFld i.val 2) 1
  | .phy => { s with pwr := { s.pwr with phyGood := true } }

/-- SOURCE_GOOD (R408). -/
def execSourceGood (src : ClkSrc) (s : State) : Host.Outcome State Fault Refusal := ok (s.sourceGood src)

/-- The target ratio of the source a domain runs on. -/
def State.targetDiv (s : State) (d : Nat) : Nat := (s.clkNow d).2

/-- DIVIDER_RAMP_STEP (R416): the ratio halves until it is the target. -/
def execDividerRampStep (d : Fin 26) (s : State) : Host.Outcome State Fault Refusal :=
  let h := s.f (F.CLK_DOM_DIV d.val) / 2
  onlyIf (s.b (F.CLK_DOM_RAMP d.val) = true) s
    ((s.setF (F.CLK_DOM_DIV d.val) (max h (s.targetDiv d.val))).setF (F.CLK_DOM_RAMP d.val)
      (if h ≤ s.targetDiv d.val then 0 else 1))

/-! ## Return to the primary source (R414) -/

/-- The clocks are stable: every loop-fed domain outside the air-time family is on its primary, and the CFG and XSPI gates
are open (Table 20-5, step 4). PCIE and TK follow their own conditions. -/
def State.stableNow (s : State) : State :=
  if s.pwr.booted ∧ [2, 3, 4, 15, 16, 17, 21, 25].all (fun d => s.f (F.CLK_DOM_SRC d) == srcPrimary) ∧ s.gateOpen 48 ∧ s.gateOpen 49
  then { s with pwr := { s.pwr with stable := true } } else s

/-- A domain returns to its primary source; the LPDDR6 devices of its channels leave self-refresh (R412, R414). -/
def State.toPrimary (s : State) (d : Nat) : State :=
  if s.f (F.CLK_DOM_SRC d) = srcPrimary then s
  else
    let t := if s.b F.PWR_STAT_RETAINED then s else (channelsOf d).foldl (fun u n => u.setF (F.DDR_CH_STAT_SELFREF n) 0) s
    (t.rampTo d srcPrimary (primaryClk d)).raise Ev.CLK_RETURNED [d]

/-- FAB_PLL is back: AT's degradation ends, and Rinom measures the phase error of the fallback at its next tick (R229). -/
def State.endDegraded (s : State) : State :=
  if s.b F.TL_STATUS_DEGRADED then (s.setF F.TL_STATUS_DEGRADED 0).modRin (fun r => { r with measure := true }) else s

/-- PRIMARY accepted: the domain, or the whole family, moves; a family return ends AT's degradation (R229, R414). -/
def State.returnClk (s : State) (d : Nat) : State :=
  (if family.contains d then (family.foldl State.toPrimary s).endDegraded else s.toPrimary d).stableNow

/-- PRIMARY (R414): accepted while the domain does not ramp and its primary source is good; else RETREJ. -/
def execPrimary (who : Who) (d : Fin 26) (v : Word) (s : State) : Host.Outcome State Fault Refusal :=
  ok (if d = 0 then s else s.onBus who (Rg.CLK_DOM d.val) v (fun t =>
    if v.getLsbD 31 = false then t
    else if t.b (F.CLK_DOM_RAMP d.val) = false ∧ t.primaryGood d.val then t.returnClk d.val
    else t.setF (F.CLK_DOM_RETREJ d.val) 1))

/-! ## Gates (R417 to R420) -/

/-- The controller reads flash: a flash load in HEADER or STREAM. -/
def State.flashReads (s : State) : Bool :=
  match s.ld with
  | some l => l.flash && (s.f F.CFG_STATUS_STAGE == 1 || s.f F.CFG_STATUS_STAGE == 2)
  | none => false

/-- A gate request is refused (R419): CFG while a load or flash operation runs, XSPI while flash is read, RPL while capture
or replay runs. -/
def State.gateRefused (s : State) (b : Nat) : Bool :=
  if b = 49 then decide (1 ≤ s.f F.CFG_STATUS_STAGE ∧ s.f F.CFG_STATUS_STAGE ≤ 5) || s.b F.CFG_FLCMD_BUSY
  else if b = 48 then s.flashReads
  else if b = 50 then s.f F.RPL_STAT_MODE != 0
  else false

/-- A gate's bit of CLK_GATE0 and CLK_GATE1. -/
def gateBit (b : Nat) : Fld := ⟨if b < 32 then Rg.CLK_GATE0 else Rg.CLK_GATE1, b % 32, 1⟩

/-- A gate's bit of CLK_GATESTAT0 and CLK_GATESTAT1. -/
def gateStat (b : Nat) : Fld := ⟨Rg.CLK_GATESTAT (b / 32), b % 32, 1⟩

/-- The gates of a register that exist. -/
def gatesOf (r : Fin 2) : List Nat := if r = 0 then List.range 32 else (List.range 21).map (· + 32)

/-- One gate bit of a write: 1 opens the gate, within its 32 cycles at once (log 31); 0 is a gate request. -/
def State.gateSet (old s : State) (b : Nat) : State :=
  if s.b (gateBit b) then s.setF (gateStat b) 1
  else if old.b (gateBit b) ∧ s.gateRefused b then
    (s.setF (gateBit b) 1).report Rg.CLK_GATEERR
      [(F.CLK_GATEERR_VALID, 1), (F.CLK_GATEERR_KIND, 1), (F.CLK_GATEERR_BIT, b)]
  else s

/-- A write of CLK_GATE0 or CLK_GATE1. -/
def State.gateWrite (s : State) (who : Who) (r : Fin 2) (v : Word) : State :=
  s.onBus who (if r = 0 then Rg.CLK_GATE0 else Rg.CLK_GATE1) v (fun t =>
    ((gatesOf r).foldl (fun u b => State.gateSet s u b) t).stableNow)

/-- GATE_OPEN (R418). -/
def execGateOpen (who : Who) (r : Fin 2) (v : Word) (s : State) : Host.Outcome State Fault Refusal := ok (s.gateWrite who r v)

/-- GATE_REQUEST (R419). -/
def execGateRequest (who : Who) (r : Fin 2) (v : Word) (s : State) : Host.Outcome State Fault Refusal := ok (s.gateWrite who r v)

/-- A gate request waits: the gate is open and its bit 0. -/
def State.gatePending (s : State) (b : Nat) : Bool := s.b (gateStat b) && !s.b (gateBit b)

/-- GATE_CLOSE (R419): the block is idle and the gate closes. -/
def execGateClose (bit : Fin 64) (s : State) : Host.Outcome State Fault Refusal :=
  onlyIf (s.gatePending bit.val = true) s (s.setF (gateStat bit.val) 0)

/-- CLK_GATE_FORCED (R419): the block is still busy 4,096 cycles after the request. -/
def execClkGateForced (bit : Fin 64) (s : State) : Host.Outcome State Fault Refusal :=
  onlyIf (s.gatePending bit.val = true) s
    (((s.setF (gateStat bit.val) 0).report Rg.CLK_GATEERR
      [(F.CLK_GATEERR_VALID, 1), (F.CLK_GATEERR_KIND, 0), (F.CLK_GATEERR_BIT, bit.val)]).raise Ev.CLK_GATE_FORCED [bit.val])

end Sys2Proof.Machine
end

