-- ==== Sys2Proof/Machine/SaenoSync.lean ====
section
/-!
DEFINITION. Sys2Proof/Machine/SaenoSync.lean: barriers and flags (R171 to R175), and starting and stopping a sequencer
(R178 to R180).
-/
namespace Sys2Proof.Machine
open Sys2Proof

/-! ## Barriers -/

/-- The mask a sequencer waits with at a barrier flag. -/
def State.arrival (s : State) (k : Fin 4) (flag : Fin 16) : Option Nat :=
  match (s.seq k).wait with
  | .barrier f m _ => if f = flag then some m else none
  | _ => none

/-- The sequencers waiting at a barrier flag. -/
def State.waitingAt (s : State) (flag : Fin 16) : List (Fin 4) :=
  (List.finRange 4).filter (fun k => (s.arrival k flag).isSome)

/-- Every listed sequencer faults, its barrier wait over; one that a STOP takes out of the wait in this fc stops in its place
(R179, log 106). -/
def State.barrierFault (s : State) (ks : List (Fin 4)) (cause : Nat) : State :=
  ks.foldl (fun t k =>
    if (t.seq k).leaving s.tl.fc then t.seqStop k else t.seqFault k cause (t.seq k).pc s.tl.fc (t.seq k).peek) s

/-- BARRIER (R171, R173, R213): an arrival; one whose mask differs from a waiting one's faults them all. -/
def execBarrier (k : Fin 4) (e : Flaw) (mask : BitVec 4) (flag : Fin 16) (s : State) : Host.Outcome State Fault Refusal :=
  ok (s.issue k e (.barrier k e mask flag) (fun t =>
    if (t.waitingAt flag).any (fun j => t.arrival j flag != some mask.toNat) then
      t.barrierFault (t.waitingAt flag ++ [k]) 0x07
    else t.modSeq k (fun q => { q with mode := .waitBar, wait := .barrier flag mask.toNat t.tl.fc })))

/-- Every sequencer of a mask has an arrival at the flag with that mask (R171). -/
def State.barrierFull (s : State) (flag : Fin 16) (mask : Nat) : Bool :=
  mask != 0 && (List.finRange 4).all (fun k => nbits mask k.val 1 == 0 || s.arrival k flag == some mask)

/-- The barrier completes: each participant issues its next instruction in fc c + 4, and its arrival is released then (R171). -/
def State.releaseBarrier (s : State) (flag : Fin 16) (mask : Nat) : State :=
  (List.finRange 4).foldl (fun t k =>
    if nbits mask k.val 1 = 1 then
      t.modSeq k (fun q => { q with wait := .released flag s.tl.fc (s.tl.fc + 4), mode := .waitBar })
    else t) s

/-- BARRIER_COMPLETE (R171): the last arrival of a mask has come. -/
def execBarrierComplete (flag : Fin 16) (s : State) : Host.Outcome State Fault Refusal :=
  match (s.waitingAt flag).filterMap (fun k => s.arrival k flag) with
  | mask :: _ => onlyIf (s.barrierFull flag mask = true) s (s.releaseBarrier flag mask)
  | [] => ok s

/-- A sequencer's barrier timeout in fc: BARTO units of 4,096, 0 acting as 240 (R157, R173). -/
def State.barTo (s : State) (k : Fin 4) : Nat :=
  (if s.f (F.SEQ_CFG_BARTO k) = 0 then 240 else s.f (F.SEQ_CFG_BARTO k)) * 4096

/-- A sequencer has waited its timeout at a barrier. -/
def State.barrierLate (s : State) (k : Fin 4) : Bool :=
  match (s.seq k).wait with
  | .barrier _ _ since => decide (since + s.barTo k ≤ s.tl.fc)
  | _ => false

/-- BARRIER_TIMEOUT (R173): one waiter's timeout faults every waiter; a completion in the same fc comes first. -/
def execBarrierTimeout (flag : Fin 16) (s : State) : Host.Outcome State Fault Refusal :=
  let ks := s.waitingAt flag
  onlyIf (ks.any (fun k => s.barrierLate k) = true ∧
      ks.all (fun k => !s.barrierFull flag ((s.arrival k flag).getD 0)) = true) s
    ((ks.foldl (fun t k => t.raise (Ev.BARRIER_TIMEOUT k) [(t.seq k).pc, flag.val]) s).barrierFault ks 0x06)

/-! ## Signal flags -/

/-- SIGNAL (R174, R175): visible 4 fc after its issue; one onto a flag set, or about to be, is lost. -/
def execSignal (k : Fin 4) (e : Flaw) (flag : Fin 16) (s : State) : Host.Outcome State Fault Refusal :=
  ok (s.issue k e (.signal k e flag) (fun t =>
    let f := t.flags.get flag
    let u :=
      if f.set ∨ f.due.isSome then t.raise (Ev.FLAG_OVERRUN k) [(t.seq k).pc, flag.val]
      else { t with flags := t.flags.set flag.val { f with due := some (t.tl.fc + 4) } flag.isLt }
    u.done k 1))

/-- A sequencer waits for a flag. -/
def State.waitsFlag (s : State) (k : Fin 4) (flag : Fin 16) : Bool :=
  match (s.seq k).wait with
  | .flag f _ => f == flag
  | _ => false

/-- Sequencer `k` may take a flag: it is visible as set, and no lower-numbered sequencer waits for it, nor has one an instruction
to issue in this fc that may yet take it (R175). -/
def State.mayTake (s : State) (k : Fin 4) (flag : Fin 16) : Bool :=
  (s.flags.get flag).set && (List.finRange 4).all (fun j => decide (k ≤ j) || !(s.waitsFlag j flag || (s.seq j).ready s.tl.fc))

/-- A sequencer clears a flag and issues its next instruction in the next fc (R174). -/
def State.takeFlag (s : State) (k : Fin 4) (flag : Fin 16) : State :=
  ({ s with flags := s.flags.set flag.val { s.flags.get flag with set := false } flag.isLt }).done k 1

/-- WAIT (R174). -/
def execWait (k : Fin 4) (e : Flaw) (flag : Fin 16) (s : State) : Host.Outcome State Fault Refusal :=
  ok (s.issue k e (.wait k e flag) (fun t =>
    if t.mayTake k flag then t.takeFlag k flag
    else t.modSeq k (fun q => { q with mode := .waitFlag, wait := .flag flag t.tl.fc })))

/-- FLAG_WAIT_END (R174, R175): the flag a sequencer waits for is visible as set. -/
def execFlagWaitEnd (k : Fin 4) (s : State) : Host.Outcome State Fault Refusal :=
  match (s.seq k).wait with
  | .flag f _ => onlyIf (s.mayTake k f = true) s (s.takeFlag k f)
  | _ => ok s

/-- WAITTO in fc; none: no timeout (R157). -/
def State.waitTo (s : State) (k : Fin 4) : Option Nat :=
  if s.f (F.SEQ_CFG_WAITTO k) = 0 then none else some (s.f (F.SEQ_CFG_WAITTO k) * 4096)

/-- A flag or queue wait has lasted WAITTO. -/
def State.waitLate (s : State) (k : Fin 4) : Bool :=
  match s.waitTo k, (s.seq k).wait with
  | some d, .flag _ since => decide (since + d ≤ s.tl.fc)
  | some d, .queue _ _ since => decide (since + d ≤ s.tl.fc)
  | _, _ => false

/-- What a flag or queue wait waits for, as its event carries it. -/
def Seq.waitedFor (q : Seq) : Nat :=
  match q.wait with
  | .flag f _ => f.val
  | .queue n _ _ => n
  | _ => 0

/-- WAIT_TIMEOUT (R174, R206). -/
def execWaitTimeout (k : Fin 4) (s : State) : Host.Outcome State Fault Refusal :=
  onlyIf (s.waitLate k = true) s
    ((s.raise (Ev.WAIT_TIMEOUT k) [(s.seq k).pc, (s.seq k).waitedFor]).seqFault k 0x08 (s.seq k).pc s.tl.fc
      (s.seq k).wouldIssue)

/-! ## Start and stop -/

/-- A STOP is asked for (R179). -/
def State.askStop (s : State) (k : Fin 4) : State :=
  if (s.seq k).mode = .stopped then s.seqStop k
  else s.modSeq k (fun q => { q with stopReq := some s.tl.fc })

/-- From the start of CHECK to the end of COMMIT a START of a layer that has a program in the image is held (R382). -/
def State.startHeld (s : State) (k : Fin 4) : Bool :=
  match s.ld with
  | some l => (s.f F.CFG_STATUS_STAGE == 4 || s.f F.CFG_STATUS_STAGE == 5) && nbits l.progLy k.val 1 == 1
  | none => false

/-- A START acts, or is held. -/
def State.startOrHold (s : State) (k : Fin 4) : State :=
  if s.startHeld k then { s with heldStart := Nat.lor s.heldStart (2 ^ k.val) } else s.seqStart k

/-- A write of SEQn_CTL: STOP, or START; both together act as STOP (R178, R179). -/
def State.seqCtl (s : State) (who : Who) (k : Fin 4) (v : Word) : State :=
  s.onBus who (Rg.SEQ_CTL k) v (fun t =>
    if v.getLsbD 17 then t.askStop k else if v.getLsbD 16 then t.startOrHold k else t)

/-- START (R178): a write of SEQn_CTL. -/
def execStart (who : Who) (k : Fin 4) (v : Word) (s : State) : Host.Outcome State Fault Refusal := ok (s.seqCtl who k v)

/-- STOP (R179): a write of SEQn_CTL. -/
def execStop (who : Who) (k : Fin 4) (v : Word) (s : State) : Host.Outcome State Fault Refusal := ok (s.seqCtl who k v)

/-- A sequencer's state at its first issue (R178). -/
def Seq.fresh (q : Seq) (entry fc sp : Nat) : Seq :=
  { Seq.reset with mode := .running, pc := q.pc, next := entry, due := fc, sp := sp, quiet := fc, ports := q.ports, res := q.res, issuedAt := q.issuedAt }

/-- The held region whose condition a starting sequencer meets (R123): the last of them. -/
def State.heldAtStart (s : State) (ly : Fin 4) : Option (Fin 8) :=
  ((List.finRange 8).filter (fun j => s.held ly j)).getLast?

/-- The first issue fc of a start: its state, and the ALT or fault entry in its place while a region is held, for whatever
reason (R123, log 107). -/
def State.seqBegin (s : State) (k : Fin 4) (entry : Nat) : State :=
  let t := (((s.setReg (Rg.SEQ_FAULT k) 0).setReg (Rg.SEQ_ALT k) 0).modSeq k (fun q => q.fresh entry s.tl.fc (s.seqTime k))).raise
    (Ev.SEQ_STARTED k) [(s.seq k).pc]
  match s.heldAtStart k with
  | some j =>
    match t.vector k 1 with
    | some a => t.takeAlt k a 2 j.val (t.tl.fc - 1) entry
    | none => t.seqFault k 0x0B entry (t.tl.fc - 1) entry
  | none => t

/-- SEQ_STARTED (R178, R222): 8 fc after the later of the start and the release. -/
def execSeqStarted (k : Fin 4) (s : State) : Host.Outcome State Fault Refusal :=
  match (s.seq k).wait with
  | .start entry since =>
    onlyIf (s.tl.released = true ∧ max s.tl.relFc since + 8 ≤ s.tl.fc) s (s.seqBegin k entry)
  | _ => ok s

end Sys2Proof.Machine
end

