-- ==== Sys2Proof/Machine/LoadCore.lean ====
section
/-!
DEFINITION. Sys2Proof/Machine/LoadCore.lean: what every load of the configuration controller is written over: starting one,
the attempt list, rejection and the teardown (R379 to R387).
-/
namespace Sys2Proof.Machine
open Sys2Proof

/-! ## Stages and reasons (Tables 14-6 and 14-7) -/

def stIdle : Nat := 0
def stHeader : Nat := 1
def stStream : Nat := 2
def stVerify : Nat := 3
def stCheck : Nat := 4
def stCommit : Nat := 5
def stDone : Nat := 6
def stFailed : Nat := 7

def rMagic : Nat := 0x01
def rVersion : Nat := 0x02
def rFamily : Nat := 0x03
def rIdcode : Nat := 0x04
def rLength : Nat := 0x05
def rDesc : Nat := 0x06
def rKeyslot : Nat := 0x07
def rNoslot : Nat := 0x08
def rBadpacket : Nat := 0x09
def rBadfar : Nat := 0x0A
def rRegion : Nat := 0x0B
def rActive : Nat := 0x0C
def rKeyhash : Nat := 0x0D
def rSignature : Nat := 0x0E
def rRegionmap : Nat := 0x0F
def rNoslot0 : Nat := 0x10
def rIncomplete : Nat := 0x11
def rNotclosed : Nat := 0x12
def rStatic : Nat := 0x13
def rProgbusy : Nat := 0x14
def rTruncated : Nat := 0x15
def rFlasherr : Nat := 0x16
def rHosterr : Nat := 0x17
def rLinkfail : Nat := 0x18
def rTimeout : Nat := 0x19
def rAborted : Nat := 0x1A
def rTrip : Nat := 0x1B

/-- The stage of the load. -/
def State.ldStage (s : State) : Nat := s.f F.CFG_STATUS_STAGE

/-- A load runs: HEADER to COMMIT. -/
def State.loading (s : State) : Bool := decide (1 ≤ s.ldStage ∧ s.ldStage ≤ 5)

/-- Every sequencer of a list enters STOPPED (R179). -/
def State.stopAll (s : State) : State := (List.finRange 4).foldl State.seqStop s

/-- A change of what the device watchdog runs on, and its effect on the count (R541). -/
def State.wdAround (s : State) (h : State → State) : State := (h s).wdUpdate s.wdRuns

/-- A restart or reset ends replay as EXIT does (R565): the scope sequencers stop and AT returns to Rinom's time. -/
def State.endReplay (s : State) : State :=
  if 2 ≤ s.f F.RPL_STAT_MODE then ((s.scopeLayers.foldl State.seqStop s).setF F.RPL_STAT_MODE 0).newEpoch State.release else s

/-! ## Starting a load -/

/-- A fresh load. -/
def Load.fresh (flash auto : Bool) (slot cap : Nat) (rest : List Nat) : Load :=
  { flash := flash, slot := slot, auto := auto, rest := rest, partl := false, layer := 0, region := 0, setReset := false,
    keySlot := 0, len := 0, cap := cap, pos := 0, rmap := none, opt := none, far := none, framed := false, err := none,
    ended := false, frames := [], prog := [], progLy := 0, io := [], comAt := 0, digest := 0, since := 0 }

/-- Words of a flash slot (Table 14-1). -/
def flashSlotWords : Nat := 67108864

/-- A load starts: HEADER (R380). -/
def State.startLoad (s : State) (flash auto : Bool) (slot cap : Nat) (rest : List Nat) : State :=
  let t := (s.setF F.CFG_STATUS_STAGE stHeader).setF F.CFG_STATUS_PARTIAL 0
  let u := if flash then t.setF F.CFG_STATUS_CURSLOT slot else t
  { (if auto then u.incF F.CFG_STATUS_ATTEMPTS else u) with ld := some { Load.fresh flash auto slot cap rest with since := s.tl.fc } }

/-- The next attempt of the list (R386); with none left, CFG_BOOT_FAIL. -/
def State.nextAttempt (s : State) (first : Bool) : List Nat → State
  | [] => s.raise Ev.CFG_BOOT_FAIL [0, 0]
  | slot :: rest => (if first then s else s.raise Ev.CFG_FALLBACK [0, slot]).startLoad true true slot flashSlotWords rest

/-- The attempt list (R386): FIRST, NEXT, slot 0, each slot once. -/
def State.attempts (s : State) : List Nat := [s.f F.CFG_BOOT_FIRST, s.f F.CFG_BOOT_NEXT, 0].eraseDups

/-- The attempt list starts. -/
def State.runList (s : State) : State := s.nextAttempt true s.attempts

/-! ## Rejection (R381, R387) -/

/-- Source and slot of a load as its events carry them (R390). -/
def Load.src (l : Load) : List Nat := [if l.flash then 0 else 1, l.slot]

/-- The STARTs held since CHECK act (R382). -/
def State.actHeld (s : State) : State :=
  let h := s.heldStart
  (List.finRange 4).foldl (fun t k => if nbits h k.val 1 = 1 then t.seqStart k else t) { s with heldStart := 0 }

/-- A load is rejected: nothing commits, the staging is dropped, the reason is reported. The attempt list goes on, starts
where a LOAD of a full image failed under FALLBACK, or waits for the restart where a trip ended it (R381, R386, R387). -/
def State.rejectLoad (s : State) (l : Load) (reason info word : Nat) : State :=
  let header := s.ldStage = stHeader
  let t := (((s.setF F.CFG_STATUS_STAGE stFailed).setF F.CFG_STATUS_REASON reason).setReg Rg.CFG_ERRINFO
    (BitVec.ofNat 32 info)).setReg Rg.CFG_ERRWORD (BitVec.ofNat 32 word)
  let u := ({ t with ld := none }.raise Ev.CFG_REJECT (l.src ++ [reason, info, word])).actHeld
  if reason = rTrip then
    if l.partl then u else { u with pwr := { u.pwr with loadAfter := true } }
  else if reason = rAborted ∧ header then u
  else if l.auto then u.nextAttempt false l.rest
  else if l.partl = false ∧ u.b F.CFG_BOOT_FALLBACK then u.runList
  else u

/-- A load in progress ends before COMMIT, at the stage it is in (R381). -/
def State.endLoad (s : State) (reason : Nat) : State :=
  match s.ld with
  | some l => if s.ldStage = stCommit then s else s.rejectLoad l reason s.ldStage l.pos
  | none => s

/-! ## Teardown (R379) -/

/-- A region of a torn-down fabric: every plane EMPTY; a hold goes on until a commit or restart (R122). -/
def Region.torn (r : Region) : Region :=
  { Region.reset with cur := r.cur, planes := r.planes.map (fun p => { p with st := .empty, run := false, ask := none }), ovr := r.ovr, heldAt := r.heldAt }

/-- The teardown's effects but for CFG_TEARDOWN: sequencers stopped, set-reset asserted, planes EMPTY, slots invalid, DONE low,
pins and transmitters in their safe state, departures and SYSREF held. -/
def State.tearDown (s : State) : State :=
  (s.wdAround (fun s =>
    let t := (s.stopAll.setF F.CFG_STATUS_DONE 0).setF F.CFG_KEY_VALID 0
    let u := { t with
      fab := { t.fab with gsr := true, torn := true, relAt := none, newSlots := []
                          layers := t.fab.layers.map (fun l => { l with regions := l.regions.map Region.torn, capReq := none }) }
      tl := { t.tl with sysref := t.tl.sysref.map (fun g => { g with lowAt := 0 }) }
      pwr := { t.pwr with restart := none } }
    (List.range 4).foldl (fun v ly => (List.range 8).foldl (fun v j => v.setReg (Rg.CFG_LR_SLOTV ly j) 0) v) u))

end Sys2Proof.Machine
end

