-- ==== Sys2Proof/Machine/Restart.lean ====
section
/-!
DEFINITION. Sys2Proof/Machine/Restart.lean: the regions at a commit or restart and the release of set-reset (R58, R123, R383),
the fenced fabric restart (R543 to R545), and the thermal trip's hold of the stack (R430).
-/
namespace Sys2Proof.Machine
open Sys2Proof

/-! ## Regions (R123) -/

/-- A region at a commit or restart: plane 0 current, the others EMPTY, no override. -/
def Region.begun (r : Region) : Region :=
  { Region.reset with planes := r.planes.map (fun p => { p with st := .empty, run := false, ask := none }) }

/-- Put one region in the state of R123: plane 0 refills from slot 0, or is INVALID where that slot may not run. A region with
no tiles has no plane to fill. -/
def State.beginRegion (s : State) (ly : Fin 4) (j : Fin 8) : State :=
  let t := s.modRegion ly j Region.begun
  if t.regionTiles ly j = [] then t
  else if t.slotOk ly j 0 then t.startRefill ly j 0 0 s.tl.fc
  else t.setPlane ly j 0 { st := .invalid, slot := 0, refillAt := s.tl.fc, bad := false, filled := false }

/-- Every region in the state of R123; set-reset may be released 16 fc after the refills, issued in this fc, complete (R58). -/
def State.setRegions (s : State) : State :=
  let t := (List.finRange 4).foldl (fun t ly => (List.finRange 8).foldl (fun t j => t.beginRegion ly j) t) s
  { t with fab := { t.fab with relAt := some (s.tl.fc + 25) } }

/-- The valid bits of every coefficient RAM clear, and with them the coefficient counters (R142, R146). -/
def State.clearCoefs (s : State) : State :=
  { s with fab := { s.fab with coef := [], coefErr := [], coefOld := [], horn := s.fab.horn.filterMap (fun e =>
      if { e.2 with ctr := none } = Horn.reset then none else some (e.1, { e.2 with ctr := none })) } }

/-- Every capture store is released (R403, R544). -/
def State.releaseStores (s : State) : State :=
  { s.setF F.CFG_CAPSTAT_HELD 0 with fab := { s.fab with layers := s.fab.layers.map (fun l => { l with cap := none }) } }

/-- No refill runs. -/
def State.noRefill (s : State) : Bool :=
  s.fab.layers.toList.all (fun l => l.regions.toList.all (fun r => r.planes.toList.all (fun p => p.st != .refilling && !p.run)))

/-- A region whose current plane is not VALID is held from the fc of release (R123). -/
def State.holdAtRelease (s : State) (ly : Fin 4) (j : Fin 8) : State :=
  let r := s.region ly j
  if s.regionTiles ly j ≠ [] ∧ (r.planes.get r.cur).st ≠ .valid ∧ r.heldAt = none then
    (s.modRegion ly j (fun r => { r with heldAt := some s.tl.fc })).raise (Ev.REGION_HELD ly.val) [j.val, r.cur.val]
  else s

/-! ## Fences of the stack -/

/-- Fence every die of a mask, M first. -/
def State.fenceAll (s : State) (dies : Nat) : State :=
  (List.range 9).foldl (fun t d => if nbits dies d 1 = 1 then t.fenceStart d else t) s

/-- C1 to L4. -/
def aboveM : Nat := 0x1FE

/-- The sequencer blocks after their reset (Table 20-3); what shows program memory stays. -/
def State.resetSeqs (s : State) : State :=
  let t := (List.range 4).foldl (fun t k =>
    let w := (regReset (Rg.SEQ_CTL k) &&& ~~~nvsMask (Rg.SEQ_CTL k)) ||| mget (shipped (Rg.SEQ_CTL k)) s.nvs.boot (Rg.SEQ_CTL k)
    ((((((t.setReg (Rg.SEQ_CTL k) w).setF (F.SEQ_CTL_MISSFAULT k) (s.f (F.SEQ_CTL_MISSFAULT k))).setReg (Rg.SEQ_STATUS k) 0).setReg
      (Rg.SEQ_FAULT k) 0).setReg (Rg.SEQ_ALT k) 0).setReg (Rg.SEQ_MISS k) 0).setReg (Rg.SEQ_PMERR k) 0) s
  { t with seqs := Vector.replicate 4 Seq.reset, flags := Vector.replicate 16 { set := false, due := none } }

/-- Step 3 of a restart, once every fenced die is OPEN again (R544). -/
def State.restartRegions (s : State) : State := s.resetSeqs.setRegions.clearCoefs.releaseStores

/-- A restart is in progress, its dies all OPEN, and its regions not yet set. -/
def State.restartReady (s : State) : Bool :=
  s.pwr.restart.isSome && s.fab.relAt == none && (List.range 9).all (fun d => nbits s.pwr.rstDies d 1 == 0 || s.dieUp d)

/-- A full load is past its teardown and before COMMIT: its own outcome stands in place of a restart (R387). -/
def State.fullLoadTorn (s : State) : Bool :=
  match s.ld with
  | some l => !l.partl && decide (2 ≤ s.ldStage ∧ s.ldStage ≤ 4)
  | none => false

/-- A stack die is unpowered or held (R490, R545). -/
def State.stackDown (s : State) : Bool := decide (s.pwr.held ≠ 0 ∨ s.pwr.dark ≠ 0)

/-- The record of a trigger that a restart in progress absorbs (R545). -/
def State.absorbed (s : State) (trigger : Nat) : State :=
  s.blockRecord .critical Ev.FAB_RESTART 0 [BitVec.ofNat 32 trigger]

/-- A fenced fabric restart is performed: steps 1 and 2 (R544); a partial load ends with ABORTED (R395), capture and replay end
(R558, R565). -/
def State.performRestart (s : State) (trigger : Nat) (withM : Bool) : State :=
  let dies := aboveM + if withM then 1 else 0
  s.wdAround (fun s =>
    let t := ((s.endLoad rAborted).raise Ev.FAB_RESTART [trigger]).incF F.DEV_FLTCNT_RESTARTS
    let u := ({ t with fab := { t.fab with gsr := true, relAt := none },
                       pwr := { t.pwr with restart := some trigger, rstDies := dies } }.stopAll).setF F.CFG_STATUS_DONE 0
    (u.endReplay.fenceAll dies).askFreeze 4)

/-- A fenced fabric restart is asked for (R543, R545): absorbed by one in progress, deferred to the end of a COMMIT, left
to a full load past its teardown, skipped with no image committed, and not performed while a die is down. -/
def State.askRestart (s : State) (trigger : Nat) (withM : Bool) : State :=
  if s.pwr.restart.isSome then s.absorbed trigger
  else if s.ldStage = stCommit then { s with pwr := { s.pwr with pend := s.pwr.pend ++ [.restart trigger withM] } }
  else if s.fullLoadTorn then s
  else if s.stackDown then s
  else if s.b F.CFG_KEY_VALID = false then s.raise Ev.RESTART_SKIPPED [trigger]
  else s.performRestart trigger withM

/-! ## Thermal trip (R430 to R432) -/

/-- Dies a trip of a die fences, 0 for B and 1 for M (Table 17-2 numbers them so): M too when the trip is on M or B. -/
def tripDies (die : Nat) : Nat := aboveM + if die ≤ 1 then 1 else 0

/-- Operating time in units of 1/256 h that 3,600 s are. -/
def hourUnits : Nat := 256

/-- Every gate of CLK_GATE0 and CLK_GATE1 is asked to close (R419, R430). -/
def State.closeGates (s : State) : State :=
  (List.range 53).foldl (fun t b => if t.gateRefused b then t else t.setF (gateBit b) 0) s

/-- Dies that are to be held and whose fence has drained are held in reset; once a trip holds all of its dies the rails may
be removed (R430, R500). -/
def State.holdDrained (s : State) : State :=
  let t := (List.range 9).foldl (fun t d =>
    if nbits t.pwr.toHold d 1 = 1 ∧ 2 ≤ t.phase d then
      { t.setF ⟨Rg.VL_FENSTAT, 2 * d, 2⟩ 2 with pwr := { t.pwr with held := Nat.lor t.pwr.held (2 ^ d), toHold := t.pwr.toHold - 2 ^ d } }
    else t) s
  if t.pwr.byTrip ∧ s.pwr.toHold ≠ 0 ∧ t.pwr.toHold = 0 ∧ t.b F.PWR_STAT_ENTERING = false then
    t.wdAround (fun u => (u.setF F.PWR_STAT_READY 1).setF F.PWR_STAT_STATE (if nbits u.pwr.held 0 1 = 1 then 2 else 1))
  else t

/-- M joins the fence of a trip in force (R430). -/
def State.tripAddM (s : State) : State :=
  if nbits s.pwr.toHold 0 1 = 1 ∨ nbits s.pwr.held 0 1 = 1 then s
  else
    let t := s.fenceStart 0
    { t with pwr := { t.pwr with toHold := t.pwr.toHold + 1 } }.holdDrained

/-- The third trip within 3,600 s of operating time (R432). -/
def State.thirdTrip (s : State) : Bool :=
  match s.thm.trips[1]? with
  | some x => decide (s.f F.PWR_OPTIME_OPTIME < x + hourUnits)
  | none => false

/-- A thermal trip acts (R430): recorded, sequencers stopped, loads ended, the stack fenced and then held. -/
def State.performTrip (s : State) (die : Nat) : State :=
  let t := (((s.incF F.THERM_STAT_TRIPS).setF F.THERM_STAT_DIE die).setF F.THERM_STAT_TRIPPED 1).raise Ev.THERM_TRIP
    [die, s.dieReading die]
  let u := if s.thirdTrip then (t.setF F.THERM_STAT_LATCHED 1).raise Ev.THERM_LATCHED [die, s.dieReading die] else t
  let x := if u.rb.isSome then u.endReadback 6 else u
  let v := (x.stopAll.endLoad rTrip).askFreeze 5
  let w := (v.fenceAll (tripDies die)).wdAround (fun x => { x with
    thm := { x.thm with trips := (x.f F.PWR_OPTIME_OPTIME :: x.thm.trips).take 3 }
    pwr := { x.pwr with toHold := Nat.lor x.pwr.toHold (tripDies die), byTrip := true, restart := none } })
  (if die = 0 then w.closeGates else w).holdDrained

/-- A trip is declared: during COMMIT it waits for its end (R383). -/
def State.declareTrip (s : State) (die : Nat) : State :=
  if s.ldStage = stCommit then { s with pwr := { s.pwr with pend := s.pwr.pend ++ [.trip die] } } else s.performTrip die

/-- Triggers of a fenced fabric restart, as FAB_RESTART carries them. -/
def byFabric : Nat := 0
def byWatchdog : Nat := 1
def bySlip : Nat := 2
def byTripEnd : Nat := 3

/-- The return from a trip (R431, R543, R387): the held dies leave reset; the fabric restarts, or with no image committed the
restart is skipped; the attempt list runs where the trip ended a full load. -/
def State.tripReturn (s : State) : State :=
  let m := nbits s.pwr.held 0 1 = 1
  let list := s.pwr.loadAfter
  let t := ((s.wdAround (fun s => ((s.setF F.THERM_STAT_TRIPPED 0).setF F.PWR_STAT_STATE 0).setF F.PWR_STAT_READY 0)))
  let u := { t with pwr := { t.pwr with held := 0, toHold := 0, byTrip := false, loadAfter := false } }
  let v := if u.b F.CFG_KEY_VALID then u.performRestart byTripEnd m else u.raise Ev.RESTART_SKIPPED [byTripEnd]
  if list ∧ v.loading = false then v.runList else v

end Sys2Proof.Machine
end

