-- ==== Sys2Proof/Machine/Signed.lean ====
section
/-!
DEFINITION. Sys2Proof/Machine/Signed.lean: the checks every signed command passes before it acts (R578 to R580).
-/
namespace Sys2Proof.Machine
open Sys2Proof

/-- `n` little-endian bytes of a list from `i` on, as a number. -/
def numAt (b : List Byte) (i n : Nat) : Nat := leNat ((b.drop i).take n)

/-- Bytes rounded up to a multiple of 4. -/
def pad4 (n : Nat) : Nat := (n + 3) / 4 * 4

/-- The fields of a signed command (Table 25-3). -/
def tokOpcode (t : Token) : Nat := numAt t.bytes 6 1
def tokSlot (t : Token) : Nat := numAt t.bytes 7 1
def tokCseq (t : Token) : Nat := numAt t.bytes 0x10 4
def tokPlen (t : Token) : Nat := numAt t.bytes 0x14 4
def tokPayload (t : Token) : List Byte := (t.bytes.drop 0x20).take (tokPlen t)

/-- The form of a signed command: MAGIC, VERSION, bytes that are 0, PLEN and length (R578). -/
def tokFormOk (t : Token) : Bool :=
  decide (0x20 ≤ t.bytes.length) && numAt t.bytes 0 4 == 0x444D4353 && numAt t.bytes 4 2 == 1
    && numAt t.bytes 0x18 8 == 0 && decide ((tokPlen t) ≤ (if (tokOpcode t) = 8 then 2097152 else 2048))
    && decide (t.bytes.length = 32 + pad4 (tokPlen t) + 1024)
    && ((t.bytes.drop (0x20 + (tokPlen t))).take (pad4 (tokPlen t) - (tokPlen t))).all (fun b => b == 0)

/-- A key slot is usable: PROV is 1 and REV is 0 (R574). -/
def State.slotUsable (s : State) (n : Nat) : Bool :=
  if h : n < 4 then s.fuse.prov[n] && !s.fuse.rev[n] else false

/-- A key slot verifies images and signed commands: it is usable, and the part is not BLANK, where none can verify
(R574, Table 25-6). -/
def State.slotVerifies (s : State) (n : Nat) : Bool := s.slotUsable n && s.fuse.lcs != 0

/-- The key a command names verifies; the manufacturing key serves PATCH alone (Table 25-5). -/
def State.tokenKeyOk (s : State) (t : Token) : Bool :=
  if (tokSlot t) = 0xFF then (tokOpcode t) == 8 && s.fuse.lcs != 0 else s.slotVerifies (tokSlot t)

/-- The first failing check of Table 25-5, by its RESULT; 0 where all pass (R579). `ops` are the opcodes of this path. -/
def State.tokenCheck (s : State) (t : Token) (ops : List Nat) : Nat :=
  if !tokFormOk t then 3
  else if numAt t.bytes 8 8 ≠ s.fuse.serial then 4
  else if !ops.contains (tokOpcode t) then 5
  else if !s.tokenKeyOk t then 6
  else if !t.sigOk then 7
  else if (tokCseq t) ≤ s.f F.SEC_CMDSEQ_CSEQ ∨ (tokCseq t) = 0xFFFFFFFF then 8
  else 0

/-- A command is accepted: SEC_CMDSEQ takes its CSEQ before it acts (R580). -/
def State.acceptToken (s : State) (t : Token) : State := s.setF F.SEC_CMDSEQ_CSEQ (tokCseq t)

end Sys2Proof.Machine
end

