-- ==== Sys2Proof/Machine/StaticCheck.lean ====
section
/-!
DEFINITION. Sys2Proof/Machine/StaticCheck.lean: the static check of Saeno programs (R157, R182, R216; Tables 6-2, 6-5, 7-1 to
7-3 and 7-9). A program is a sparse map of words by address; what it does not list reads as R375 states.
-/
namespace Sys2Proof.Machine
open Sys2Proof

/-- A program: its words by address, 0 to 65,535. -/
abbrev Pgm := NMap (BitVec 64)

/-- A word of a program. -/
def pgmAt (p : Pgm) (a : Nat) : Nat := (mget (pgmDefault a) p a).toNat

/-- The range checks of Table 7-9 for a word of sequencer `k`, but for LOOP's. -/
def rangeError (k w : Nat) : Bool :=
  let i := wImm w
  match wOp w with
  | 0x03 => !wR w && decide (L < nbits i 0 34)
  | 0x04 => nbits i 0 34 == 0 || L % nbits i 0 34 != 0
  | 0x12 => !wR w && nbits i 5 2 == 3
  | 0x21 => let c := nbits i 16 8
            !(decide (c ≤ 0x0D) || decide (0x20 ≤ c ∧ c ≤ 0x5F))
  | 0x39 => decide (6 < nbits i 0 4)
  | 0x40 => decide (wA w < 1 ∨ 28 < wA w)
  | 0x41 => decide (wD w < 1 ∨ 26 < wD w)
  | 0x50 => nbits i 12 7 == 0 || decide (64 < nbits i 6 6 + nbits i 12 7)
  | 0x60 => decide (3 < nbits i 4 3)
  | 0x61 => decide (3 < nbits i 24 3) || decide (8 < nbits i 0 4) || decide (32 < wA w + nbits i 0 4)
  | 0x70 => nbits i (4 + k) 1 == 0
  | _ => false

/-- LOOP's row of Table 7-9. -/
def loopError (p : Pgm) (a : Nat) : Bool :=
  let w := pgmAt p a
  let e := nbits w 0 16
  wOp w == opLoop && (decide (e ≤ a) || decide (opBr ≤ wOp (pgmAt p e) ∧ wOp (pgmAt p e) ≤ opHalt))

/-- A word at 16 or above breaks the Encoding row (Table 6-5, R216). -/
def encodingError (k : Nat) (p : Pgm) (a : Nat) : Bool :=
  illegalWord (pgmAt p a) || rangeError k (pgmAt p a) || loopError p a

/-- WAITAT, WAITATR, WAITREL, ALIGN: a timeline wait. -/
def timelineOp (op : Nat) : Bool := decide (1 ≤ op ∧ op ≤ opAlign)

/-! ## Vectors and single words (Tables 6-2 and 6-5) -/

/-- A vector word breaks its row. -/
def vectorError (p : Pgm) (i : Nat) : Bool :=
  let w := pgmAt p i
  if i < 10 then
    if nbits w 63 1 = 1 then nbits w 16 47 != 0 || decide (w % 65536 < 16) else w != 0 || i == 2
  else if i = 10 then nbits w 33 31 != 0
  else w != 0

/-- Entries of the present vectors. -/
def entries (p : Pgm) : List Nat :=
  (((List.range 10).filter (fun i => nbits (pgmAt p i) 63 1 == 1 && decide (16 ≤ pgmAt p i % 65536))).map
    (fun i => pgmAt p i % 65536)).eraseDups

/-- The entry of one vector. -/
def entryOf (p : Pgm) (i : Nat) : Option Nat :=
  if nbits (pgmAt p i) 63 1 = 1 ∧ 16 ≤ pgmAt p i % 65536 then some (pgmAt p i % 65536) else none

/-- A word at 16 or above breaks a row that it alone decides: Encoding, Targets, Bounded waits, Regions. `tiles` says which
regions have tiles. -/
def wordError (k : Nat) (p : Pgm) (tiles : Nat → Bool) (a : Nat) : Bool :=
  let w := pgmAt p a
  let op := wOp w
  encodingError k p a
    || decide ((op = opBr ∨ op = opBrc ∨ op = opCall) ∧ w % 65536 < 16)
    || decide ((op = opWait ∨ op = opQwait) ∧ nbits (pgmAt p 10) 16 16 = 0)
    || decide (op = 1 ∧ L ≤ nbits w 0 34)
    || (decide (opPrefetch ≤ op ∧ op ≤ 0x13) && !wR w && !tiles (nbits w 0 3))

/-! ## Paths -/

/-- A loop a path is in: first and last address, call depth, whether it may pass again, whether its count is immediate. -/
structure LoopPt where
  start : Nat
  last : Nat
  depth : Nat
  again : Bool
  imm : Bool
  deriving DecidableEq, Repr

/-- A point of a path: the address that issues, the entry the path began at, calls as return address and target and loops,
innermost first, calls a diversion left below that entry, diversions in progress (bit 0 ALT, bit 1 FAULT). -/
structure Pt where
  pc : Nat
  root : Nat
  calls : List (Nat × Nat)
  loops : List LoopPt
  base : Nat
  mode : Nat
  deriving DecidableEq, Repr

/-- Everything reachable from a list, given what each element leads to. -/
def closure {α : Type} [DecidableEq α] (next : α → List α) : Nat → List α → List α → List α
  | 0, _, seen => seen
  | _ + 1, [], seen => seen
  | n + 1, x :: work, seen =>
    let new := (next x).eraseDups.filter (fun y => !seen.contains y)
    closure next n (new ++ work) (new ++ seen)

/-- More points than any program has. -/
def pathFuel : Nat := 2 ^ 1024

/-- The next address in order. -/
def Pt.fall (p : Pt) (a : Nat) : List (Pt × Bool) := if a < 65536 then [({ p with pc := a }, false)] else []

/-- What follows an instruction that does not transfer: the word at E closes a pass of the innermost loop at its depth (R198). -/
def Pt.inOrder (p : Pt) : List (Pt × Bool) :=
  match p.loops with
  | l :: rest =>
    if l.last = p.pc ∧ l.depth = p.calls.length then
      (if l.again then [({ p with pc := l.start }, l.imm)] else []) ++ { p with loops := rest }.fall (p.pc + 1)
    else p.fall (p.pc + 1)
  | [] => p.fall (p.pc + 1)

/-- Loops a taken branch leaves (R199). -/
def leavePts (depth target : Nat) : List LoopPt → List LoopPt
  | l :: rest => if l.depth = depth ∧ ¬ (l.start ≤ target ∧ target ≤ l.last) then leavePts depth target rest else l :: rest
  | [] => []

/-- A call or loop that breaks Depth at a point (R197, R198). -/
def tooDeep (g : Pgm) (p : Pt) : Bool :=
  let w := pgmAt g p.pc
  if wOp w = opCall then
    decide (16 ≤ p.calls.length) || w % 65536 == p.root
      || (p.calls.take (p.calls.length - p.base)).any (fun c => c.2 == w % 65536)
  else wOp w == opLoop && (wR w || nbits w 16 16 != 0) && decide (4 ≤ p.loops.length)

/-- What a point leads to, and whether that is the back-edge of a LOOP with an immediate count. -/
def follow (k : Nat) (g : Pgm) (p : Pt) : List (Pt × Bool) :=
  let w := pgmAt g p.pc
  let op := wOp w
  let t := w % 65536
  if p.pc < 16 ∨ encodingError k g p.pc ∨ op = opHalt ∨ tooDeep g p then []
  else if op = opBr ∨ op = opBrc then
    ({ p with pc := t, loops := leavePts p.calls.length t p.loops }, false) :: (if op = opBrc then p.inOrder else [])
  else if op = opCall then
    if p.pc + 1 < 65536 then [({ p with pc := t, calls := (p.pc + 1, t) :: p.calls }, false)] else []
  else if op = opRet then
    match p.calls with
    | c :: rest =>
      let left := p.loops.dropWhile (fun l => l.depth == rest.length + 1)
      [({ p with pc := c.1, calls := rest, loops := left, base := min p.base rest.length }, false)]
    | [] => []
  else if op = opLoop then
    let n := nbits w 16 16
    (if wR w ∨ n = 0 then p.fall (t + 1) else [])
      ++ (if wR w ∨ n ≠ 0 then
            { p with loops := { start := p.pc + 1, last := t, depth := p.calls.length, again := wR w || decide (1 < n), imm := !wR w }
                :: p.loops }.fall (p.pc + 1)
          else [])
  else if op = opSwitch then { p with mode := p.mode / 2 * 2 }.inOrder
  else if timelineOp op then { p with mode := p.mode % 2 }.inOrder
  else p.inOrder

/-- A point whose instruction can pass address 65,535. -/
def fallsOff (k : Nat) (g : Pgm) (p : Pt) : Bool :=
  let w := pgmAt g p.pc
  let op := wOp w
  !encodingError k g p.pc && op != opHalt && op != opBr && op != opRet
    && (p.pc == 65535 || op == opLoop && (wR w || nbits w 16 16 == 0) && w % 65536 == 65535)

/-- The point a path starts at. -/
def Pt.entry (e : Nat) : Pt := { pc := e, root := e, calls := [], loops := [], base := 0, mode := 0 }

/-- Points on paths from the entries. -/
def points (k : Nat) (g : Pgm) : List Pt :=
  let r := (entries g).map Pt.entry
  closure (fun p => (follow k g p).map (·.1)) pathFuel r r

/-- A point after a diversion: both stacks stay (R165, R168). -/
def Pt.divert (p : Pt) (e m : Nat) : Pt :=
  { p with pc := e, root := e, base := p.calls.length, mode := Nat.lor p.mode m }

/-- Diversions that can arise at a point. -/
def diversions (g : Pgm) (p : Pt) : List Pt :=
  (match entryOf g 0 with | some e => if p.mode / 2 = 0 then [p.divert e 2] else [] | none => [])
    ++ (match entryOf g 1 with | some e => if p.mode = 0 then [p.divert e 1] else [] | none => [])

/-- Points on paths that diversions may interrupt. -/
def divertedPoints (k : Nat) (g : Pgm) : List Pt :=
  let r := (entries g).map Pt.entry
  closure (fun p => (follow k g p).map (·.1) ++ diversions g p) pathFuel r r

/-- Addresses on a path to a call or loop too deep. -/
def depthErrors (k : Nat) (g : Pgm) : List Nat :=
  ((divertedPoints k g).filter (fun p =>
    (closure (fun x => (follow k g x).map (·.1)) pathFuel [p] [p]).any (tooDeep g))).map (·.pc)

/-- Edges of a cycle without a timeline wait that no LOOP with an immediate count closes. -/
def slowEdges (k : Nat) (g : Pgm) (p : Pt) : List Pt :=
  if timelineOp (wOp (pgmAt g p.pc)) then []
  else ((follow k g p).filter (fun e => !e.2 && !timelineOp (wOp (pgmAt g e.1.pc)))).map (·.1)

/-- Addresses on such a cycle; a handler's RET may lead back through the stacks its diversion kept. -/
def progressErrors (k : Nat) (g : Pgm) : List Nat :=
  ((divertedPoints k g).filter (fun p => (closure (slowEdges k g) pathFuel (slowEdges k g p) (slowEdges k g p)).contains p)).map (·.pc)

/-- Points paired with the plane that the last SWITCH of a region names, where that is certain: a path from the FAULT or ALT entry
has no SWITCH before it, whatever stacks it starts with. -/
def planePoints (k : Nat) (g : Pgm) (j : Nat) : List (Pt × Option Nat) :=
  let r := (entries g).map (fun e => (Pt.entry e, (none : Option Nat)))
  closure (fun x =>
    let w := pgmAt g x.1.pc
    let l := if wOp w = opSwitch then (if wR w then none else if nbits w 0 3 = j then some (nbits w 3 2) else x.2) else x.2
    (follow k g x.1).map (fun e => (e.1, l)) ++ (diversions g x.1).map (fun e => (e, none))) pathFuel r r

/-- Addresses of PREFETCHes that name a plane certainly current (Table 6-5). -/
def planeErrors (k : Nat) (g : Pgm) : List Nat :=
  (((divertedPoints k g).map (·.pc)).eraseDups).filter (fun a =>
    let w := pgmAt g a
    wOp w == opPrefetch && !wR w
      && ((planePoints k g (nbits w 0 3)).filter (fun x => x.1.pc == a)).all (fun x => x.2 == some (nbits w 3 2)))

/-! ## Barriers -/

/-- The words of the programs, with their layer and address. -/
def allWords (ps : List (Nat × Pgm)) : List (Nat × Nat × Nat) :=
  ps.flatMap (fun e => (e.2.filter (fun x => decide (16 ≤ x.1))).map (fun x => (e.1, x.1, x.2.toNat)))

/-- Layers and addresses that break the Barriers row: masks that differ, a participant with no BARRIER, a SIGNAL or WAIT on a
barrier flag. -/
def barrierErrors (ps : List (Nat × Pgm)) : List (Nat × Nat) :=
  let ws := allWords ps
  let bars := ws.filter (fun e => wOp e.2.2 == opBarrier)
  let flag (e : Nat × Nat × Nat) : Nat := nbits e.2.2 0 4
  let mask (e : Nat × Nat × Nat) : Nat := nbits e.2.2 4 4
  let one := bars.filter (fun e => bars.any (fun x => flag x == flag e && mask x != mask e)
    || (List.range 4).any (fun q => nbits (mask e) q 1 == 1 && !bars.any (fun x => flag x == flag e && x.1 == q)))
  let two := ws.filter (fun e => (wOp e.2.2 == opSignal || wOp e.2.2 == opWait) && bars.any (fun x => flag x == flag e))
  (one ++ two).map (fun e => (e.1, e.2.1))

/-! ## The check -/

/-- Addresses of one program that break a row of Table 6-5, but for Barriers. -/
def programErrors (k : Nat) (g : Pgm) (tiles : Nat → Bool) : List Nat :=
  (List.range 16).filter (vectorError g)
    ++ (g.map (·.1)).filter (fun a => decide (16 ≤ a) && wordError k g tiles a)
    ++ ((divertedPoints k g).filter (fallsOff k g)).map (·.pc)
    ++ depthErrors k g ++ progressErrors k g ++ planeErrors k g

/-- The least of a list of addresses. -/
def least : List Nat → Option Nat
  | [] => none
  | a :: l => match least l with | some b => some (min a b) | none => some a

/-- The static check of programs by layer: the lowest layer that fails, and its lowest failing address (R182). -/
def staticCheck (ps : List (Nat × Pgm)) (tiles : Nat → Nat → Bool) : Option (Nat × Nat) :=
  let bars := barrierErrors ps
  (List.range 4).findSome? (fun k =>
    match ps.find? (fun e => e.1 == k) with
    | none => none
    | some e => (least (programErrors k e.2 (tiles k) ++ (bars.filter (fun b => b.1 == k)).map (·.2))).map (fun a => (k, a)))

end Sys2Proof.Machine
end

