-- ==== Sys2Proof/Machine/Loader.lean ====
section
/-!
DEFINITION. Sys2Proof/Machine/Loader.lean: LOAD and ABORT, the boot list, the stages HEADER to CHECK, the commit of an image up
to the release of set-reset, and the flash operations (chapter 14; R391 to R395).
-/
namespace Sys2Proof.Machine
open Sys2Proof

/-! ## Flash (R385, R388) -/

/-- Bytes of an image slot. -/
def slotBytes : Nat := 0x10000000

/-- A flash byte; one that nothing has written is erased (R369). -/
def State.flashByte (s : State) (a : Nat) : Byte := mget 0xFF s.board.flash a

/-- A range lies wholly within one fitted device (R385). -/
def State.fitted (s : State) (a n : Nat) : Bool :=
  decide (a + n ≤ s.board.flashSize.1 ∧ a < 0x20000000)
    || decide (0x20000000 ≤ a ∧ a + n ≤ 0x20000000 + s.board.flashSize.2)

/-- An image slot is present (R385). -/
def State.slotPresent (s : State) (slot : Nat) : Bool := s.fitted (slotBytes * slot) slotBytes

/-- Words of an image slot. -/
def State.flashWords (s : State) (slot i n : Nat) : List Word :=
  (List.range n).map (fun k => BitVec.ofNat 32 (leNat ((List.range 4).map (fun b =>
    s.flashByte (slotBytes * slot + 4 * (i + k) + b)))))

/-! ## The source of a load -/

/-- The load in progress goes on in the present fc. -/
def State.setLoad (s : State) (l : Load) : State := { s with ld := some { l with since := s.tl.fc } }

/-- A failure of the source that ends the load at once: reason and ERRINFO (Table 14-7). -/
def State.srcFail (s : State) (l : Load) : SrcRead → Option (Nat × Nat)
  | .words _ => none
  | .ended => some (rTruncated, l.pos)
  | .flashErr => if l.flash then some (rFlasherr, slotBytes * l.slot + 4 * l.pos) else none
  | .hostErr => if l.flash then none else some (rHosterr, l.pos)
  | .linkFail k => if nbits s.vl.dead (1 + k.val) 1 = 1 then some (rLinkfail, k.val) else none

/-- The flash device of a byte (R385). -/
def flashDevice (a : Nat) : Nat := if a < 0x20000000 then 0 else 1

/-- The load ends for its source; a device's error is an event of the xSPI port (R462, R466). -/
def State.srcReject (s : State) (l : Load) (e : Nat × Nat) : State :=
  (if e.1 = rFlasherr then s.raise Ev.XSPI_ERR [flashDevice e.2] else s).rejectLoad l e.1 e.2 l.pos

/-- The next words of the source. -/
def State.srcWords (s : State) (l : Load) (r : SrcRead) (n : Nat) : Option (List Word) :=
  match r with
  | .words ws => if l.flash then some (s.flashWords l.slot l.pos n) else if n ≤ ws.length then some (ws.take n) else none
  | _ => none

/-! ## LOAD, ABORT, BOOT (R384 to R387) -/

/-- A command of the loader is ignored. -/
def State.cfgReject (s : State) : State := s.setF F.CFG_STATUS_CMDREJ 1

/-- LOAD (R387): accepted in IDLE, DONE or FAILED while no flash operation runs. -/
def execLoad (who : Who) (v : Word) (s : State) : Host.Outcome State Fault Refusal :=
  ok (s.onBus who Rg.CFG_CMD v (fun t =>
    if nbits v.toNat 28 4 = 1 then
      if t.loading ∨ t.b F.CFG_FLCMD_BUSY then t.cfgReject
      else if nbits v.toNat 2 1 = 1 then t.startLoad false false (nbits v.toNat 0 2) (t.f F.CFG_HLEN_LEN / 4) []
      else t.startLoad true false (nbits v.toNat 0 2) flashSlotWords []
    else t))

/-- ABORT (R387): before COMMIT the load ends with ABORTED. -/
def execAbort (who : Who) (v : Word) (s : State) : Host.Outcome State Fault Refusal :=
  ok (s.onBus who Rg.CFG_CMD v (fun t => if nbits v.toNat 28 4 = 2 then t.endLoad rAborted else t))

/-- BOOT (R384, R542): the clocks are stable and start-up is past the lane test; BOOTSEL decides. -/
def execBoot (s : State) : Host.Outcome State Fault Refusal :=
  onlyIf (s.pwr.bootWait = true ∧ s.pwr.stable = true ∧ s.pwr.started = true ∧ s.b F.VL_TEST_RUNNING = false) s
    (let t : State := { s with pwr := { s.pwr with bootWait := false, golden := false } }
     if s.loading then t
     else if s.pwr.golden then t.nextAttempt true [0]
     else match s.f F.CFG_BOOT_BOOTSEL with
       | 0 => t.runList
       | 1 => t.nextAttempt true [0]
       | _ => t)

/-! ## HEADER (R369, R379, R381) -/

/-- Words 0 to 6 checked in the order of Table 14-7: reason, ERRINFO and ERRWORD of the first that fails. -/
def State.headerFail (s : State) (l : Load) (ws : List Word) : Option (Nat × Nat × Nat) :=
  let w (i : Nat) : Nat := (ws.getD i 0).toNat
  let d := w 5
  let kind := nbits d 30 2
  let key := w 6
  if w 0 ≠ 0x4E415543 then some (rMagic, w 0, 0)
  else if nbits (w 1) 16 16 ≠ 1 then some (rVersion, w 1, 1)
  else if w 2 ≠ 0x96 then some (rFamily, w 2, 2)
  else if nbits (w 3) 0 28 ≠ nbits (s.f F.CFG_IDCODE_IDCODE) 0 28 then some (rIdcode, w 3, 3)
  else if w 4 < 10 ∨ l.cap < w 4 + 256 then some (rLength, w 4, 4)
  else if nbits d 0 24 ≠ 0 ∨ 2 ≤ kind ∨ kind = 0 ∧ nbits d 24 6 ≠ 0
      ∨ kind = 1 ∧ (l.flash ∨ s.regionTiles (Fin.ofNat 4 (nbits d 28 2)) (Fin.ofNat 8 (nbits d 25 3)) = []) then some (rDesc, d, 5)
  else if s.slotVerifies key = false then some (rKeyslot, key, 6)
  else none

/-- What the header says of the image. -/
def Load.header (l : Load) (ws : List Word) : Load :=
  let d := (ws.getD 5 0).toNat
  { l with partl := nbits d 30 2 != 0, layer := nbits d 28 2, region := nbits d 25 3, setReset := nbits d 24 1 == 1,
           keySlot := (ws.getD 6 0).toNat, len := (ws.getD 4 0).toNat, pos := 7,
           digest := ws.foldl Config.digestStep 0 }

/-- The header's words have been read. -/
def State.headerRead (s : State) (l : Load) (ws : List Word) : State :=
  let m := l.header ws
  let t := s.setF F.CFG_STATUS_PARTIAL (if nbits (ws.getD 5 0).toNat 30 2 = 1 then 1 else 0)
  match s.headerFail l ws with
  | some e => t.rejectLoad m e.1 e.2.1 e.2.2
  | none =>
    ((if m.partl then t else t.tearDown.raise Ev.CFG_TEARDOWN m.src).setF F.CFG_STATUS_STAGE stStream).setLoad m

/-- HEADER (R381): the slot's presence first, then the words. -/
def execHeader (r : SrcRead) (s : State) : Host.Outcome State Fault Refusal :=
  match s.ld with
  | none => ok s
  | some l => onlyIf (s.ldStage = stHeader) s
      (if l.flash ∧ s.slotPresent l.slot = false then s.rejectLoad l rNoslot l.slot 0
       else match s.srcFail l r with
         | some e => s.srcReject l e
         | none =>
           if l.cap < 7 then s.rejectLoad l rTruncated l.cap l.cap
           else match s.srcWords l r 7 with
             | some ws => s.headerRead l ws
             | none => s)

/-! ## Frame addresses (R373, R374; Table 14-4) -/

def farLayer (far : Nat) : Fin 4 := Fin.ofNat 4 (nbits far 30 2)
def farSlot (far : Nat) : Fin 32 := Fin.ofNat 32 (nbits far 25 5)
def farTile (far : Nat) : Fin 64 := Fin.ofNat 64 (nbits far 19 6)
def farCol (far : Nat) : Nat := nbits far 13 6
def farKind (far : Nat) : Nat := nbits far 10 3
def farMinor (far : Nat) : Nat := nbits far 0 10

/-- Bytes of the frame at an address; none: no such frame. An address above 32 bits stands for one past the last frame. -/
def frameLen (far : Nat) : Option Nat :=
  let m := farMinor far
  let c := farCol far
  if 2 ^ 32 ≤ far then none
  else match farKind far with
    | 0 => if m = 0 then some 8192 else none
    | 1 => if c = 0 ∧ m = 0 then some 1024 else none
    | 2 => if c = 0 then (if m = 0 then some 8192 else if m = 1 then some 16 else none) else none
    | 3 => if c = 0 ∧ (m = 0 ∧ nbits far 30 2 ≠ 0 ∨ m = 1 ∧ nbits far 30 2 ≠ 3) then some 260 else none
    | 4 => if c = 0 ∧ m = 0 then some 256 else none
    | 5 => if c = 0 ∧ nbits far 19 11 = 0 ∧ m < 64 then some 8192 else none
    | 6 => if c = 0 ∧ nbits far 19 11 = 0 then (if m = 0 then some 256 else if m = 1 then some 64 else none) else none
    | _ => none

/-- The address after a frame's; past the last, the same with bit 32 set. -/
def frameNext (far : Nat) : Nat :=
  let past := 2 ^ 32 + far
  match farKind far with
  | 0 => if farCol far < 63 then far + 2 ^ 13
         else if nbits far 19 6 < 63 then far - 63 * 2 ^ 13 + 2 ^ 19 else past
  | 5 => if farMinor far < 63 then far + 1 else past
  | 6 => if farMinor far = 0 then far + 1 else past
  | _ => if nbits far 19 6 < 63 then far + 2 ^ 19 else past

/-- The frames a block of words, or a FILL of frames, covers from an address on; the address after them; or the reason and
ERRINFO of the first that may not be (R374). `left` counts words of a block, frames of a FILL. -/
def walkFrames (fill : Bool) : Nat → Nat → Nat → List Nat × Nat × Option (Nat × Nat)
  | 0, far, _ => ([], far, none)
  | n + 1, far, left =>
    if left = 0 then ([], far, none)
    else match frameLen far with
      | none => ([], far, some (rBadfar, far % 2 ^ 32))
      | some len =>
        let w := if fill then 1 else len / 4
        if left < w then ([], far, some (rBadpacket, 0))
        else
          let r := walkFrames fill n (frameNext far) (left - w)
          (far :: r.1, r.2.1, r.2.2)

/-! ## Writing frames (R377, R378) -/

/-- A slot is active in a region (R111). -/
def State.slotActive (s : State) (ly : Fin 4) (j : Fin 8) (slot : Fin 32) : Bool :=
  (List.finRange 4).any (fun p => (s.plane ly j p).st != .empty && (s.plane ly j p).filled && (s.plane ly j p).slot == slot)

/-- Put bytes of a number into stored slots from a content key on, with a fresh code. -/
def State.putSlot (s : State) (base n x : Nat) : State :=
  { s with fab := { s.fab with slots := mputNum s.fab.slots base n x, slotErr := mcut s.fab.slotErr (base / 16) ((base + n + 15) / 16) } }

/-- Where a routing frame's bytes lie in a context (Tables 3-6, 5-3). -/
def routeOff (kind minor : Nat) : Nat :=
  match kind with
  | 1 => offCluster
  | 2 => if minor = 0 then offTap else offRoot
  | 3 => if minor = 0 then offLower else offUpper
  | _ => offHorn

/-- Where the tine at a row of a tine column lies in a context (R29, R65). -/
def tineOff (col row : Nat) : Nat := 128 * (16 * (16 * (row / 4) + col / 4) + 4 * (row % 4) + col % 4)

/-- Write a frame of kinds 0 to 4 whose bytes spell a number. -/
def State.writeSlotFrame (s : State) (far x : Nat) : State :=
  let key (o : Nat) : Nat := ckey (farLayer far) (farTile far) (farSlot far).val o
  if farKind far = 0 then
    (List.range 64).foldl (fun t row => t.putSlot (key (tineOff (farCol far) row)) 128 (x / 256 ^ (128 * row) % 256 ^ 128)) s
  else s.putSlot (key (routeOff (farKind far) (farMinor far))) ((frameLen far).getD 0) x

/-- Stage a program frame; none: FILL (R375). -/
def Load.stageProgram (l : Load) (far : Nat) (data : Option Nat) : Load :=
  let base := 65536 * nbits far 30 2 + 1024 * farMinor far
  let m := { l with progLy := Nat.lor l.progLy (2 ^ nbits far 30 2) }
  match data with
  | none => { m with prog := mcut l.prog base (base + 1024) }
  | some x => { m with prog := (List.range 1024).foldl (fun p i =>
      mput (pgmDefault (base + i)) p (base + i) (BitVec.ofNat 64 (x / 2 ^ (64 * i)))) l.prog }

/-- Stage a kind-6 frame (R376). -/
def Load.stageIo (l : Load) (far x : Nat) : Load :=
  { l with io := mputNum l.io (512 * nbits far 30 2 + 256 * farMinor far) (if farMinor far = 0 then 256 else 64) x }

/-- The region of a tile as the image addresses it: the committed map of a partial image. -/
def State.outside (s : State) (l : Load) (far : Nat) : Bool :=
  l.partl && (nbits far 30 2 != l.layer || farKind far == 6
    || (decide (farKind far ≤ 4) && (s.tileRegion (farLayer far) (farTile far)).val != l.region))

/-- Write one frame, its data a number or none for FILL; `w` is the stream word that is named where it may not be written
(R378, R381). -/
def State.writeFrame (s : State) (l : Load) (far w : Nat) (data : Option Nat) : State × Load :=
  let j : Fin 8 := s.tileRegion (farLayer far) (farTile far)
  if l.err.isSome then (s, l)
  else if s.outside l far then (s, { l with err := some (rRegion, far, w) })
  else if farKind far = 5 then (s.setReg Rg.CFG_FAR (BitVec.ofNat 32 far), l.stageProgram far data)
  else if farKind far = 6 then (s.setReg Rg.CFG_FAR (BitVec.ofNat 32 far), l.stageIo far (data.getD 0))
  else if l.partl ∧ s.slotActive (farLayer far) j (farSlot far) then (s, { l with err := some (rActive, far, w) })
  else
    let t := if l.partl then s.setF ⟨Rg.CFG_LR_SLOTV (farLayer far).val j.val, (farSlot far).val, 1⟩ 0 else s
    ((t.writeSlotFrame far (data.getD 0)).setReg Rg.CFG_FAR (BitVec.ofNat 32 far), { l with frames := far :: l.frames })

/-- The number that little-endian words spell. -/
def wordsNat (ws : List Word) : Nat := leNat (ws.flatMap (fun w => leBytes 4 w.toNat))

/-- Write the frames of a block from its words, the first of them stream word `w`. -/
def State.writeBlock : List Nat → Nat → List Word → State × Load → State × Load
  | [], _, _, x => x
  | far :: rest, w, ws, x =>
    let n := (frameLen far).getD 0 / 4
    writeBlock rest (w + n) (ws.drop n) (x.1.writeFrame x.2 far w (some (wordsNat (ws.take n))))

/-! ## STREAM (R371, R372, R381) -/

/-- Words behind a packet header. -/
def packetWords (h : Nat) : Nat := if 1 ≤ nbits h 28 4 ∧ nbits h 28 4 ≤ 3 then nbits h 0 20 else 0

/-- CFG_OPT, or CFG_REGION of a full image, has not been written (R372). -/
def Load.missing (l : Load) : Bool := l.opt.isNone || (!l.partl && l.rmap.isNone)

/-- A packet is BADPACKET by its header, its place and what came before it (R371, R372). -/
def Load.packetBad (l : Load) (h : Nat) : Bool :=
  let reg := nbits h 20 8
  let cnt := nbits h 0 20
  let fits := decide (l.pos + 1 + packetWords h ≤ l.len - 1)
  match nbits h 28 4 with
  | 1 => !fits || !((reg == 1 || reg == 2) && cnt == 1 || (reg == 5 && cnt == 32 && !l.partl && l.rmap.isNone && !l.framed)
            || (reg == 6 && cnt == 1 && l.opt.isNone && !l.framed))
  | 2 => !fits || reg != 3 || cnt == 0 || l.missing || l.far.isNone
  | 3 => !fits || reg != 0
  | 4 => !fits || reg != 2 || cnt == 0 || l.missing || l.far.isNone
  | 5 => reg != 0 || cnt != 0 || l.pos != l.len - 1 || l.missing
  | _ => true

/-- The first stream error is recorded (R381). -/
def State.streamError (s : State) (l : Load) (reason info word : Nat) : State := s.setLoad { l with err := some (reason, info, word) }

/-- The tag has been read: VERIFY. -/
def State.toTag (s : State) (l : Load) : State :=
  (s.setF F.CFG_STATUS_STAGE stVerify).setLoad { l with pos := l.len + 256, ended := true }

/-- A register write takes effect (Table 14-3). -/
def State.registerPacket (s : State) (l : Load) (h : Nat) (body : List Word) : State :=
  let m := { l with pos := l.pos + 1 + body.length }
  let w := body.getD 0 0
  match nbits h 20 8 with
  | 1 => if nbits w.toNat 0 28 = nbits (s.f F.CFG_IDCODE_IDCODE) 0 28 then s.setLoad m
         else s.streamError m rIdcode w.toNat (l.pos + 1)
  | 2 => s.setLoad { m with far := some w.toNat }
  | 5 => s.setLoad { m with rmap := some body }
  | _ => s.setLoad { m with opt := some w }

/-- Tiles whose stored-slot ports a list of frames is written through, by 64 x layer + tile. -/
def frameTiles (fars : List Nat) : List Nat :=
  ((fars.filter (fun far => decide (farKind far ≤ 4))).map (fun far => tileNo (farLayer far) (farTile far))).eraseDups

/-- The stream may write through the ports of all these tiles in the present fc (R124, R326). -/
def State.tilesFree (s : State) (tiles : List Nat) : Bool := tiles.all (fun n => s.tileFree (Fin.ofNat 4 (n / 64)) (Fin.ofNat 64 n))

/-- A PREFETCH of the present fc has been accepted from a slot that a list of frames would write: it came before, and the stream
waits for the next fc, in which it finds the slot active (R378). -/
def State.slotsAsked (s : State) (fars : List Nat) : Bool :=
  fars.any (fun far => decide (farKind far ≤ 4) && (List.finRange 4).any (fun p =>
    (s.plane (farLayer far) (s.tileRegion (farLayer far) (farTile far)) p).ask == some (farSlot far)))

/-- A frame block or FILL takes effect: every address checked first, then the frames written (R371, R374). A block whose ports a
refill, a write-back or readback has in the present fc waits: the stream stands as it was (R124, log 110). -/
def State.framePacket (s : State) (l : Load) (h : Nat) (fill : Bool) (body : List Word) : State :=
  let cnt := nbits h 0 20
  let m := { l with pos := l.pos + 1 + body.length, framed := true }
  match walkFrames fill cnt (l.far.getD 0) cnt with
  | (_, _, some (reason, info)) => s.streamError m reason (if reason = rBadpacket then h else info) l.pos
  | (fars, next, none) =>
    let tiles := frameTiles fars
    if s.tilesFree tiles ∧ s.slotsAsked fars = false then
      let t := { s with fab := { s.fab with tileUse := tiles ++ s.fab.tileUse } }
      let r := if fill then fars.foldl (fun x far => x.1.writeFrame x.2 far l.pos none) (t, m)
               else State.writeBlock fars (l.pos + 1) body (t, m)
      r.1.setLoad { r.2 with far := some next }
    else s

/-- A packet that may be takes effect. -/
def State.packetAct (s : State) (l : Load) (h : Nat) (body : List Word) : State :=
  match nbits h 28 4 with
  | 1 => s.registerPacket l h body
  | 2 => s.framePacket l h false body
  | 3 => s.setLoad { l with pos := l.pos + 1 + body.length }
  | 4 => s.framePacket l h true []
  | _ => s.toTag l

/-- A packet of a type is read (R371): a failed source ends the load; after a recorded error only END is left, which reads on to
the tag; a packet of another defined type is none of this command's; a bad one is recorded. -/
def State.packet (s : State) (type : Nat) (r : SrcRead) : State :=
  match s.ld with
  | none => s
  | some l =>
    if s.ldStage ≠ stStream then s
    else match s.srcFail l r with
      | some e => s.srcReject l e
      | none =>
        if l.err.isSome then (if type = 5 then s.toTag l else s)
        else match s.srcWords l r 1 with
          | some [hw] =>
            let h := hw.toNat
            if 1 ≤ nbits h 28 4 ∧ nbits h 28 4 ≤ 5 ∧ nbits h 28 4 ≠ type then s
            else if l.packetBad h then s.streamError l rBadpacket h l.pos
            else match s.srcWords l r (1 + packetWords h) with
              | some (hd :: body) => s.packetAct { l with digest := (hd :: body).foldl Config.digestStep l.digest } h body
              | _ => s
          | _ => s

/-- REGISTER_WRITE (R372). -/
def execRegisterWrite (r : SrcRead) (s : State) : Host.Outcome State Fault Refusal := ok (s.packet 1 r)

/-- FRAME_BLOCK (R374). -/
def execFrameBlock (r : SrcRead) (s : State) : Host.Outcome State Fault Refusal := ok (s.packet 2 r)

/-- NO_OP (R371). -/
def execNoOp (r : SrcRead) (s : State) : Host.Outcome State Fault Refusal := ok (s.packet 3 r)

/-- FILL (R375). -/
def execFill (r : SrcRead) (s : State) : Host.Outcome State Fault Refusal := ok (s.packet 4 r)

/-- END (R371). -/
def execEndPacket (r : SrcRead) (s : State) : Host.Outcome State Fault Refusal := ok (s.packet 5 r)

/-! ## VERIFY (R370, R381) -/

/-- The key hash and the signature have been decided. -/
def State.verified (s : State) (l : Load) (keyOk sigOk : Bool) : State :=
  if keyOk = false then s.rejectLoad l rKeyhash 0 l.len
  else if sigOk = false then s.rejectLoad l rSignature 0 l.len
  else match l.err with
    | some e => s.rejectLoad l e.1 e.2.1 e.2.2
    | none => (s.setF F.CFG_STATUS_STAGE stCheck).setLoad l

/-- VERIFY (R370). -/
def execVerify (r : SrcRead) (keyOk sigOk : Bool) (s : State) : Host.Outcome State Fault Refusal :=
  match s.ld with
  | none => ok s
  | some l => onlyIf (s.ldStage = stVerify) s
      (match s.srcFail l r with
       | some e => s.srcReject l e
       | none => s.verified l keyOk sigOk)

/-! ## CHECK (R382) -/

/-- The region of a tile in the map that CHECK means: the image's for a full image, the committed one for a partial one. -/
def State.mapRegion (s : State) (l : Load) (ly t : Nat) : Nat :=
  match l.rmap with
  | some ws => if l.partl then (s.tileRegion (Fin.ofNat 4 ly) (Fin.ofNat 64 t)).val
               else nbits (ws.getD (8 * ly + t / 8) 0).toNat (4 * (t % 8)) 3
  | none => (s.tileRegion (Fin.ofNat 4 ly) (Fin.ofNat 64 t)).val

/-- Tiles of a region in that map. -/
def State.mapTiles (s : State) (l : Load) (ly j : Nat) : List Nat := (List.range 64).filter (fun t => s.mapRegion l ly t == j)

/-- Frames of one tile that make a slot complete (R382). -/
def tileFrames (ly slot tile : Nat) : List Nat :=
  let base := ly * 2 ^ 30 + slot * 2 ^ 25 + tile * 2 ^ 19
  (List.range 64).map (fun c => base + c * 2 ^ 13) ++ [base + 1024, base + 2048, base + 2049]
    ++ (if ly ≠ 0 then [base + 3072] else []) ++ (if ly ≠ 3 then [base + 3073] else []) ++ [base + 4096]

/-- Frames that a slot lacks for a region. -/
def State.lacking (s : State) (l : Load) (ly j slot : Nat) : List Nat :=
  ((s.mapTiles l ly j).flatMap (tileFrames ly slot)).filter (fun far => !l.frames.contains far)

/-- Slots the image writes, with layer and region. -/
def State.written (s : State) (l : Load) : List (Nat × Nat × Nat) :=
  (l.frames.map (fun far => (nbits far 30 2, s.mapRegion l (nbits far 30 2) (nbits far 19 6), nbits far 25 5))).eraseDups

/-- Layer and region pairs with tiles. -/
def State.mapRegions (s : State) (l : Load) : List (Nat × Nat) :=
  ((List.range 4).flatMap (fun ly => (List.range 8).map (fun j => (ly, j)))).filter (fun e => !(s.mapTiles l e.1 e.2).isEmpty)

/-- A layer's words of a map of program words, by address. -/
def layerPgm (m : Pgm) (k : Nat) : Pgm := (mrange m (65536 * k) (65536 * k + 65536)).map (fun e => (e.1 - 65536 * k, e.2))

/-- The programs checked together: the image's, and with a partial image the resident ones of the other layers. -/
def State.checkedPrograms (s : State) (l : Load) : List (Nat × Pgm) :=
  ((List.range 4).filter (fun k => nbits l.progLy k 1 == 1 || (l.partl && (s.vector (Fin.ofNat 4 k) 2).isSome))).map
    (fun k => (k, layerPgm (if nbits l.progLy k 1 = 1 then l.prog else s.fab.pgm) k))

/-- The static check of the image's programs (R182). -/
def State.staticFail (s : State) (l : Load) : Option (Nat × Nat) :=
  if l.progLy = 0 then none
  else staticCheck (s.checkedPrograms l) (fun ly j => !(s.mapTiles l ly j).isEmpty)

/-- The rows of CHECK in table order: reason and ERRINFO of the first that fails. -/
def State.checkFail (s : State) (l : Load) : Option (Nat × Nat) :=
  let ws := l.rmap.getD []
  let lack := (s.written l).flatMap (fun e => s.lacking l e.1 e.2.1 e.2.2)
  let seq := (s.seq (Fin.ofNat 4 l.layer)).mode
  match (if l.partl then none else ws.find? (fun w => Nat.land w.toNat 0x88888888 != 0)) with
  | some w => some (rRegionmap, w.toNat)
  | none =>
    match (if l.partl then none else (s.mapRegions l).find? (fun e => !(s.lacking l e.1 e.2 0).isEmpty)) with
    | some e => some (rNoslot0, e.1 * 2 ^ 30 + e.2)
    | none =>
      match least lack with
      | some far => some (rIncomplete, far)
      | none =>
        if (l.opt.getD 0).getLsbD 0 = false then some (rNotclosed, (l.opt.getD 0).toNat)
        else match s.staticFail l with
          | some e => some (rStatic, e.1 * 2 ^ 30 + e.2)
          | none =>
            if l.partl ∧ l.progLy ≠ 0 ∧ seq ≠ .stopped ∧ seq ≠ .faulted then some (rProgbusy, l.layer * 2 ^ 30) else none

/-! ## Commit (R383, R393) -/

/-- A slot whose shaft frame drives a failed group becomes unrunnable (R102, R383, R393). -/
def State.judgeSlot (s : State) (e : Nat × Nat × Nat) : State :=
  let ly : Fin 4 := Fin.ofNat 4 e.1
  let j : Fin 8 := Fin.ofNat 8 e.2.1
  let bad (b : Nat) (upperB : Bool) : Bool := (s.regionTiles ly j).any (fun t => (List.range 4).any (fun q =>
    s.b (F.VL_BG_STAT_FAILED b (4 * t.val + q)) && s.slotDrives ly upperB (4 * t.val + q) e.2.2))
  if (ly.val ≠ 3 ∧ bad ly.val true = true) ∨ (ly.val ≠ 0 ∧ bad (ly.val - 1) false = true) then
    s.unrunnable ly j (Fin.ofNat 32 e.2.2)
  else s

/-- SEQn_CFG and MISSFAULT load from PCFG (Table 6-2). -/
def State.loadPcfg (s : State) (k : Fin 4) : State :=
  let w := s.pgmWord k 10
  ((s.setF (F.SEQ_CFG_BARTO k) (nbits w 0 16)).setF (F.SEQ_CFG_WAITTO k) (nbits w 16 16)).setF (F.SEQ_CTL_MISSFAULT k) (nbits w 32 1)

/-- ISBAR: the flags that BARRIERs of the resident programs name (Table 6-11). -/
def State.showBarriers (s : State) : State :=
  s.setF F.SEQ0_FLAGS_ISBAR (s.fab.pgm.foldl (fun m e =>
    if 16 ≤ e.1 % 65536 ∧ wOp e.2.toNat = opBarrier then Nat.lor m (2 ^ nbits e.2.toNat 0 4) else m) 0)

/-- A full image commits, up to the release of set-reset (R383, steps 1 to 5). -/
def State.commitFull (s : State) (l : Load) : State :=
  let ws := l.rmap.getD []
  let slots := s.written l
  let a := (List.range 32).foldl (fun t i => t.setReg (Rg.CFG_RMAP (i / 8) (i % 8)) (ws.getD i 0)) s
  let b := slots.foldl (fun t e => t.setF ⟨Rg.CFG_LR_SLOTV e.1 e.2.1, e.2.2, 1⟩ 1) a
  let c := slots.foldl State.judgeSlot b
  let d : State := { c with fab := { c.fab with pgm := l.prog, pgmErr := [], pgmWb := [], io := l.io } }
  let e0 := ((List.finRange 4).foldl State.loadPcfg d.stopAll).showBarriers.askFreeze 3
  let e : State := { e0 with rpl := { e0.rpl with image := l.digest } }
  (e.clearCoefs.setRegions.releaseStores.setF F.CFG_STATUS_STAGE stCommit).setLoad l

/-- The load has committed: what it reports, CFG_LOAD_DONE, and the STARTs held since CHECK (R382, R383, R393). -/
def State.commitEnd (s : State) (l : Load) : State :=
  let t : State := { s.setF F.CFG_STATUS_STAGE stDone with ld := none }
  let opt := (l.opt.getD 0).toNat
  let u := if l.partl then
      (t.setF F.CFG_STATUS_PARTIAL 1).report Rg.CFG_PLAST
        [(F.CFG_PLAST_IMGVER, nbits opt 16 16), (F.CFG_PLAST_LAYER, l.layer), (F.CFG_PLAST_REGION, l.region),
         (F.CFG_PLAST_SETRESET, if l.setReset then 1 else 0), (F.CFG_PLAST_PROG, if l.progLy = 0 then 0 else 1), (F.CFG_PLAST_VALID, 1)]
    else
      let v := ((t.setF F.CFG_OPT_IMGVER (nbits opt 16 16)).setF F.CFG_OPT_TCLOSED (nbits opt 0 1)).setF F.CFG_KEY_SLOT l.keySlot
      let w := v.wdAround (fun x => x.setF F.CFG_KEY_VALID 1)
      if l.flash then (w.setF F.CFG_STATUS_LASTSLOT l.slot).setF F.CFG_STATUS_LASTHOST 0 else w.setF F.CFG_STATUS_LASTHOST 1
  (u.raise Ev.CFG_LOAD_DONE (l.src ++ (if l.partl then [l.comAt % 2 ^ 32, l.comAt / 2 ^ 32] else []))).actHeld

/-- A partial image commits in fc C, the present one (R393). Without SETRESET its COMMIT ends at once. -/
def State.commitPartial (s : State) (l : Load) : State :=
  let k : Fin 4 := Fin.ofNat 4 l.layer
  let slots := s.written l
  let m := { l with comAt := s.fullTime }
  let a := slots.foldl State.judgeSlot s
  let b : State := { a with fab := { a.fab with newSlots := a.fab.newSlots ++ slots } }
  let lo := 65536 * k.val
  let new : Fabric :=
    { b.fab with pgm := mpatch b.fab.pgm lo (lo + 65536) (mrange l.prog lo (lo + 65536))
                 pgmErr := mcut b.fab.pgmErr lo (lo + 65536), pgmWb := mcut b.fab.pgmWb lo (lo + 65536) }
  let c : State := if l.progLy = 0 then b else (State.loadPcfg { b with fab := new } k).showBarriers
  let d := if l.setReset then c.modRegion k (Fin.ofNat 8 l.region) (fun r => { r with rsr := some (s.tl.fc + 1) }) else c
  if l.setReset then (d.setF F.CFG_STATUS_STAGE stCommit).setLoad m else d.commitEnd m

/-- CHECK (R382): a failed stream link ends the load; the first row that fails rejects it; otherwise it commits. -/
def execCheck (link : Option (Fin 4)) (s : State) : Host.Outcome State Fault Refusal :=
  match s.ld with
  | none => ok s
  | some l => onlyIf (s.ldStage = stCheck) s
      (match (match link with | some k => s.srcFail l (.linkFail k) | none => none) with
       | some e => s.rejectLoad l e.1 e.2 l.pos
       | none =>
         match s.checkFail l with
         | some e => s.rejectLoad l e.1 e.2 0
         | none => if l.partl then s.commitPartial l else s.commitFull l)

/-- The limit of a stage before COMMIT, 2 s, in fc (Table 14-6). -/
def stageLimit : Nat := 1966080000

/-- The stage of a load has passed its limit; while the air-time family stands still no fc tells how long it has run. -/
def State.stageLate (s : State) : Bool :=
  match s.ld with
  | some l => !s.tl.running || decide (l.since + stageLimit ≤ s.tl.fc)
  | none => false

/-- STAGE_TIMEOUT (R380). -/
def execStageTimeout (s : State) : Host.Outcome State Fault Refusal :=
  onlyIf (s.loading = true ∧ s.stageLate = true) s (s.endLoad rTimeout)

/-! ## Flash operations (R388) -/

/-- A range touches image slot 0 while the lifecycle state protects it, or a load reads flash, in HEADER and STREAM: DENIED. -/
def State.flashDenied (s : State) (a : Nat) : Bool :=
  (decide (a < slotBytes) && decide (2 ≤ s.fuse.lcs.val))
    || (decide (stHeader ≤ s.ldStage ∧ s.ldStage ≤ stStream) && (match s.ld with | some l => l.flash | none => false))

/-- A flash operation is asked for: refused with FLERR, or running. -/
def State.flashStart (s : State) (n : Nat) (aligned : Bool) (data : Option (List Byte)) : State :=
  let a := s.f F.CFG_FLADDR_ADDR
  if s.flashDenied a then s.setF F.CFG_FLCMD_FLERR 1
  else if aligned = false ∨ s.fitted a n = false then s.setF F.CFG_FLCMD_FLERR 2
  else { (s.setF F.CFG_FLCMD_FLERR 0).setF F.CFG_FLCMD_BUSY 1 with fl := some { addr := a, data := data } }

/-- A write of CFG_FLCMD: while BUSY it is ignored. -/
def State.flashWrite (s : State) (v : Word) (op : Nat) (act : State → State) : State :=
  if nbits v.toNat 28 4 = op then (if s.b F.CFG_FLCMD_BUSY then s.cfgReject else act s) else s

/-- ERASE (R388): the 64 KiB sector at CFG_FLADDR. -/
def execErase (who : Who) (v : Word) (s : State) : Host.Outcome State Fault Refusal :=
  ok (s.onBus who Rg.CFG_FLCMD v (fun t => t.flashWrite v 1 (fun u =>
    u.flashStart 65536 (u.f F.CFG_FLADDR_ADDR % 65536 == 0) (some (List.replicate 65536 0xFF)))))

/-- PROGRAM (R388): CFG_HLEN bytes of host memory, within one sector; `data` is what the host returned, none where it failed. -/
def execProgram (who : Who) (v : Word) (data : Option (List Byte)) (s : State) : Host.Outcome State Fault Refusal :=
  ok (s.onBus who Rg.CFG_FLCMD v (fun t => t.flashWrite v 2 (fun u =>
    let n := u.f F.CFG_HLEN_LEN
    let a := u.f F.CFG_FLADDR_ADDR
    u.flashStart n (n % 256 == 0 && decide (256 ≤ n ∧ n ≤ 65536) && a % 256 == 0 && decide (a % 65536 + n ≤ 65536))
      (data.map (fun l => (l ++ List.replicate n 0).take n)))))

/-- Bytes put into flash. -/
def State.putFlash (s : State) (a : Nat) (data : List Byte) : State :=
  let new := (((List.range data.length).zip data).map (fun e => (a + e.1, e.2))).filter (fun e => e.2 != 0xFF)
  { s with board := { s.board with flash := mpatch s.board.flash a (a + data.length) new } }

/-- CFG_FLASH_DONE (R388): the operation has ended; `done` tells whether the device did as asked. What an operation that failed
leaves in its range is free. -/
def execCfgFlashDone (done : Bool) (s : State) : Host.Outcome State Fault Refusal :=
  match s.fl with
  | none => ok s
  | some j =>
    let t : State := { (s.setF F.CFG_FLCMD_BUSY 0).setF F.CFG_FLCMD_FLDONE 1 with fl := none }
    let u := match j.data with
      | some d =>
        if done then t.putFlash j.addr d
        else
          let w := t.draw (8 * d.length)
          ((w.2.putFlash j.addr (leBytes d.length w.1.toNat)).setF F.CFG_FLCMD_FLERR 3).raise Ev.XSPI_ERR [flashDevice j.addr]
      | none => t.setF F.CFG_FLCMD_FLERR 3
    ok (u.raise Ev.CFG_FLASH_DONE [0, j.addr / slotBytes, u.f F.CFG_FLCMD_FLERR])

end Sys2Proof.Machine
end

