-- ==== Sys2Proof/Machine/Eventing.lean ====
section
/-!
DEFINITION. Sys2Proof/Machine/Eventing.lean: the event cycle and its deliveries (R508 to R520), MSI-X messages (R513), and
the sequencer-input latches (R516).
-/
namespace Sys2Proof.Machine
open Sys2Proof

/-! ## Deliverable sources and vectors -/

/-- The deliverable sources of one word of 32: pending, enabled, not masked (R509). -/
def State.deliverWord (s : State) (w : Nat) : Word := s.reg (Rg.EVT_PEND w) &&& s.reg (Rg.EVT_EN w) &&& ~~~s.reg (Rg.EVT_MASK w)

/-- The sources of a word whose bits are set. -/
def wordSources (w : Nat) (x : Word) : List Nat :=
  if x = 0 then [] else ((List.range 32).filter (fun b => x.getLsbD b)).map (fun b => 32 * w + b)

/-- Every deliverable source, in ascending number (R509). -/
def State.deliverable (s : State) : List Nat := (List.range 32).flatMap (fun w => wordSources w (s.deliverWord w))

/-- The vector a source routes to, while MSIXEN is 1 (R513). -/
def State.vectorOf (s : State) (n : Nat) : Option Nat :=
  if s.b (F.EVT_ROUTE_MSIXEN n) then some (s.f (F.EVT_ROUTE_VEC n)) else none

/-- The vectors whose state is 1. -/
def State.liveVectors (s : State) : List Nat := (s.deliverable.filterMap s.vectorOf).eraseDups

/-- The function a vector belongs to: 0 the PF, 1 + v the VF v (R513, R455). -/
def vecFn (vec : Nat) : Nat := if vec < 1024 then 0 else 1 + (vec - 1024) / 32

/-- A function after its reset: everything disabled. -/
def pciFn0 : PciFn := { msixEn := false, fnMask := false, busMaster := false }

/-- Enables of a function. -/
def State.pciFn (s : State) (fn : Nat) : PciFn := mget pciFn0 s.evt.fn fn

/-- Default of an MSI-X table word: word 3, Vector Control, has its Mask bit set. -/
def msixWord0 (i : Nat) : Word := if i % 4 = 3 then 1 else 0

/-- An MSI-X table word, by 4 x vector + word. -/
def State.msixWord (s : State) (i : Nat) : Word := mget (msixWord0 i) s.evt.table i

/-- Write an MSI-X table word. -/
def State.setMsixWord (s : State) (i : Nat) (w : Word) : State :=
  { s with evt := { s.evt with table := mput (msixWord0 i) s.evt.table i w } }

/-- A vector's messages may go: its Mask bit, the function's MSI-X Enable, Function Mask and Bus Master Enable, and for a
VF vector DEV_VFv_CFG.EN (R513). -/
def State.vecOpen (s : State) (vec : Nat) : Bool :=
  let p := s.pciFn (vecFn vec)
  p.msixEn && !p.fnMask && p.busMaster && !(s.msixWord (4 * vec + 3)).getLsbD 0
    && (decide (vec < 1024) || s.b (F.DEV_VF_CFG_EN (vecFn vec - 1)))

/-- A vector's message is sent, or held in the PBA (R513). -/
def State.message (s : State) (vec : Nat) : State :=
  if s.vecOpen vec then s.emit (.msix vec) else { s with evt := { s.evt with pba := mput false s.evt.pba vec true } }

/-- Held messages that the enables now allow are sent (R513). -/
def State.unhold (s : State) : State :=
  let go := (s.evt.pba.map (fun e => e.1)).filter s.vecOpen
  go.foldl (fun t v => t.emit (.msix v))
    { s with evt := { s.evt with pba := s.evt.pba.filter (fun e => !s.vecOpen e.1) } }

/-- Severity of a source for the ALERT_N threshold: its own, or that of the latest occurrence (R518). -/
def State.sevNow (s : State) (n : Nat) : Nat :=
  match srcSev n with
  | some v => sevRank v
  | none => match (s.src n).sev with
    | some v => sevRank v
    | none => 0

/-- ALERT_N is asserted: some deliverable source ranks at or above ALERTSEV (R518). -/
def State.alert (s : State) : Bool :=
  s.deliverable.any (fun n => decide (sevCodeRank (s.f F.EVT_CTL_ALERTSEV) ≤ s.sevNow n))

/-- The deliverable state changed: vectors whose state rises send their messages, and ALERT_N follows (R513, R518). -/
def State.settle (s : State) : State :=
  let live := s.liveVectors
  let risen := live.filter (fun v => !mget false s.evt.vec v)
  let t := risen.foldl (fun t v => t.message v)
    { s with evt := { s.evt with vec := live.foldl (fun m v => mput false m v true) [] } }
  t.setF F.EVT_STAT_ALERT (if s.alert then 1 else 0)

/-! ## The event cycle -/

/-- The recorder takes every Critical or Fatal occurrence, and others while REC is 1 (R520). -/
def State.recorded (s : State) (o : Occ) : Bool := decide (3 ≤ sevRank o.sev) || s.b (F.EVT_ROUTE_REC o.src)

/-- The controller takes one occurrence: pending while its source is enabled, the vector, ALERT_N, the recorder
(R508, R513, R518, R520). -/
def State.occDeliver (s : State) (o : Occ) : State :=
  let t := if s.recorded o then s.occRecord o else s
  if t.srcEnabled o.src then (t.setF (srcBit (fun w => Rg.EVT_PEND w) o.src) 1).settle else t

/-- A source presents its oldest occurrence to the event cycle (R511). -/
def State.takeFrom (s : State) (n : Nat) : State :=
  match (s.src n).wait with
  | o :: rest => (s.setSrc n { s.src n with wait := rest }).occDeliver o
  | [] => s

/-- EVENT_CYCLE (R511): one occurrence of each source that holds one, in ascending source number. -/
def execEventCycle (s : State) : Host.Outcome State Fault Refusal :=
  ok (((s.evt.info.filter (fun e => !e.2.wait.isEmpty)).map (fun e => e.1)).foldl State.takeFrom s)

/-- A write of EVT_PENDw (R509, R513): pending bits clear; a vector to which a cleared source routes and whose state is still
1 sends a new message. -/
def State.pendWrite (s : State) (who : Who) (w : Fin 32) (v : Word) : State :=
  s.onBus who (Rg.EVT_PEND w) v (fun t =>
    let cleared := wordSources w (s.reg (Rg.EVT_PEND w) &&& v)
    let u := t.settle
    ((cleared.filterMap u.vectorOf).eraseDups.filter (fun x => u.liveVectors.contains x)).foldl State.message u)

/-- EVT_PEND (R509, R513). -/
def execEvtPend (who : Who) (w : Fin 32) (v : Word) (s : State) : Host.Outcome State Fault Refusal := ok (s.pendWrite who w v)

/-- What the host clears or sets (R513). -/
def State.unmask (s : State) (u : Unmask) : State :=
  match u with
  | .vector v => s.setMsixWord (4 * v.val + 3) (s.msixWord (4 * v.val + 3) &&& ~~~1#32)
  | .function n => { s with evt := { s.evt with fn := mput pciFn0 s.evt.fn n { s.pciFn n with fnMask := false } } }
  | .msixEnable n => { s with evt := { s.evt with fn := mput pciFn0 s.evt.fn n { s.pciFn n with msixEn := true } } }
  | .busMaster n => { s with evt := { s.evt with fn := mput pciFn0 s.evt.fn n { s.pciFn n with busMaster := true } } }

/-- MSIX_UNMASK (R513): messages held in the PBA that may now go are sent. -/
def execMsixUnmask (u : Unmask) (s : State) : Host.Outcome State Fault Refusal := ok (s.unmask u).unhold

/-! ## Sequencer inputs (R516, R517) -/

/-- The four words of an EIN record: bit i of word k for EINi of SEQk (Table 24-1). -/
def einBytes (k ein : Nat) : List Byte := leBytes 16 (2 ^ (32 * k + ein))

/-- Two payloads of EIN records of one fc joined. -/
def orBytes : List Byte → List Byte → List Byte
  | a :: as, b :: bs => (a ||| b) :: orBytes as bs
  | [], bs => bs
  | as, [] => as

/-- A latched input is recorded while capture runs: one EIN record for each fc (R557). -/
def State.recordEin (s : State) (k ein : Nat) : State :=
  if s.capturing ∧ s.inScope k then
    match s.rpl.now.find? (fun r => r.type == 3) with
    | some r => { s with rpl := { s.rpl with now := (s.rpl.now.filter (fun r => r.type != 3)) ++
        [{ r with payload := orBytes r.payload (einBytes k ein) }] } }
    | none => { s with rpl := { s.rpl with now := s.rpl.now ++
        [{ type := 3, time := s.fullTime, id := 0, payload := einBytes k ein }] } }
  else s

/-- Latch an input of one sequencer in the present fc (R176). -/
def State.latchEin (s : State) (k : Fin 4) (ein : Nat) : State :=
  (s.modSeq k (fun q => q.latch s.tl.fc (BitVec.ofNat 32 (2 ^ ein)))).recordEin k ein

/-- A latch reaches the sequencers its route named; in REPLAY live sources reach no scope sequencer (R516, R564). -/
def State.latchLand (s : State) (l : Latch) : State :=
  (List.finRange 4).foldl (fun t k =>
    if nbits l.mask k.val 1 = 1 ∧ ¬(s.f F.RPL_STAT_MODE = 3 ∧ s.inScope k.val) then t.latchEin k l.ein else t) s

/-- A latch lands in the present fc: the sixth after the occurrence where the source's domain fixes it (R516). -/
def State.latchDue (s : State) (l : Latch) : Bool :=
  match l.due with
  | some d => decide (d ≤ s.tl.fc)
  | none => true

/-- EVENT_INPUT_LATCH (R516): the oldest latch on its way from a source. -/
def execEventInputLatch (src : Fin 1024) (s : State) : Host.Outcome State Fault Refusal :=
  match s.evt.latches.find? (fun l => l.src == src.val && s.latchDue l) with
  | some l => ok ({ s with evt := { s.evt with latches := s.evt.latches.erase l } }.latchLand l)
  | none => ok s

end Sys2Proof.Machine
end

