-- ==== Sys2Proof/Machine/MemoryLayer.lean ====
section
/-!
DEFINITION. Sys2Proof/Machine/MemoryLayer.lean: BAR2, MEM cycles, port requests and responses, bank owners and clears, line fills
and cache maintenance (chapter 10).
-/
namespace Sys2Proof.Machine
open Sys2Proof

/-! ## BAR2 (R274) -/

/-- Bank-space byte that an access through BAR2 reaches: of the PF, or of a virtual function's window; none where it completes
with a Completer Abort (R274, R364, R356, R455). -/
def State.bar2At (s : State) (vf : Option (Fin 32)) (off len : Nat) : Option Nat :=
  let a := match vf with
    | none => if off + len ≤ 2 ^ 28 then some off else none
    | some v => if s.b (F.DEV_VF_CFG_EN v.val) ∧ off + len ≤ 2 ^ 23 then some (s.f (F.DEV_VF_CFG_BANK v.val) * 2 ^ 23 + off) else none
  match a with
  | some x => if len = 0 ∨ x / 2 ^ 23 = (x + len - 1) / 2 ^ 23 then some x else none
  | none => none

/-- The path of host accesses to the memory layer is down: the part is not started, M is fenced, or the untimed base link has
failed (R356, R364). -/
def State.hostPathDown (s : State) : Bool := !s.pwr.stable || s.closed 0 || s.baseDead

/-- The enabled bytes of a write that fall into a word: data and byte enables. -/
def wordBytes (a : Nat) (data : List (Option Byte)) (w : Nat) : BitVec 64 × Nat :=
  (List.range 8).foldl (fun x i =>
    if a ≤ 8 * w + i then
      match data[8 * w + i - a]? with
      | some (some b) => (x.1 ||| (BitVec.ofNat 64 b.toNat <<< (8 * i)), x.2 + 2 ^ i)
      | _ => x
    else x) (0, 0)

/-- A host write stores one word: a partial write onto an uncorrectable word is discarded and reported (R275); the words of a
poisoned TLP are stored poisoned (R323). -/
def State.hostStore (s : State) (errs : List (Nat × Flaw)) (poisoned : Bool) (key : Nat) (w : BitVec 64) (be : Nat) : State :=
  let be8 := (List.range 8).foldl (fun m i => if nbits be i 1 = 1 then m + 2 ^ i else m) 0
  if be8 = 0 then s
  else
    let x := s.storeWord errs key w be8
    if x.1 then x.2.readUncorr key 0 else if poisoned then x.2.mark key .uncorr else x.2

/-- One 64-byte beat of a host write: discarded whole when it collides (R284, R286). -/
def State.hostBeat (s : State) (errs : List (Nat × Flaw)) (poisoned : Bool) (a : Nat) (data : List (Option Byte)) (beat : Nat) : State :=
  let ws := (List.range 8).map (fun i => (8 * beat + i, wordBytes a data (8 * beat + i)))
  let keys := (ws.filter (fun e => e.2.2 != 0)).map (fun e => e.1)
  match s.collides keys with
  | some k => s.collision k 0
  | none => ws.foldl (fun t e => t.hostStore errs poisoned e.1 e.2.1 e.2.2) (s.keepOld (a / 2 ^ 23) keys)

/-- MEM cycles a host access takes: a beat each (R280). -/
def HostAcc.beats (x : HostAcc) : Nat := max 1 ((x.addr + x.len + 63) / 64 - x.addr / 64)

/-- Host accesses that wait for port B of a bank. -/
def State.hostWaits (s : State) (bank : Nat) : List HostAcc := mget [] s.mem.host bank

def State.setHostWaits (s : State) (bank : Nat) (l : List HostAcc) : State :=
  s.modMem (fun m => { m with host := mput [] m.host bank l })

/-- The host's oldest access to a bank ends. -/
def State.leaveHost (s : State) (bank : Nat) (rest : List HostAcc) : State :=
  (s.setHostWaits bank rest).modMem (fun m => { m with hostAt := s.tl.fc })

/-- Of the host accesses that wait it is the oldest: only its timer runs (R536). -/
def State.hostOldest (s : State) (x : HostAcc) : Bool := s.mem.host.all (fun e => e.2.all (fun a => decide (x.seq ≤ a.seq)))

/-- A host read goes on with the words of its next beat; its bytes are returned with the last, EP set where a word was
uncorrectable (R274, R329). -/
def State.hostRead (s : State) (errs : List (Nat × Flaw)) (bank : Nat) (x : HostAcc) (rest : List HostAcc) : State :=
  let b := x.addr / 64 + x.done
  let lo := max (8 * b) (x.addr / 8)
  let hi := min (8 * b + 8) ((x.addr + x.len + 7) / 8)
  let r : List Byte × Bool × State := (List.range (hi - lo)).foldl (fun acc i =>
    let w := acc.2.2.readB errs (lo + i)
    (acc.1 ++ leBytes 8 w.2.1.toNat, acc.2.1 || w.1 == .uncorr, w.2.2)) (x.got, x.ep, s)
  if x.done + 1 < x.beats then r.2.2.setHostWaits bank ({ x with done := x.done + 1, got := r.1, ep := r.2.1 } :: rest)
  else (r.2.2.leaveHost bank rest).emit (.cpl ((r.1.drop (x.addr % 8)).take x.len) r.2.1)

/-- A host write goes on with its next beat. -/
def State.hostWrite (s : State) (errs : List (Nat × Flaw)) (bank : Nat) (x : HostAcc) (rest : List HostAcc) : State :=
  let t := s.hostBeat errs x.poisoned x.addr x.data (x.addr / 64 + x.done)
  if x.done + 1 < x.beats then t.setHostWaits bank ({ x with done := x.done + 1 } :: rest) else t.leaveHost bank rest

/-- A host access that waits ends unperformed: a read completes with a Completer Abort, a posted write is discarded (R356, R364,
R537). -/
def State.endHost (s : State) (bank : Nat) (x : HostAcc) (rest : List HostAcc) : State :=
  let t := s.leaveHost bank rest
  if x.write then t else t.emit .cplAbort

/-- Every host access that waits ends unperformed, posted writes counted where a fence of M discards them (R356, R364). -/
def State.endHosts (s : State) (fenced : Bool) : State :=
  s.mem.host.foldl (fun t e => (e.2.foldl (fun u x =>
    (if fenced ∧ x.write = true then u.incF F.VL_ABORT_HOST else u).endHost e.1 x []) t)) s

/-- Port B of a bank, where it is free, carries the next beat of the host accesses that wait for it, in their order (R280, R282). -/
def State.serveHost (s : State) (errs : List (Nat × Flaw)) (bank : Nat) : State :=
  match s.hostWaits bank with
  | x :: rest =>
    if s.portBFree bank = false then s
    else
      let t := s.usePortB bank 1
      if x.write then t.hostWrite errs bank x rest else t.hostRead errs bank x rest
  | [] => s

/-- The host's oldest access to a bank has waited 1,024 MEM cycles and is no younger than any push of the controller's (R282). -/
def State.hostAged (s : State) (bank : Nat) : Bool :=
  match s.hostWaits bank with
  | x :: _ => decide (4096 ≤ 5 * (s.tl.fc - x.since)) && s.mem.writes.all (fun r => r.queue / 1024 != bank || decide (x.since ≤ r.since))
  | [] => false

/-- An access through BAR2 is accepted: port B serves it in this MEM cycle where it is free and nothing goes before it, else in a
later one (R274, R282). -/
def State.acceptHost (s : State) (errs : List (Nat × Flaw)) (x : HostAcc) : State :=
  let bank := x.addr / 2 ^ 23
  let t := (s.modMem (fun m => { m with hostSeq := m.hostSeq + 1 })).setHostWaits bank (s.hostWaits bank ++ [{ x with seq := s.mem.hostSeq }])
  if (s.nextWrite bank).isSome then t else t.serveHost errs bank

/-- A fresh host access. -/
def State.newHost (s : State) (write : Bool) (addr len : Nat) (data : List (Option Byte)) (poisoned : Bool) : HostAcc :=
  { seq := 0, write := write, addr := addr, len := len, data := data, poisoned := poisoned, done := 0, got := [], ep := false, since := s.tl.fc }

/-- BAR2_READ (R274, R329): the access is accepted, and its bytes are returned once port B has carried its beats. -/
def execBar2Read (vf : Option (Fin 32)) (off len : Nat) (errs : List (Nat × Flaw)) (s : State) : Host.Outcome State Fault Refusal :=
  match s.bar2At vf off len with
  | some a =>
    if s.hostPathDown then ok { s with reply := .abort }
    else ok { s.acceptHost errs (s.newHost false a len [] false) with reply := .done }
  | none => ok { s with reply := .abort }

/-- BAR2_WRITE (R274, R275, R284, R286): a posted write of the host through port B. -/
def execBar2Write (vf : Option (Fin 32)) (off : Nat) (data : List (Option Byte)) (poisoned : Bool) (errs : List (Nat × Flaw))
    (s : State) : Host.Outcome State Fault Refusal :=
  match s.bar2At vf off data.length with
  | some a =>
    if s.hostPathDown then
      ok { (if s.closed 0 ∧ s.pwr.stable = true then s.incF F.VL_ABORT_HOST else s) with reply := .abort }
    else ok { s.acceptHost errs (s.newHost true a data.length data poisoned) with reply := .done }
  | none => ok { s with reply := .abort }

/-- COLLIDED_REWRITE (R286, R312): a beat of a bank's queue controller, or of replay, that has collided is written again in its next
port-B cycle. -/
def execCollidedRewrite (bank : Fin 32) (s : State) : Host.Outcome State Fault Refusal :=
  onlyIf ((match s.nextWrite bank.val with | some r => r.again | none => false) = true) s (s.drainWrites bank.val)

/-! ## MEM cycles (R280, R282, R607) -/

/-- PORT_REQUEST (R276, R278, R281): accepted within the port's limits, and judged where no fence stops it. -/
def execPortRequest (layer : Fin 4) (port : Fin 32) (x : MemReq) (s : State) : Host.Outcome State Fault Refusal :=
  let toMem := if x.write then x.beats else 0
  let fromMem := if x.write then 0 else x.beats
  onlyIf (reqFormed x = true ∧ s.portTakes layer port toMem fromMem = true) s
    (s.enter layer port (s.newReq layer x (inDram x.addr)) toMem fromMem)

/-- The memory layer performs what it has accepted: M runs, its fence OPEN or draining (Table 13-3). -/
def State.memRuns (s : State) : Bool := nbits s.pwr.held 0 1 == 0 && nbits s.pwr.dark 0 1 == 0 && decide (s.phase 0 ≤ 1)

/-- Port B of a bank in a MEM cycle: a beat that is written again, the queue controller's requests and pushes, replay's, then the
host; but a host access that has waited 1,024 MEM cycles goes before younger ones (R282, R286). -/
def State.portBCycle (s : State) (errs : List (Nat × Flaw)) (c id : Nat) : State :=
  if s.hostAged c then s.serveHost errs c
  else
    let again := match s.nextWrite c with | some r => r.again | none => false
    let t := ((if again then s.drainWrites c else s).queueCycle errs c id).dmaQueue errs c
    (t.drainWrites c).serveHost errs c

/-- A maintenance operation reaches a set of a slice (R292): 0 FLUSH, 1 FLUSHINV, 2 INVALIDATE. A failed base link carries no
write-back, so that what is dirty stays (R356). -/
def State.cmoSet (s : State) (op base : Nat) : State :=
  ((s.mem.lines.filter (fun e => decide (base ≤ e.1 ∧ e.1 < base + 16) && (op == 2 || !s.baseDead || !e.2.dirty))).map (fun e => e.1)).foldl (fun t l =>
    if op = 0 then t.cleanLine l else if op = 1 then t.evict l else t.dropLine l) s

/-- The slice an operation has reached passes one of its sets in each of its MEM cycles, waiting for a channel in
self-refresh (R292, R412). -/
def State.cmoCycle (s : State) (u : Nat) : State :=
  let back := s.mem.cmoOp != 2 && (List.range 16).any (fun w => s.backWaits (16 * s.mem.cmoAt + w))
  if s.b F.MEM_CMO_BUSY ∧ s.mem.cmoAt / 4096 + 32 = u ∧ back = false then
    (s.cmoSet s.mem.cmoOp (16 * s.mem.cmoAt)).modMem (fun m => { m with cmoAt := m.cmoAt + 1 })
  else s

/-- PERFORM_CYCLE (R280, R282, R607): port A and port B of a bank, or a slice, in one MEM cycle of the present fc. -/
def execPerformCycle (u : Fin 48) (c : Fin 5) (errs : List (Nat × Flaw)) (s : State) : Host.Outcome State Fault Refusal :=
  let id := 5 * s.tl.fc + c.val
  onlyIf (s.tl.running = true ∧ cycPhase c.val = s.sched % 4 ∧ (s.slow && c.val == 0) = false ∧ (s.cyc u.val).id ≤ id ∧ s.memRuns = true) s
    (let t := ((s.openCyc u.val id).serve u.val id errs).dmaBeat errs u.val
     if u.val < 32 then t.portBCycle errs u.val id else t.cmoCycle u.val)

/-- Beats of data a response brings its port. -/
def Req.respBeats (r : Req) : Nat := if r.returnsData then r.beats else 0

/-- PORT_RESPONSE (R276, R277, R279): the oldest response of a port is presented from its fc on, within the five beats of its
window; at a die that is itself in reset it is absorbed (R361). -/
def execPortResponse (layer : Fin 4) (port : Fin 32) (s : State) : Host.Outcome State Fault Refusal :=
  let key := portKey layer port
  let p := s.portNow key
  match p.reqs with
  | r :: rest =>
    match r.due with
    | some d =>
      let up := s.dieUp (layerDie layer.val)
      let t := (s.setPort key { p with reqs := rest, resp := p.resp + r.respBeats }).settleReq r up
      onlyIf (d ≤ s.tl.fc ∧ p.resp + r.respBeats ≤ s.windowBeats) s (if up then t.emit (.port layer port r) else t)
    | none => .next s
  | [] => .next s

/-! ## Owners and clears (R283, R287) -/

/-- A write of MEM_BANKn_CFG: a change of OWNER starts an owner change, CLEAR asks for a clear (R287). -/
def State.bankCfg (s : State) (who : Who) (n : Fin 32) (v : Word) : State :=
  let t := s.onBus who (Rg.MEM_BANK_CFG n.val) v (fun u =>
    let w := if ownerOf (u.f (F.MEM_BANK_CFG_OWNER n.val)) = u.owner n.val ∧ u.b (F.MEM_BANK_STAT_OWNPEND n.val) = false then u
      else u.setF (F.MEM_BANK_STAT_OWNPEND n.val) 1
    if fldGet (F.MEM_BANK_CFG_CLEAR n.val) v = 1 then w.askClear n.val else w)
  t

/-- OWNER (R283 step 1). -/
def execOwner (who : Who) (n : Fin 32) (v : Word) (s : State) : Host.Outcome State Fault Refusal := ok (s.bankCfg who n v)

/-- BANK_CLEAR (R287). -/
def execBankClear (who : Who) (n : Fin 32) (v : Word) (s : State) : Host.Outcome State Fault Refusal :=
  ok (s.bankCfg who n (v ||| 0x80000000#32))

/-- An accepted port-A request of a bank has yet to be performed (R209, R283). -/
def State.bankBusy (s : State) (n : Nat) : Bool :=
  s.mem.ports.any (fun e => e.2.reqs.any (fun r => r.due.isNone && r.q.isNone && !r.own && bankOf r.addr == some n))
    || (List.finRange 4).any (fun k => (s.seq k).ports.any (fun op => match op with
      | .hcoef _ src _ _ count written _ _ =>
        (List.range count).any (fun i => decide (written ≤ i) && (src + 64 * i) / 2 ^ 23 == n)
      | _ => false))

/-- A request that an owner change has held is judged under the owner in force, as if accepted in the present fc (R283). -/
def State.ownedReq (s : State) (n key : Nat) (r : Req) : Req × State :=
  if r.own ∧ bankOf r.addr = some n then
    s.judge key { r with own := false, acc := s.tl.fc, base := s.cycAfter (2 * portLayer key + 4) }
  else (r, s)

/-- MEM_OWNER_DONE (R283 step 3). -/
def execMemOwnerDone (n : Fin 32) (s : State) : Host.Outcome State Fault Refusal :=
  let o := ownerOf (s.f (F.MEM_BANK_CFG_OWNER n.val))
  onlyIf (s.b (F.MEM_BANK_STAT_OWNPEND n.val) = true ∧ s.bankBusy n.val = false) s
    (let t := ((s.setF (F.MEM_BANK_STAT_OWNPEND n.val) 0).setF (F.MEM_BANK_STAT_CUROWNER n.val) o).raise Ev.MEM_OWNER_DONE [n.val, o]
     s.mem.ports.foldl (fun u e => if e.2.reqs.any (fun r => r.own) then u.eachReq e.1 (fun w r => w.ownedReq n.val e.1 r) else u) t)

/-! ## The shared cache -/

/-- A port's next request waits for the fill of a line. -/
def State.waitsFill (s : State) (line key : Nat) : Bool :=
  match (s.port key).head with
  | some r => r.fill && (r.addr - dramBase) / 128 == line
  | none => false

/-- A port's request goes on: its line is filled. -/
def State.fillReq (s : State) (key : Nat) : State :=
  match (s.port key).head with
  | some r => s.setHeadReq key { r with fill := false, filled := true }
  | none => s

/-- LINE_FILL (R288, R290, R291): the line is filled for the master that missed first, and every request that waits for it
goes on in the slice's next MEM cycles; while LPDDR6 or the line it would replace makes it wait, nothing happens (R412,
R420). -/
def execLineFill (line : Nat) (errs : List (Nat × Flaw)) (s : State) : Host.Outcome State Fault Refusal :=
  let keys := (s.mem.ports.map (fun e => e.1)).filter (fun k => s.waitsFill line k)
  let mine (j : DmaJob) : Bool := j.fill && (j.addr - dramBase) / 128 == line
  let go (t : State) : State :=
    { keys.foldl State.fillReq t with dma := t.dma.map (fun e => (e.1, if mine e.2 then { e.2 with fill := false, filled := true } else e.2)) }
  let filled (master : Nat) : Host.Outcome State Fault Refusal := match s.hitLine (128 * line) with
    | some _ => ok (go s)
    | none => if s.fillWaits (128 * line) master then .next s else ok (go (s.fillLine (128 * line) master errs).2)
  match keys with
  | k :: _ => filled (portLayer k)
  | [] => if s.dma.any (fun e => mine e.2) then filled dmaMaster else .next s

/-- A write of MEM_CMO: GO starts an operation from the first set of slice 0; ignored while one runs, and OP 0b11 is refused
(R292). -/
def State.cmo (s : State) (who : Who) (v : Word) : State :=
  s.onBus who Rg.MEM_CMO v (fun u =>
    if u.b F.MEM_CMO_BUSY = false ∧ fldGet F.MEM_CMO_GO v = 1 ∧ u.f F.MEM_CMO_OP ≠ 3 then
      (u.setF F.MEM_CMO_BUSY 1).modMem (fun m => { m with cmoOp := u.f F.MEM_CMO_OP, cmoAt := 0 })
    else u)

/-- MEM_CMO with GO and an operation. -/
def cmoWord (op : Nat) : Word := BitVec.ofNat 32 (2 ^ 31 + op)

/-- FLUSH (R292). -/
def execFlush (who : Who) (s : State) : Host.Outcome State Fault Refusal := ok (s.cmo who (cmoWord 0))

/-- FLUSHINV (R292). -/
def execFlushinv (who : Who) (s : State) : Host.Outcome State Fault Refusal := ok (s.cmo who (cmoWord 1))

/-- INVALIDATE (R292). -/
def execInvalidate (who : Who) (s : State) : Host.Outcome State Fault Refusal := ok (s.cmo who (cmoWord 2))

/-- MEM_CMO_DONE (R292): the last slice has completed. -/
def execMemCmoDone (s : State) : Host.Outcome State Fault Refusal :=
  onlyIf (s.b F.MEM_CMO_BUSY = true ∧ 65536 ≤ s.mem.cmoAt) s
    (((s.setF F.MEM_CMO_BUSY 0).setF F.MEM_CMO_DONE 1).raise Ev.MEM_CMO_DONE [47, s.mem.cmoOp])

/-- ROTATION_RESET (R282): at each AT multiple of 4,096 every rotation pointer is set to P0. -/
def execRotationReset (s : State) : Host.Outcome State Fault Refusal :=
  onlyIf (s.tl.running = true ∧ s.sched % 4096 = 0) s (s.modMem (fun m => { m with rot := [] }))

end Sys2Proof.Machine
end

