-- ==== Sys2Proof/Machine/Queues.lean ====
section
/-!
DEFINITION. Sys2Proof/Machine/Queues.lean: allocation, host doorbells, fabric queue requests, the flow table and the
head-of-line timeout (chapter 11).
-/
namespace Sys2Proof.Machine
open Sys2Proof

/-! ## Allocation (R299, R300) -/

/-- A producer or consumer that Table 11-4 defines. -/
def partyOk (p : Nat) : Bool :=
  match p / 128 with
  | 1 => p % 128 == 0
  | 2 => decide (p % 128 < 32)
  | 3 => true
  | 4 => decide (p % 128 < 4)
  | 5 => decide (p % 128 < 32)
  | _ => false

/-- Two byte ranges overlap. -/
def overlap (a n b m : Nat) : Bool := decide (a < b + m ∧ b < a + n)

/-- The lowest-numbered local queue that is not allocated. -/
def State.freeQueue (s : State) (c : Nat) : Option Nat :=
  ((List.range 1024).map (fun i => 1024 * c + i)).find? (fun q => !(s.queue q).en)

/-- The result of an allocation request (Table 11-3). -/
def State.allocCode (s : State) (c : Nat) (x : Queue) : Nat :=
  let rb := x.esz * x.size
  let mb := 4 * x.size
  if (s.freeQueue c).isNone then 1
  else if nbits x.cfg 25 4 > 12 ∨ x.rbase % rb ≠ 0 ∨ x.mbase % mb ≠ 0 ∨ 2 ^ 23 < x.rbase + rb ∨ 2 ^ 23 < x.mbase + mb then 2
  else if overlap x.rbase rb x.mbase mb = true ∨ (s.ctlQueues c).any (fun e =>
      overlap x.rbase rb e.2.rbase (e.2.esz * e.2.size) || overlap x.rbase rb e.2.mbase (4 * e.2.size)
        || overlap x.mbase mb e.2.rbase (e.2.esz * e.2.size) || overlap x.mbase mb e.2.mbase (4 * e.2.size)) = true then 3
  else if partyOk x.prod = false ∨ partyOk x.cons = false then 4
  else 0

/-- QCc_ARES. -/
def State.allocResult (s : State) (c code q : Nat) : State :=
  s.report (Rg.QC_ARES c) [(F.QC_ARES_VALID c, 1), (F.QC_ARES_CODE c, code), (F.QC_ARES_QUEUE c, q)]

/-- A queue as it stands after an allocation: EN set, both counts 0, empty. -/
def State.allocated (s : State) (q : Nat) (x : Queue) : State :=
  let old := s.queue q
  s.setQueue q { x with
    en := true, hist := [(s.tl.fc, true, false)], gone := ((s.tl.fc, x.cfg, true) :: old.gone).take 8, headAt := s.tl.fc }

/-- ALLOC (R299): the request in QCc_ABASE, QCc_AMBASE and QCc_ACFG is checked and carried out. -/
def execAlloc (who : Who) (c : Fin 32) (s : State) : Host.Outcome State Fault Refusal :=
  ok (s.onBus who (Rg.QC_ACMD c.val) 0x40000000#32 (fun t =>
    let x : Queue := { queue0 with cfg := (t.reg (Rg.QC_ACFG c.val)).toNat, rbase := t.f (F.QC_ABASE_OFS c.val),
                                   mbase := t.f (F.QC_AMBASE_OFS c.val) }
    let code := t.allocCode c.val x
    match code, t.freeQueue c.val with
    | 0, some q => ((t.allocated q x).countAlloc c.val).allocResult c.val 0 q
    | 1, _ => (t.allocResult c.val 1 0).raise (256 + 8 * c.val + 6) [c.val]
    | n, _ => t.allocResult c.val n 0))

/-- FREE (R300): the queue ends with the register-bus cycle, in which operations on it still complete. -/
def execFree (who : Who) (c : Fin 32) (queue : Fin 1024) (s : State) : Host.Outcome State Fault Refusal :=
  let q := 1024 * c.val + queue.val
  ok (s.onBus who (Rg.QC_ACMD c.val) (BitVec.ofNat 32 (2 ^ 31 + queue.val)) (fun t =>
    if (t.queue q).en = true ∧ (t.queue q).ending = false then
      (t.setQueue q { t.queue q with ending := true }).allocResult c.val 0 q
    else t.allocResult c.val 5 q))

/-! ## Host doorbells (R303, R304, R455) -/

/-- The answer that stops an access of BAR4 before it reaches its doorbell. -/
def State.bar4Stop (s : State) (vf : Option (Fin 32)) (q : Nat) : Bool :=
  !s.pwr.stable || s.baseDead ||
    (match vf with
     | none => false
     | some v => !(s.b (F.DEV_VF_CFG_EN v.val) && s.f (F.DEV_VF_CFG_QC v.val) == q / 1024))

/-- A doorbell of a queue: while M is fenced it is ignored (R364). -/
def State.doorbell (s : State) (vf : Option (Fin 32)) (q : Nat) (act : State → State) : State :=
  if s.bar4Stop vf q then { s with reply := .abort }
  else if s.closed 0 then { s with reply := .done }
  else { act s with reply := .done }

/-- A doorbell whose COUNT is too large (R303). -/
def State.dbErr (s : State) (q n : Nat) : State := s.raise (qcEv q 4) [q, n]

/-- PUSH (R303): asks the controller to publish COUNT entries, which keep their places from now on (R302). -/
def execPush (vf : Option (Fin 32)) (q : Fin 32768) (v : Word) (s : State) : Host.Outcome State Fault Refusal :=
  let n := nbits v.toNat 0 17
  ok (s.doorbell vf q.val (fun t =>
    if n = 0 then t
    else if t.mayPush q.val partyHost = false then t.qcPerm q.val
    else if (t.queue q.val).free < n then t.dbErr q.val n
    else t.queueChange q.val (fun x => { x with room := x.room + n, bells := x.bells ++ [{ n := n, frame := v.getLsbD 31, seq := t.mem.hostSeq }] })))

/-- The push a doorbell stands for: the host has written its entries. -/
def bellPush (q fc : Nat) (b : Bell) : Rewrite :=
  { queue := q, batch := (List.range b.n).map (fun i => { words := [], sof := b.frame && i == 0, poison := false }), replay := false,
    bell := true, done := 0, again := false, since := fc }

/-- PUBLISH (R297, R298, R303): once the host writes before the oldest PUSH doorbell have been performed at the bank, the controller
writes the metadata words of its entries and publishes them. -/
def execPublish (q : Fin 32768) (s : State) : Host.Outcome State Fault Refusal :=
  let x := s.queue q.val
  match x.bells with
  | b :: rest =>
    onlyIf ((s.hostWaits (q.val / 1024)).all (fun a => !a.write || decide (b.seq ≤ a.seq)) = true) s
      ((s.setQueue q.val { x with bells := rest }).acceptPush (bellPush q.val s.tl.fc b))
  | [] => .next s

/-- POP (R303): removes COUNT entries from the head. -/
def execPop (vf : Option (Fin 32)) (q : Fin 32768) (v : Word) (s : State) : Host.Outcome State Fault Refusal :=
  let n := nbits v.toNat 0 17
  ok (s.doorbell vf q.val (fun t =>
    if n = 0 then t
    else if t.mayPop q.val partyHost = false then t.qcPerm q.val
    else if t.poppable q.val < n then t.dbErr q.val n
    else t.dropHead q.val n))

/-! ## Fabric queue requests (R305) -/

/-- Beats of a queue's entry. -/
def State.entryBeats (s : State) (q : Nat) : Nat := if (s.queue q).esz ≤ 64 then 1 else 2

/-- QUEUE_REQUEST (R304, R305): a port accepts a push or pop; the controller performs it in its MEM cycle, in the port's
order, and its response is presented 6 fc after a bank's would be. -/
def execQueueRequest (layer : Fin 4) (port : Fin 32) (q : Fin 32768) (op : QueueOp) (s : State) :
    Host.Outcome State Fault Refusal :=
  let n := s.entryBeats q.val
  let push : Bool := match op with
    | .push _ _ _ => true
    | .pop => false
  let r : Req := { s.newReq layer { write := push, addr := q.val / 1024 * 2 ^ 23, beats := n, data := [], be := 0 } false with
                   q := some { queue := q.val, op := op } }
  onlyIf (s.portTakes layer port (if push then n else 0) (if push then 0 else n) = true) s
    (s.enter layer port r (if push then n else 0) (if push then 0 else n))

/-! ## The flow table (R308, R311, R319) -/

/-- A flow entry. -/
def State.flowEntry (s : State) (i : Nat) : Word × Word × Word := mget (0, 0, 0) s.flow i

/-- fc for which the part knows how the flow table stood (R311): longer than a frame of the greatest length takes at the
lowest rate. -/
def flowSpan : Nat := 2 ^ 20

/-- The flow table as it stood in an fc, a write of it acting from the fc after its own (R311). -/
def State.flowAsOf (s : State) (fc : Nat) : NMap (Word × Word × Word) :=
  s.flowPast.foldl (fun t e => if fc ≤ e.1 then mput (0, 0, 0) t e.2.1 e.2.2 else t) s.flow

/-- A write of FH_FTCMD: READ, or WRITE; both together act as READ. -/
def State.flowCmd (s : State) (who : Who) (v : Word) : State :=
  s.onBus who Rg.FH_FTCMD v (fun t =>
    let i := fldGet F.FH_FTCMD_INDEX v
    if fldGet F.FH_FTCMD_READ v = 1 then
      let e := t.flowEntry i
      ((t.setReg Rg.FH_FTDATA0 e.1).setReg Rg.FH_FTDATA1 e.2.1).setReg Rg.FH_FTDATA2 e.2.2
    else if fldGet F.FH_FTCMD_WRITE v = 1 then
      let past := (t.tl.fc, i, t.flowEntry i) :: t.flowPast.filter (fun e => decide (t.tl.fc ≤ e.1 + flowSpan))
      let u := { t with flow := mput (0, 0, 0) t.flow i (t.reg Rg.FH_FTDATA0, t.reg Rg.FH_FTDATA1, t.reg Rg.FH_FTDATA2), flowPast := past }
      u.setF F.FH_FTCNT_VALID (u.flow.filter (fun e => e.2.1.getLsbD 31)).length
    else t)

/-- FLOW_TABLE_WRITE (R319). -/
def execFlowTableWrite (who : Who) (v : Word) (s : State) : Host.Outcome State Fault Refusal := ok (s.flowCmd who v)

/-- FLOW_TABLE_READ (R319). -/
def execFlowTableRead (who : Who) (v : Word) (s : State) : Host.Outcome State Fault Refusal := ok (s.flowCmd who v)

/-! ## Head of line (R317) -/

/-- fc after which a queue's head times out; TO 0 acts as 240. -/
def State.holLimit (s : State) (q : Nat) : Nat :=
  let lim := s.f (F.QC_Q_HOL_TO (q / 1024) (q % 1024))
  (if lim = 0 then 240 else lim) * 4096

/-- QC_HOL (R317): the head entry has waited its bound; the timer restarts and ACT decides. -/
def execQcHol (q : Fin 32768) (errs : List (Nat × Flaw)) (s : State) : Host.Outcome State Fault Refusal :=
  let x := s.queue q.val
  let c := q.val / 1024
  let i := q.val % 1024
  let n := match s.f (F.QC_Q_HOL_ACT c i) with
    | 1 => s.recordLen errs q.val
    | 2 => x.count
    | _ => 0
  let t := (s.setQueue q.val { x with headAt := s.tl.fc }).raise (qcEv q.val 1) [q.val, x.pop]
  onlyIf (x.en = true ∧ x.lent = 0 ∧ s.b (F.QC_Q_HOL_EN c i) = true ∧ x.empty = false ∧ x.headAt + s.holLimit q.val ≤ s.tl.fc) s
    ((t.dropHead q.val n).addF (F.QC_Q_DROPS_HOLDISC c i) n)

end Sys2Proof.Machine
end

