-- ==== Sys2Proof/Machine/Pcie.lean ====
section
/-!
DEFINITION. Sys2Proof/Machine/Pcie.lean: the reset of a block (R19, R489), the PCIe link and its resets (R453 to R455, R497) and
the host DMA engine (R457, R458).
-/
namespace Sys2Proof.Machine
open Sys2Proof

/-! ## Resetting registers (R19, R489) -/

/-- What a register holds after a reset of its block: its reset value, its settings fields as the last boot loaded them. -/
def State.bootValue (s : State) (off : Nat) : Word :=
  (regReset off &&& ~~~nvsMask off) ||| mget (shipped off) s.nvs.boot off

/-- The registers a reset reaches take their reset values, and the shadows of their settings fields with them. -/
def State.resetBlock (s : State) (out : Nat → Bool) : State :=
  let t : State := { s.resetRegs out with lastAt := s.lastAt.filter (fun e => !out e.1)
                                          nvs := { s.nvs with shadow := (s.nvs.shadow.filter (fun e => !out e.1)) } }
  s.nvs.boot.foldl (fun u e =>
    if out e.1 then
      ({ u with nvs := { u.nvs with shadow := mput (shipped e.1) u.nvs.shadow e.1 e.2 } } : State).setReg e.1 (s.bootValue e.1)
    else u) t

/-- Registers of the host DMA engine and of the virtual functions' windows. -/
def dmaReg (off : Nat) : Bool :=
  (decide (Rg.DEV_DMA_BASE_LO 0 ≤ off) && decide (off < Rg.DEV_DMA_BASE_LO 32))
    || (decide (Rg.DEV_VF_CFG 0 ≤ off) && decide (off < Rg.DEV_VF_CFG 32))

/-! ## The link and its resets -/

/-- PCIe reset (Table 20-3): the controller, its configuration space and MSI-X, the DMA engine and the VF windows. -/
def State.pcieReset (s : State) : State :=
  let t := s.resetBlock dmaReg
  { t with evt := { t.evt with pba := [], table := [], fn := [] }, pcieUp := false, dma := [] }

/-- PERST_N (R453, R490, R497): low, the PCIe reset; a descriptor in progress ends without its write-back. -/
def execPerstN (high : Bool) (s : State) : Host.Outcome State Fault Refusal :=
  let t := { s with pwr := { s.pwr with perst := high } }
  ok (if high then t else t.pcieReset)

/-- PCIE_LINK_UP (R453, R497): with PERST_N high, PCIE_REFCLK good, the PHY's loop good, VDD_SDS up and the PCIE domain not on
fallback (R412, R480). -/
def execPcieLinkUp (s : State) : Host.Outcome State Fault Refusal :=
  onlyIf (s.pwr.perst = true ∧ s.pwr.phyGood = true ∧ s.b F.CLK_OSCSTAT_REFCLKOK = true ∧ s.quiet 14 = false ∧ s.sdsOn = true ∧ s.pcieUp = false) s
    ({ s with pcieUp := true }.raise Ev.PCIE_LINK_UP [0])

/-- PCIE_LINK_DOWN (R412). -/
def execPcieLinkDown (s : State) : Host.Outcome State Fault Refusal :=
  ok s.pcieDown

/-- First vector of a VF (R455). -/
def vfVector (v : Nat) : Nat := 1024 + 32 * v

/-- FLR (R455): a VF's MSI-X state clears, and nothing else. -/
def execFlr (v : Fin 32) (s : State) : Host.Outcome State Fault Refusal :=
  let own (x : Nat) : Bool := decide (vfVector v.val ≤ x ∧ x < vfVector v.val + 32)
  ok { s with evt := { s.evt with table := s.evt.table.filter (fun e => !own (e.1 / 4)), pba := s.evt.pba.filter (fun e => !own e.1)
                                  fn := mdel s.evt.fn (1 + v.val) } }

/-! ## The DMA engine -/

/-- DEV_DMA_TAIL (R457). -/
def execDevDmaTail (who : Who) (c : Fin 32) (v : Word) (s : State) : Host.Outcome State Fault Refusal :=
  ok (s.onBus who (Rg.DEV_DMA_TAIL c.val) v id)

/-- A command takes the channel's next descriptor, the one before it over, where the descriptor asks for its operation; an
undefined operation fails BADOP. -/
def State.descriptor (s : State) (c : Nat) (d : DescHead) (op : Nat) (act : State → State) : State :=
  if s.dmaRuns c = false ∨ (mfind s.dma c).isSome then s
  else if descOp d = 0 ∨ 4 < descOp d then s.descEnd c d dmaBadop 0
  else if descOp d = op then act s
  else s

/-- The addresses of a descriptor that uses none. -/
def noAddr : DescAddr := { haddr := 0, mla := 0 }

/-- HOST_TO_QUEUE (R457, R458): OP 0x1, entries of host memory are pushed in order until the queue is full or the host read
fails. -/
def execHostToQueue (c : Fin 32) (d : DescHead) (r : HostRead) (s : State) : Host.Outcome State Fault Refusal :=
  ok (s.descriptor c.val d 1 (fun t => t.startJob c.val ⟨d, noAddr⟩ r))

/-- What a descriptor that reads nothing from host memory brings. -/
def noRead : HostRead := { bytes := [], poisoned := [], failed := false }

/-- QUEUE_TO_HOST (R457, R458): OP 0x2, up to COUNT entries are popped. -/
def execQueueToHost (c : Fin 32) (d : DescHead) (haddr : BitVec 64) (s : State) : Host.Outcome State Fault Refusal :=
  ok (s.descriptor c.val d 2 (fun t => t.startJob c.val ⟨d, { noAddr with haddr := haddr }⟩ noRead))

/-- HOST_TO_MLA (R457, R458): OP 0x3, beats of host memory are stored until the count is done, a beat is refused, or the host read
fails. -/
def execHostToMla (c : Fin 32) (d : DescHead) (r : HostRead) (mla : BitVec 64) (s : State) : Host.Outcome State Fault Refusal :=
  ok (s.descriptor c.val d 3 (fun t => t.startJob c.val ⟨d, { noAddr with mla := mla }⟩ r))

/-- MLA_TO_HOST (R457, R458): OP 0x4. -/
def execMlaToHost (c : Fin 32) (d : DescHead) (addr : DescAddr) (s : State) : Host.Outcome State Fault Refusal :=
  ok (s.descriptor c.val d 4 (fun t => t.startJob c.val ⟨d, addr⟩ noRead))

end Sys2Proof.Machine
end

