-- ==== Sys2Proof/Machine/Recording.lean ====
section
/-!
DEFINITION. Sys2Proof/Machine/Recording.lean: the event recorder: the first-fault zone and the ring
(R527), staging and losses (R528, R529), freeze (R530) and clear (R532).
-/
namespace Sys2Proof.Machine
open Sys2Proof

/-! ## Recorder NVM -/

/-- NVM offset `i` bytes on from an offset: the ring continues at 0x1_0000 (R527). -/
def nvmAt (off i : Nat) : Nat := if off < 0x10000 then off + i else 0x10000 + (off - 0x10000 + i) % 0xF0000

/-- Write bytes to recorder NVM from an offset on. -/
def State.nvmPut (s : State) (off : Nat) (bs : List Byte) : State :=
  { s with rcd := { s.rcd with nvm := ((List.range bs.length).zip bs).foldl (fun m e => mput 0 m (nvmAt off e.1) e.2) s.rcd.nvm } }

/-! ## Writing a record (R524 to R527) -/

/-- Bytes listed records occupy. -/
def sizes (l : List RcdAt) : Nat := l.foldl (fun n r => n + r.size) 0

/-- Drop the oldest ring records until a record of `n` bytes finds room. -/
def dropOldest (n : Nat) : List RcdAt → List RcdAt
  | [] => []
  | r :: rs => if sizes (r :: rs) + n ≤ 0xF0000 then r :: rs else dropOldest n rs

/-- Write a record at an offset, with the next SEQ. -/
def State.recordAt (s : State) (r : Rcd) (off : Nat) : State :=
  let bs := r.bytes (s.f F.REC_SEQ_SEQ) (s.f F.PWR_PCC_COUNT) (s.f F.PWR_OPTIME_OPTIME)
  let t := s.nvmPut off (bs ++ List.replicate (r.size - bs.length) 0)
  { t with rcd := { t.rcd with lastRec := some (r, off, s.f F.PWR_PCC_COUNT) } }.incF F.REC_SEQ_SEQ

/-- Write a record in the ring at REC_NEXT, over the oldest records as far as it needs. -/
def State.recordRing (s : State) (r : Rcd) : State :=
  let off := s.f F.REC_NEXT_OFS
  let old := dropOldest r.size s.rcd.ring
  let ring : List RcdAt := old ++ [{ off := off, size := r.size, seq := s.f F.REC_SEQ_SEQ }]
  let t := s.recordAt r off
  (({ t with rcd := { t.rcd with ring := ring } }.setF F.REC_NEXT_OFS (nvmAt off r.size))).setF F.REC_OLDEST_OFS
    (match ring with
    | e :: _ => e.off
    | [] => off)

/-- Write a record in the first-fault zone. -/
def State.recordFfz (s : State) (r : Rcd) : State :=
  let off := sizes s.rcd.ffz
  let t := s.recordAt r off
  let ffz : List RcdAt := s.rcd.ffz ++ [{ off := off, size := r.size, seq := s.f F.REC_SEQ_SEQ }]
  { t with rcd := { t.rcd with ffz := ffz } }.setF F.REC_FFZEND_OFS (off + r.size)

/-- Write a record where R527 puts it: Critical and Fatal in the first-fault zone while they fit; the first that does not
sets FFZFULL and raises REC_FFZ_FULL. -/
def State.writeRecord (s : State) (r : Rcd) : State :=
  if 3 ≤ sevRank r.sev ∧ s.b F.REC_STAT_FFZFULL = false then
    if sizes s.rcd.ffz + r.size ≤ 0x10000 then s.recordFfz r
    else ((s.setF F.REC_STAT_FFZFULL 1).recordRing r).raise Ev.REC_FFZ_FULL [s.f F.REC_SEQ_SEQ]
  else s.recordRing r

/-- Fold a record into the last one written: its REPEAT and LAST in NVM (R526). -/
def State.foldRecord (s : State) (l r : Rcd) (off pcc : Nat) : State :=
  let x := l.fold r
  let t := s.nvmPut (nvmAt off 16) (leBytes 4 x.descWord)
  let u := if x.time.isSome then t.nvmPut (nvmAt off (28 + x.wallBytes.length)) (leBytes 8 x.last) else t
  { u with rcd := { u.rcd with lastRec := some (x, off, pcc) } }

/-- A record reaches NVM: it folds into the last record written in this power cycle, or is written (R526). -/
def State.putRecord (s : State) (r : Rcd) : State :=
  match s.rcd.lastRec with
  | some (l, off, pcc) =>
    if r.folds l && pcc == s.f F.PWR_PCC_COUNT then s.foldRecord l r off pcc else s.writeRecord r
  | none => s.writeRecord r

/-- The LOST record once the FIFO is empty: the losses since the last one (R529). -/
def State.lostOut (s : State) : State :=
  let n := s.f F.REC_STAGE_LOST
  if n = 0 ∨ s.rcd.staged ≠ [] then s
  else ((s.setF F.REC_STAGE_LOST 0).putRecord
      { sev := .warning, type := 0x400, cls := 0x10, desc := true, src := 0, wall := s.wall, time := s.stamp,
        last := s.fullTime, rep := 0, payload := [0, BitVec.ofNat 32 n] }).raise Ev.REC_LOST [s.f F.REC_SEQ_SEQ, n]

/-- The head of the staging FIFO goes to NVM. -/
def State.drainOne (s : State) : State :=
  match s.rcd.staged with
  | r :: rest => ({ s with rcd := { s.rcd with staged := rest } }.putRecord r).lostOut
  | [] => s

/-- Drain the FIFO: at most 64 records (R529). -/
def State.drainAll (s : State) : State := (List.range 64).foldl (fun t _ => t.drainOne) s

/-- NVM writing is allowed (R528). -/
def State.nvmOk (s : State) : Bool := !s.b F.REC_STAT_FROZEN && !s.b F.REC_STAT_CLEARING && !s.pwr.mgmtRst

/-- RECORD_WRITE (R528). -/
def execRecordWrite (s : State) : Host.Outcome State Fault Refusal := onlyIf (s.nvmOk = true) s s.drainOne

/-! ## Freeze (R530) -/

/-- FREEZE: ignored with CMDREJ while frozen or while a clear runs. -/
def execFreeze (who : Who) (s : State) : Host.Outcome State Fault Refusal :=
  ok (s.onBus who Rg.REC_CMD 0x10000000 (fun t =>
    if t.b F.REC_STAT_FROZEN ∨ t.b F.REC_STAT_CLEARING then t.setF F.REC_STAT_CMDREJ 1
    else t.setF F.REC_STAT_FROZEN 1))

/-- THAW: ends a freeze. -/
def execThaw (who : Who) (s : State) : Host.Outcome State Fault Refusal :=
  ok (s.onBus who Rg.REC_CMD 0x20000000 (fun t => t.setF F.REC_STAT_FROZEN 0))

/-- REC_FREEZE_END: the 10 s timer of a freeze expires. -/
def execRecFreezeEnd (s : State) : Host.Outcome State Fault Refusal :=
  onlyIf (s.b F.REC_STAT_FROZEN = true) s
    (((s.setF F.REC_STAT_FROZEN 0).setF F.REC_STAT_EXPIRED 1).raise Ev.REC_FREEZE_END [s.f F.REC_SEQ_SEQ])

/-! ## Clear (R532) -/

/-- No nonce is valid: its registers read 0. -/
def State.noNonce (s : State) : State :=
  (List.range 4).foldl (fun t n => t.setReg (Rg.REC_NONCE n) 0) { s with rcd := { s.rcd with nonceOk := false } }

/-- NONCE: a fresh 128-bit random value. -/
def execNonce (who : Who) (s : State) : Host.Outcome State Fault Refusal :=
  ok (s.onBus who Rg.REC_CMD 0x30000000 (fun t =>
    let d := t.draw 128
    (List.range 4).foldl (fun t n => t.setReg (Rg.REC_NONCE n) (BitVec.ofNat 32 (d.1.toNat / 2 ^ (32 * n))))
      { d.2 with rcd := { d.2.rcd with nonceOk := true } }))

/-- NONCE_EXPIRY: 3,600 s after the nonce was drawn. -/
def execNonceExpiry (s : State) : Host.Outcome State Fault Refusal := ok s.noNonce

/-- The nonce the recorder holds, as bytes. -/
def State.nonceBytes (s : State) : List Byte :=
  (List.range 4).flatMap (fun n => leBytes 4 (s.reg (Rg.REC_NONCE n)).toNat)

/-- The result of a CLEAR: the first failing condition of Table 22-4, by its CODE; 0 where all pass. -/
def State.clearCode (s : State) (token : Option Token) : Nat :=
  if s.b F.REC_STAT_FROZEN ∨ s.b F.REC_STAT_CLEARING then 1
  else match token with
    | none => 2
    | some t =>
      let p := tokPayload t
      if s.tokenCheck t [2] ≠ 0 then 3
      else if s.rcd.nonceOk = false ∨ leNat (p.take 4) ≠ 0x52454343 ∨ (p.drop 4).take 16 ≠ s.nonceBytes then 4
      else if p.length ≠ 21 ∨ leNat (p.drop 20) = 0 ∨ 3 < leNat (p.drop 20) then 5
      else 0

/-- An accepted clear starts: its CSEQ is taken first. -/
def State.clearStart (s : State) (t : Token) : State :=
  let u := (s.acceptToken t).setF F.REC_STAT_CLEARING 1
  { u with rcd := { u.rcd with clearing := some { scope := leNat ((tokPayload t).drop 20), slot := tokSlot t } } }

/-- CLEAR: its result, and the erase it starts; the nonce is spent whatever the outcome. The token is read from host memory
over REC_TLEN bytes; none stands for a read that failed. -/
def State.clearCmd (s : State) (token : Option Token) : State :=
  let tok := token.map (fun t => { t with bytes := t.bytes.take (s.f F.REC_TLEN_LEN) })
  let code := s.clearCode tok
  let t := (s.noNonce).report Rg.REC_CLRRES [(F.REC_CLRRES_VALID, 1), (F.REC_CLRRES_CODE, code)]
  match tok with
  | some x => if code = 0 then t.clearStart x else t.raise Ev.REC_CLEAR_REJ [s.f F.REC_SEQ_SEQ, code]
  | none => t.raise Ev.REC_CLEAR_REJ [s.f F.REC_SEQ_SEQ, code]

/-- CLEAR (R532). -/
def execClear (who : Who) (token : Option Token) (s : State) : Host.Outcome State Fault Refusal :=
  ok (s.onBus who Rg.REC_CMD 0x40000000 (fun t => t.clearCmd token))

/-- Erase the ring: nothing listed, REC_OLDEST and REC_NEXT at 0x1_0000. -/
def State.eraseRing (s : State) : State :=
  ({ s with rcd := { s.rcd with ring := [], nvm := s.rcd.nvm.filter (fun e => decide (e.1 < 0x10000)) } }.setF
    F.REC_NEXT_OFS 0x10000).setF F.REC_OLDEST_OFS 0x10000

/-- Erase the first-fault zone. -/
def State.eraseFfz (s : State) : State :=
  ({ s with rcd := { s.rcd with ffz := [], nvm := s.rcd.nvm.filter (fun e => decide (0x10000 ≤ e.1)) } }.setF
    F.REC_FFZEND_OFS 0).setF F.REC_STAT_FFZFULL 0

/-- REC_CLEARED (R532): the erase ends; CLEARED is the first record, with the count, the SEQ span and the key slot. The span
of an erase that found no record is a free value. -/
def State.clearEnd (s : State) (j : ClearJob) : State :=
  let gone := (if j.scope % 2 = 1 then s.rcd.ring else []) ++ (if 2 ≤ j.scope then s.rcd.ffz else [])
  let d := s.draw 64
  let seqs := gone.map (fun r => r.seq)
  let span : List Word := match seqs with
    | [] => [BitVec.ofNat 32 d.1.toNat, BitVec.ofNat 32 (d.1.toNat / 2 ^ 32)]
    | a :: l => [BitVec.ofNat 32 (l.foldl min a), BitVec.ofNat 32 (l.foldl max a)]
  let t := if j.scope % 2 = 1 then d.2.eraseRing else d.2
  let u := (if 2 ≤ j.scope then t.eraseFfz else t).setF F.REC_STAT_CLEARING 0
  (({ u with rcd := { u.rcd with clearing := none } }.writeRecord
    { sev := .warning, type := 0x401, cls := 0x10, desc := true, src := 0, wall := s.wall, time := s.stamp,
      last := s.fullTime, rep := 0,
      payload := [BitVec.ofNat 32 j.scope, BitVec.ofNat 32 gone.length] ++ span ++ [BitVec.ofNat 32 j.slot] })).raise
    Ev.REC_CLEARED [s.f F.REC_SEQ_SEQ, gone.length]

/-- REC_CLEARED (R532). -/
def execRecCleared (s : State) : Host.Outcome State Fault Refusal :=
  match s.rcd.clearing with
  | some j => ok (s.clearEnd j)
  | none => ok s

end Sys2Proof.Machine
end

