-- ==== Sys2Proof/Machine/Horn.lean ====
section
/-!
DEFINITION. Sys2Proof/Machine/Horn.lean: horn blocks (chapter 5): capture of an operand set, its computation, the output
stage, and the coefficient counter and RAM.
-/
namespace Sys2Proof.Machine
open Sys2Proof

/-! ## Fields of a mode word (Table 5-3) -/

def hmMode (m : BitVec 64) : Nat := nbits m.toNat 0 4
def hmBsrc (m : BitVec 64) : Bool := m.getLsbD 4
def hmConjb (m : BitVec 64) : Bool := m.getLsbD 5
def hmInv (m : BitVec 64) : Bool := m.getLsbD 6
def hmCsrc (m : BitVec 64) : Bool := m.getLsbD 7
def hmShift (m : BitVec 64) : Nat := min 47 (nbits m.toNat 8 6)
def hmRnd (m : BitVec 64) : Nat := nbits m.toNat 14 2
def hmOutw (m : BitVec 64) : Nat := nbits m.toNat 16 2
def hmCin (m : BitVec 64) : Bool := m.getLsbD 18
def hmCend (m : BitVec 64) : Bool := m.getLsbD 19
def hmDotacc (m : BitVec 64) : Bool := m.getLsbD 20
def hmCbase (m : BitVec 64) : Nat := nbits m.toNat 21 9
def hmClen (m : BitVec 64) : Nat := nbits m.toNat 30 9

/-- Modes 0x1 to 0x5 run; 0x0 and the reserved ones are OFF. -/
def hmOn (m : BitVec 64) : Bool := decide (1 ≤ hmMode m ∧ hmMode m ≤ 5)

/-! ## Numbers -/

/-- A complex number with exact parts. -/
structure Cx where
  re : Int
  im : Int
  deriving DecidableEq, Repr

/-- A complex operand or coefficient of 32 bits (R132). -/
def cxOf (w : Nat) : Cx := ⟨sgn 16 w, sgn 16 (w / 2 ^ 16)⟩

def Cx.add (a b : Cx) : Cx := ⟨a.re + b.re, a.im + b.im⟩
def Cx.sub (a b : Cx) : Cx := ⟨a.re - b.re, a.im - b.im⟩
def Cx.scale (a : Cx) (n : Int) : Cx := ⟨a.re * n, a.im * n⟩

/-- j times a number, or −j times it. -/
def Cx.rot (a : Cx) (neg : Bool) : Cx := if neg then ⟨a.im, -a.re⟩ else ⟨-a.im, a.re⟩

/-- The exact product, the second operand conjugated where CONJB is 1 (R132). -/
def Cx.mul (a b : Cx) (conj : Bool) : Cx :=
  let c : Cx := if conj then ⟨b.re, -b.im⟩ else b
  ⟨a.re * c.re - a.im * c.im, a.re * c.im + a.im * c.re⟩

/-- A value saturated to `w` bits, and whether it was. -/
def satTo (w : Nat) (x : Int) : Int × Bool :=
  if x < -(2 ^ (w - 1) : Int) then (-(2 ^ (w - 1) : Int), true)
  else if (2 ^ (w - 1) : Int) - 1 < x then ((2 ^ (w - 1) : Int) - 1, true)
  else (x, false)

/-- Shift and rounding of the output stage (R134). -/
def roundShift (rnd s : Nat) (x : Int) : Int :=
  let d : Int := 2 ^ s
  let q := x / d
  let r := x % d
  match rnd with
  | 0 => q
  | 1 => (2 * x + d) / (2 * d)
  | _ => if 2 * r < d ∨ (2 * r = d ∧ q % 2 = 0) then q else q + 1

/-- The result bus a mode word forms from up to four complex values (R134, R135). -/
def resultBits (m : BitVec 64) (ys : List Cx) (err ovf : Bool) : BitVec 256 :=
  let raw : Bool := hmOutw m == 3 && hmMode m != 3 && hmMode m != 4
  let flags := (if ovf then 2 ^ 194 else 0) + (if err then 2 ^ 195 else 0)
  if raw then
    BitVec.ofNat 256 (flags +
      ((List.range 4).zip ys).foldl (fun a e => a + (unsgn 48 e.2.re + unsgn 48 e.2.im * 2 ^ 48) * 2 ^ (96 * e.1)) 0)
  else
    let w := if hmOutw m = 0 then 16 else 24
    let part (x : Int) : Int × Bool := satTo w (roundShift (hmRnd m) (hmShift m) x)
    let sat := ys.any (fun y => (part y.re).2 || (part y.im).2)
    BitVec.ofNat 256 (flags + (if sat then 2 ^ 193 else 0) +
      ((List.range 4).zip ys).foldl (fun a e =>
        a + (unsgn 24 (part e.2.re).1 + unsgn 24 (part e.2.im).1 * 2 ^ 24) * 2 ^ (48 * e.1)) 0)

/-! ## Coefficient RAM (R143 to R147) -/

/-- Key of a coefficient word. -/
def coefKey (ly : Fin 4) (t : Fin 64) (b : Fin 32) (addr : Nat) : Nat := 1024 * hornKey ly t b + addr % 1024

/-- ECC_HCLAST of a coefficient word. -/
def State.hclast (s : State) (ly : Fin 4) (t : Fin 64) (b : Fin 32) (addr : Nat) (uncorr : Bool) : State :=
  s.reportLow Rg.ECC_HCLAST (coefKey ly t b addr)
    [(F.ECC_HCLAST_LAYER, ly.val), (F.ECC_HCLAST_TILE, t.val), (F.ECC_HCLAST_BLOCK, b.val), (F.ECC_HCLAST_ADDR, addr),
     (F.ECC_HCLAST_UNCORR, if uncorr then 1 else 0), (F.ECC_HCLAST_VALID, 1)]

/-- A coefficient word and its mark as a read of the present fc finds them: those that stood before a write of the same fc, where
there was one (R145). -/
def State.coefSeen (s : State) (key : Nat) : Option Word × Ecc :=
  (mfind s.fab.coefOld key).getD (mget none s.fab.coef key, mget .clean s.fab.coefErr key)

/-- A coefficient word is replaced with its mark; what stood in it is what the reads of this fc still find (R145). -/
def State.writeCoef (s : State) (key : Nat) (w : Option Word) (mark : Ecc) : State :=
  { s with fab := { s.fab with coef := mput none s.fab.coef key w, coefErr := mput .clean s.fab.coefErr key mark,
                               coefOld := mins s.fab.coefOld key (s.coefSeen key) } }

/-- A read has found a stored coefficient word so: it stays so. One that is overwritten in this fc is gone with it. -/
def State.foundCoef (s : State) (key : Nat) (w : Word) (mark : Ecc) : State :=
  if (mfind s.fab.coefOld key).isSome then s
  else { s with fab := { s.fab with coef := mput none s.fab.coef key (some w), coefErr := mput .clean s.fab.coefErr key mark } }

/-- A read of a coefficient word through its code, found as `e` beside the mark it bears: a word not valid reads 0, an
uncorrectable one is used as 0. Answers the word and whether it was uncorrectable. -/
def State.readCoef (s : State) (ly : Fin 4) (t : Fin 64) (b : Fin 32) (addr : Nat) (e : Flaw) : (Nat × Bool) × State :=
  let key := coefKey ly t b addr
  match (s.coefSeen key).1 with
  | none => ((0, false), s)
  | some old =>
    let w := old ^^^ BitVec.ofNat 32 e.wrong
    let mark := eccWorse e.ecc (s.coefSeen key).2
    let u := s.foundCoef key w mark
    match mark with
    | .clean => ((w.toNat, false), u)
    | .corr => ((w.toNat, false), ((u.incF (F.ECC_HCCOR_COUNT ly.val)).hclast ly t b addr false).raise
        (Ev.HORN_CCORR ly.val) [t.val, b.val, addr])
    | .uncorr => ((0, true), (u.hclast ly t b addr true).raise (Ev.HORN_CUNCORR ly.val) [t.val, b.val, addr])

/-! ## Capture -/

/-- Served herd `k` of a block (R129). -/
def servedHerd (b : Fin 32) (k : Nat) : Nat := 16 * (8 * (b.val / 16) + k) + b.val % 16

/-- The 128-bit operand word of a block in the present fc (R130). -/
def State.operandWord (s : State) (a : At) (b : Fin 32) : Nat :=
  (List.range 128).foldl (fun w n => if s.wire a (.lt (servedHerd b (n / 16)) (16 + n % 16)) then w + 2 ^ n else w) 0

/-- The control bits c0 to c15 of a block in the present fc (R130). -/
def State.controlBits (s : State) (a : At) (b : Fin 32) : Nat :=
  (List.range 16).foldl (fun w n => if s.wire a (.lt (servedHerd b (n / 2)) (14 + n % 2)) then w + 2 ^ n else w) 0

/-- Operand `i` of an operand word: bits [32i + 31:32i]. -/
def opAt (w i : Nat) : Cx := cxOf (nbits w (32 * i) 32)

/-- The pair address of a captured set: PADDR, or the counter (R142). -/
def pairAddr (m : BitVec 64) (c : Nat) (ctr : Option Nat) : Nat :=
  if hmCsrc m then (if nbits c 2 1 = 1 then hmCbase m else ctr.getD (hmCbase m)) else nbits c 4 9

/-- The counter after a captured set: c + 1, or CBASE after the pair CBASE + CLEN (R142). -/
def nextCtr (m : BitVec 64) (c : Nat) (ctr : Option Nat) : Option Nat :=
  if hmCsrc m then
    let x := pairAddr m c ctr
    if x = (hmCbase m + hmClen m) % 512 then none else some ((x + 1) % 512)
  else if nbits c 2 1 = 1 then none else ctr

/-- The cascade input of a block in fc `n`: block b − 1's cascade output from fc n − 1 (R141). -/
def State.cascadeIn (s : State) (ly : Fin 4) (t : Fin 64) (b : Fin 32) : Cx × Bool :=
  if b.val % 16 = 0 then (⟨0, 0⟩, false)
  else match ((s.hornAt ly t (b - 1)).casc).find? (fun e => e.1 + 1 == s.tl.fc) with
    | some e => (⟨e.2.1, e.2.2.1⟩, e.2.2.2)
    | none => (⟨0, 0⟩, false)

/-- The results of an FFT4 butterfly (R140). -/
def fft4 (inv : Bool) (t0 t1 t2 t3 : Cx) : List Cx :=
  [((t0.add t1).add t2).add t3,
   ((t0.sub (t1.rot inv)).sub t2).add (t3.rot inv),
   ((t0.sub t1).add t2).sub t3,
   ((t0.add (t1.rot inv)).sub t2).sub (t3.rot inv)]

/-- The parts of complex values, real before imaginary. -/
def parts (l : List Cx) : List Int := l.flatMap (fun x => [x.re, x.im])

/-- An operand set that capture finds is put into the pipeline under mode word `m`, with the coefficient pair `w0`, `w1`
(Table 5-4). -/
def Horn.load (x : Horn) (m : BitVec 64) (n w c : Nat) (w0 w1 : Nat) (err : Bool) (cin : Cx) (cinErr : Bool) : Horn :=
  let start : Bool := nbits c 1 1 == 1
  let bsrc := hmBsrc m
  let a0 := opAt w 0
  let a1 := if bsrc then opAt w 1 else opAt w 2
  let b0 := if bsrc then cxOf w0 else opAt w 1
  let b1 := if bsrc then cxOf w1 else opAt w 3
  let p0 := a0.mul b0 (hmConjb m)
  let p1 := a1.mul b1 (hmConjb m)
  let push (lat : Nat) (vals : List Int) (e : Bool) : Horn :=
    { x with pipe := x.pipe ++ [{ due := n + lat, taken := n, mode := m, start := start, vals := vals, err := e,
                                  broke := false }] }
  match hmMode m with
  | 1 => push 4 (parts [p0, p1]) err
  | 2 => push 4 (parts [p0, p1]) err
  | 3 =>
    let t (i : Nat) : Cx := (opAt w (2 * i)).scale (2 ^ 15)
    let u (i v : Nat) : Cx := (opAt w (2 * i + 1)).mul (cxOf v) (hmConjb m)
    push 5 (parts [(t 0).add (u 0 w0), (t 0).sub (u 0 w0), (t 1).add (u 1 w1), (t 1).sub (u 1 w1)]) err
  | 5 =>
    let cs : Cx := if hmCin m then cin else ⟨0, 0⟩
    let e := err || (hmCin m && cinErr)
    let sum := (p0.add p1).add cs
    let y := push 4 (parts [sum]) e
    { y with casc := (y.casc.filter (fun z => decide (n ≤ z.1 + 1))) ++
        (if hmCend m then [] else [(n, sum.re, sum.im, e)]) }
  | _ => x

/-- The first half of a butterfly: its BROKE stands in the pipeline until the second half comes (R140). -/
def Horn.half1 (x : Horn) (m : BitVec 64) (n w w1 : Nat) (err : Bool) (ctr : Option Nat) : Horn :=
  let t0 := (opAt w 0).scale (2 ^ 15)
  let t1 := (opAt w 1).mul (cxOf w1) (hmConjb m)
  { x with fft := some { taken := n, mode := m, t0r := t0.re, t0i := t0.im, t1r := t1.re, t1i := t1.im, err := err,
                         ctr := ctr },
           pipe := x.pipe ++ [{ due := n + 6, taken := n, mode := m, start := true, vals := [], err := false,
                                broke := true }] }

/-- The second half of a butterfly: its two results, due in the fc of Table 5-4. -/
def Horn.half2 (x : Horn) (h : FftHalf) (w w2 w3 : Nat) (err : Bool) : Horn :=
  let t2 := (opAt w 0).mul (cxOf w2) (hmConjb h.mode)
  let t3 := (opAt w 1).mul (cxOf w3) (hmConjb h.mode)
  let ys := fft4 (hmInv h.mode) ⟨h.t0r, h.t0i⟩ ⟨h.t1r, h.t1i⟩ t2 t3
  let op (k : Nat) (vals : List Cx) : HornOp :=
    { due := h.taken + 6 + k, taken := h.taken + k, mode := h.mode, start := true, vals := parts vals,
      err := h.err || err, broke := false }
  { x with fft := none,
           pipe := (x.pipe.filter (fun o => !(o.broke && o.taken == h.taken))) ++ [op 0 (ys.take 2), op 1 (ys.drop 2)] }

/-- The block captures a set in this fc (R138): VALID, a mode that runs, no guard fc, no hold, no set-reset. -/
def State.captures (s : State) (a : At) (m : BitVec 64) (c : Nat) : Bool :=
  let r := s.region a.ly (s.tileRegion a.ly a.t)
  nbits c 0 1 == 1 && hmOn m && !(r.guardAt == some s.tl.fc) && !s.held a.ly (s.tileRegion a.ly a.t) && !s.setReset a

/-- A block under its current mode word: the counter is at CBASE where that word has changed (R142). -/
def Horn.under (x : Horn) (cur : BitVec 64) : Horn := if x.lastMode = cur then x else { x with ctr := none, lastMode := cur }

/-- The butterfly that the set of the present fc ends: its first half was captured in the last fc, and this set does not start
another (R140). -/
def Horn.secondOf (x : Horn) (cur : BitVec 64) (fc c : Nat) : Option FftHalf :=
  match x.fft with
  | some h => if hmMode cur = 4 ∧ h.taken + 1 = fc ∧ nbits c 1 1 = 0 then some h else none
  | none => none

/-- The mode word that governs a set, and the counter it finds: those of the butterfly it ends, or the block's own (R140). -/
def Horn.governed (x : Horn) (cur : BitVec 64) : Option FftHalf → BitVec 64 × Option Nat
  | some h => (h.mode, h.ctr)
  | none => (cur, x.ctr)

/-- A set under a mode word needs a coefficient pair: the pair is read, both words of it (R143). One of a lone FFT4 fc, which forms
no butterfly, counts as needing its pair (log 108). -/
def needsPair (m : BitVec 64) : Bool := hmBsrc m || hmMode m == 3 || hmMode m == 4

/-- The block captures a set in the present fc that reads a pair. -/
def State.readsPair (s : State) (ly : Fin 4) (t : Fin 64) (b : Fin 32) : Bool :=
  let a : At := { ly := ly, t := t }
  let cur := s.hornMode ly t (s.tilePlane ly t) b
  let c := s.controlBits a b
  let x := (s.hornAt ly t b).under cur
  s.captures a cur c && needsPair (x.governed cur (x.secondOf cur s.tl.fc c)).1

/-- OPERAND_SET (R138 to R142): at the end of the present fc the block captures its operand word and control bits, once; the
pair of coefficients it needs is read, found as `e0` and `e1`. A start fc of FFT4 uses the pair's second word alone, and ERR
tells of the words used (R140, R147). -/
def execOperandSet (layer : Fin 4) (tile : Fin 64) (block : Fin 32) (e0 e1 : Flaw) (s : State) :
    Host.Outcome State Fault Refusal :=
  let a : At := { ly := layer, t := tile }
  let cur := s.hornMode layer tile (s.tilePlane layer tile) block
  let c := s.controlBits a block
  let w := s.operandWord a block
  let x := (s.hornAt layer tile block).under cur
  if s.captures a cur c && !x.took then
    let second := x.secondOf cur s.tl.fc c
    let g := x.governed cur second
    let pair := pairAddr g.1 c g.2
    let after := nextCtr g.1 c g.2
    let r0 : (Nat × Bool) × State := if needsPair g.1 then s.readCoef layer tile block (2 * pair) e0 else ((0, false), s)
    let r1 : (Nat × Bool) × State := if needsPair g.1 then r0.2.readCoef layer tile block (2 * pair + 1) e1 else ((0, false), r0.2)
    let err := r0.1.2 || r1.1.2
    let cin := s.cascadeIn layer tile block
    let y : Horn := match second with
      | some h => { x.half2 h w r0.1.1 r1.1.1 err with ctr := if cur = h.mode then after else none }
      | none =>
        if hmMode cur = 4 then
          if nbits c 1 1 = 1 then { x.half1 cur s.tl.fc w r1.1.1 r1.1.2 after with ctr := after }
          else { x with ctr := after, fft := none }
        else { x.load cur s.tl.fc w c r0.1.1 r1.1.1 err cin.1 cin.2 with ctr := after, fft := none }
    ok (r1.2.setHorn layer tile block { y with took := true })
  else ok s

/-! ## Results -/

/-- An accumulator component after an addition, saturated (R133). -/
def accAdd (start : Bool) (acc p : Int) : Int × Bool := satTo 48 ((if start then 0 else acc) + p)

/-- A result takes its turn: the accumulators it updates, the values it presents, and OVF (Table 5-4, R141). -/
def Horn.apply (x : Horn) (o : HornOp) : Horn × List Cx × Bool :=
  let v (i : Nat) : Int := o.vals.getD i 0
  let a (i : Nat) : Int × Bool := accAdd o.start (x.acc.toList.getD i 0) (v i)
  match hmMode o.mode with
  | 1 => ({ x with acc := #v[(a 0).1, (a 1).1, (a 2).1, (a 3).1] },
          [⟨(a 0).1, (a 1).1⟩, ⟨(a 2).1, (a 3).1⟩], (a 0).2 || (a 1).2 || (a 2).2 || (a 3).2)
  | 5 =>
    if hmCend o.mode ∧ hmDotacc o.mode then
      ({ x with acc := #v[(a 0).1, (a 1).1, x.acc.get 2, x.acc.get 3] }, [⟨(a 0).1, (a 1).1⟩], (a 0).2 || (a 1).2)
    else (x, [⟨v 0, v 1⟩], false)
  | 3 => (x, [⟨v 0, v 1⟩, ⟨v 2, v 3⟩, ⟨v 4, v 5⟩, ⟨v 6, v 7⟩], false)
  | _ => (x, [⟨v 0, v 1⟩, ⟨v 2, v 3⟩], false)

/-- The result of an operand set reaches the bus (R139), or BROKE stands in its place (R140). -/
def Horn.present (x : Horn) (o : HornOp) (fc : Nat) : Horn :=
  if o.broke then { x with brokeAt := fc + 1 }
  else
    let r := x.apply o
    { r.1 with bus := resultBits o.mode r.2.1 o.err r.2.2, newAt := fc + 1 }

/-- A result that finds another before it in its fc is not presented; its accumulator update takes place (R148). -/
def Horn.absorb (x : Horn) (o : HornOp) : Horn := if o.broke then x else (x.apply o).1

/-- The op that stands before another: captured earlier. -/
def earlier (a b : HornOp) : HornOp := if b.taken < a.taken then b else a

/-- The results due by an fc: the earliest due; of several due in one fc the set captured earlier is presented. -/
def Horn.results (x : Horn) (fc : Nat) : Horn :=
  match x.pipe.filter (fun o => decide (o.due ≤ fc)) with
  | [] => x
  | o :: os =>
    let due := os.foldl (fun d e => min d e.due) o.due
    let now := (o :: os).filter (fun e => e.due == due)
    let y := { x with pipe := x.pipe.filter (fun e => e.due != due) }
    match now with
    | [] => y
    | p :: ps =>
      let first := ps.foldl earlier p
      (now.filter (fun e => e != first)).foldl Horn.absorb (y.present first fc)

/-- HORN_RESULT (R139): results due are presented. -/
def execHornResult (layer : Fin 4) (tile : Fin 64) (block : Fin 32) (s : State) : Host.Outcome State Fault Refusal :=
  onlyIf (s.setReset { ly := layer, t := tile } = false) s
    (s.setHorn layer tile block ((s.hornAt layer tile block).results s.tl.fc))

/-- COEFFICIENT_WRITE_BACK (R147): a corrected word is written back in an fc in which the block reads no pair. -/
def execCoefficientWriteBack (layer : Fin 4) (tile : Fin 64) (block : Fin 32) (addr : BitVec 10) (s : State) :
    Host.Outcome State Fault Refusal :=
  let key := coefKey layer tile block addr.toNat
  onlyIf (mget .clean s.fab.coefErr key = .corr ∧ s.readsPair layer tile block = false) s
    { s with fab := { s.fab with coefErr := mdel s.fab.coefErr key } }

end Sys2Proof.Machine
end

