-- ==== Sys2Proof/Machine/EccRepair.lean ====
section
/-!
DEFINITION. Sys2Proof/Machine/EccRepair.lean: write-backs, browse, graze and soft repair (chapter 12).
-/
namespace Sys2Proof.Machine
open Sys2Proof

/-! ## Write-backs (R325, R326) -/

/-- The latest MEM cycle of a unit is one that browse and write-backs may take: port B of a bank, or a slice, performs no request in
it (R325, R332). -/
def State.cycFree (s : State) (u : Nat) : Bool := if u < 32 then s.portBFree u else !(s.cyc u).busyA

/-- Such a cycle is taken. -/
def State.takeCyc (s : State) (u : Nat) : State := if u < 32 then s.usePortB u 1 else s.useSlice u

/-- WRITE_BACK (R325): the oldest queued word of a unit is written back in a MEM cycle that port B, or the slice, leaves free. -/
def execWriteBack (u : Fin 48) (s : State) : Host.Outcome State Fault Refusal :=
  match mget [] s.mem.wbq u.val with
  | k :: rest =>
    let t := s.modMem (fun m => { m with wbq := mput [] m.wbq u.val rest })
    onlyIf (s.cycFree u.val = true) s ((if s.foundAt [] k = .corr then t.mark k .clean else t).takeCyc u.val)
  | [] => .next s

/-- The write-back that a stored-slot port performs in the present fc: the oldest that waits for it, where no refill, nor another
request granted before it asked, has the port (R326). -/
def State.wbDue (s : State) (word : Nat) : Bool :=
  s.fab.slotWb.find? (fun w => wordPort w == wordPort word) == some word
    && !s.refillClaims (keyLayer word) (wordTile word) && !s.tileUsed (keyLayer word) (wordTile word) && !s.portUsed word

/-- SLOT_WRITE_BACK (R326): under WRITEBACK a corrected stored word is written back in the first fc that no refill claims. A word
written anew meanwhile has nothing left to write back. -/
def execSlotWriteBack (word : Nat) (s : State) : Host.Outcome State Fault Refusal :=
  let err := if mget Ecc.clean s.fab.slotErr word = .corr then mdel s.fab.slotErr word else s.fab.slotErr
  onlyIf (s.wbDue word = true) s
    ({ s with fab := { s.fab with slotErr := err, slotWb := s.fab.slotWb.erase word } }.usePort word)

/-! ## Soft repair (R341 to R344) -/

/-- A valid entry names a row. -/
def State.srHas (s : State) (cls unit sub row : Nat) : Bool :=
  s.mem.sr.any (fun e => e.cls == cls && e.unit == unit && e.sub == sub && e.row == row)

/-- Key of a sub-array: banks first, then slices. -/
def subKey (cls unit sub : Nat) : Nat := 2048 * (if cls = 0 then unit else 32 + unit) + sub

/-- Add a soft-repair entry: the checks of Table 12-6 in order. Answers CODE and, when added, the entry. -/
def State.addRepair (s : State) (cls unit sub row src : Nat) : Nat × Option SoftRepair × State :=
  let used := mget 0 s.mem.spares (subKey cls unit sub)
  if 1 < cls ∨ (cls = 1 ∧ 16 ≤ unit) then (1, none, s)
  else if s.srHas cls unit sub row then (2, none, s)
  else if 256 ≤ s.mem.sr.length then (3, none, s.raise Ev.REPAIR_FULL [unit, sub, row])
  else if used = 3 then (4, none, s.raise Ev.REPAIR_NOSPARE [unit, sub, row])
  else
    let spare := if used % 2 = 0 then 0 else 1
    let e : SoftRepair := { cls := cls, unit := unit, sub := sub, row := row, spare := spare, optime := s.f F.PWR_OPTIME_OPTIME,
                            src := src, pcc := s.f F.PWR_PCC_COUNT }
    let t := s.modMem (fun m => { m with sr := m.sr ++ [e], spares := mput 0 m.spares (subKey cls unit sub) (used + 2 ^ spare) })
    (0, some e, t.setF F.ECC_SRRES_USED t.mem.sr.length)

/-- Add an entry that waits for the next borrow of its window (R344). -/
def State.queueRepair (s : State) (cls unit sub row src : Nat) : Nat × State :=
  let r := s.addRepair cls unit sub row src
  (r.1, match r.2.1 with
    | some e => r.2.2.modMem (fun m => { m with srPend := m.srPend ++ [e] })
    | none => r.2.2)

/-- ECC_SRADD (R343): software adds an entry. -/
def execEccSradd (who : Who) (v : Word) (s : State) : Host.Outcome State Fault Refusal :=
  ok (s.onBus who Rg.ECC_SRADD v (fun t =>
    if fldGet F.ECC_SRADD_GO v = 1 then
      let r := t.queueRepair (fldGet F.ECC_SRADD_CLASS v) (fldGet F.ECC_SRADD_INSTANCE v) (fldGet F.ECC_SRADD_SUBARRAY v)
        (fldGet F.ECC_SRADD_ROW v) 2
      (r.2.setF F.ECC_SRRES_CODE r.1).setF F.ECC_SRRES_VALID 1
    else t))

/-! ## Browse (R332 to R335) -/

/-- Number of a browse engine. -/
def engNum : BrowseEng → Nat
  | .unit u => u.val
  | .cfgl k => 48 + k.val
  | .coef k => 52 + k.val
  | .pgm k => 56 + k.val

/-- The engine that reads a place. -/
def engOf : BrowseAt → BrowseEng
  | .slot w => .cfgl (keyLayer w)
  | .plane ly _ _ _ => .cfgl ly
  | .mem key => .unit (Fin.ofNat 48 (unitOf key))
  | .coef key => .coef (Fin.ofNat 4 (key / 2 ^ 21))
  | .pgm k _ => .pgm k

/-- fc of 1/8 s. -/
def eighthSec : Nat := 122880000

/-- Interval of an engine in its band, in fc (Table 12-4). -/
def State.browseInterval (s : State) (e : BrowseEng) : Nat :=
  let slow (b : Nat) : Nat := if b ≤ 1 then 64 * eighthSec else if b = 2 then 32 * eighthSec else if b = 3 then 16 * eighthSec else 8 * eighthSec
  match e with
  | .unit _ => slow (s.band 1)
  | .cfgl k =>
    let b := max (s.band (2 * k.val + 2)) (s.band (2 * k.val + 3))
    if b ≤ 1 then 8 * eighthSec else if b = 2 then 4 * eighthSec else if b = 3 then 2 * eighthSec else 98304000
  | .coef k => slow (s.band (2 * k.val + 3))
  | .pgm k => slow (s.band (2 * k.val + 3))

/-- Stack die of an engine. -/
def engDie : BrowseEng → Nat
  | .unit _ => 0
  | .cfgl k => 2 * k.val + 1
  | .coef k => 2 * k.val + 2
  | .pgm k => 2 * k.val + 2

/-- Every browse engine. -/
def engines : List BrowseEng :=
  (List.finRange 48).map BrowseEng.unit ++ (List.finRange 4).flatMap (fun k => [.cfgl k, .coef k, .pgm k])

/-- Where an engine stands in its pass. -/
def State.browsePos (s : State) (e : BrowseEng) : BrowsePos := mget { next := 0, last := 0, began := 0 } s.mem.brw.pos (engNum e)

/-- Put an engine somewhere. -/
def State.setBrowsePos (s : State) (e : BrowseEng) (p : BrowsePos) : State :=
  s.modMem (fun m => { m with brw := { m.brw with pos := mins m.brw.pos (engNum e) p } })

/-- A change of band during a pass: it must end by the earlier of its old end and the change plus the new interval (R333). -/
def State.browseBand (s : State) : State :=
  engines.foldl (fun t e => match mfind t.mem.brw.due (engNum e) with
    | some d => t.modMem (fun m => { m with brw := { m.brw with
        due := mins m.brw.due (engNum e) (min d (s.tl.fc + s.browseInterval e)) } })
    | none => t) s

/-- The engines of a die start from the beginning when its power returns (R333). -/
def State.browseStart (s : State) (die : Nat) : State :=
  (engines.filter (fun e => engDie e == die)).foldl (fun t e => t.modMem (fun m => { m with brw := { m.brw with
    due := mins m.brw.due (engNum e) (s.tl.fc + s.browseInterval e), late := mdel m.brw.late (engNum e),
    pos := mins m.brw.pos (engNum e) { next := 0, last := 0, began := s.tl.fc } } })) s

/-- The engines of a die stop (R333). -/
def State.browseStop (s : State) (die : Nat) : State :=
  (engines.filter (fun e => engDie e == die)).foldl (fun t e => t.modMem (fun m => { m with brw := { m.brw with
    due := mdel m.brw.due (engNum e), late := mdel m.brw.late (engNum e), pos := mdel m.brw.pos (engNum e) } })) s

/-- Steps of one pass of a configuration layer: 256 words of slots and 32 of planes for each tile (R125). -/
def tileSteps : Nat := 288

/-- Where the engine of a configuration layer stands, as BROWSE_LATE carries it: layer, region, and the plane it compares, 4 while
it reads slots, and the slot (R128). -/
def State.browsePlace (s : State) (k : Fin 4) : List Nat :=
  let step := (s.browsePos (.cfgl k)).next / 2 ^ 32
  let t : Fin 64 := Fin.ofNat 64 (step / tileSteps)
  let j := s.tileRegion k t
  let sub := step % tileSteps
  if sub < 256 then [k.val, j.val, 4, sub / 8]
  else [k.val, j.val, (sub - 256) / 8, (s.plane k j (Fin.ofNat 4 ((sub - 256) / 8))).slot.val]

/-- A pass that has not ended by its end: LATE and its event, once a pass (R125, R333). -/
def State.browseLate (s : State) (e : BrowseEng) : State :=
  match mfind s.mem.brw.due (engNum e) with
  | some d =>
    if d ≤ s.tl.fc ∧ mget false s.mem.brw.late (engNum e) = false then
      let t := s.modMem (fun m => { m with brw := { m.brw with late := mput false m.brw.late (engNum e) true } })
      match e with
      | .unit u => (t.setF F.ECC_BRWMEM_LATE 1).raise Ev.BROWSE_LATE_M [u.val]
      | .cfgl k => (t.setF (F.CFG_BRW_LATE k.val) 1).raise (Ev.BROWSE_LATE k.val) (s.browsePlace k)
      | .coef k => (t.setF ⟨Rg.ECC_BRWFAB, k.val, 1⟩ 1).raise Ev.BROWSE_LATE_F [k.val]
      | .pgm k => (t.setF ⟨Rg.ECC_BRWFAB, 4 + k.val, 1⟩ 1).raise Ev.BROWSE_LATE_F [4 + k.val]
    else s
  | none => s

/-- BROWSE_LATE (R333). -/
def execBrowseLate (e : BrowseEng) (s : State) : Host.Outcome State Fault Refusal := ok (s.browseLate e)

/-- Number under which a word's corrections are remembered. -/
def seenKey : BrowseAt → Nat
  | .mem key => key
  | .slot w => 2 ^ 40 + w
  | .coef key => 2 ^ 41 + key
  | .pgm k a => 2 ^ 42 + 65536 * k.val + a.toNat
  | .plane _ _ _ _ => 2 ^ 43

/-- The engine a remembered word belongs to. -/
def seenEng (key : Nat) : Nat :=
  if key < 2 ^ 40 then unitOf key
  else if key < 2 ^ 41 then 48 + (keyLayer (key - 2 ^ 40)).val
  else if key < 2 ^ 42 then 52 + (key - 2 ^ 41) / 2 ^ 21 % 4
  else 56 + (key - 2 ^ 42) / 65536 % 4

/-- Browse has corrected a word: one corrected in two consecutive passes is suspect, its row queued for soft repair or the
word recorded (R335). -/
def State.browseCorrected (s : State) (a : BrowseAt) : State :=
  let k := seenKey a
  let old := mget 0 s.mem.brw.seen k
  let t := s.modMem (fun m => { m with brw := { m.brw with seen := mput 0 m.brw.seen k (old / 2 * 2 + 1) } })
  if old / 2 = 1 ∧ old % 2 = 0 then
    match a with
    | .mem key =>
      if key < 2 ^ 26 ∧ s.b F.ECC_GRZSLICE_AUTOREPAIR = true then
        let u := unitOf key
        (t.queueRepair (if u < 32 then 0 else 1) (if u < 32 then u else u - 32) (key % 2 ^ 20 / 512) (key % 512 / 8) 1).2
      else t.raise Ev.ECC_HARD [engNum (engOf a), k]
    | _ => t.raise Ev.ECC_HARD [engNum (engOf a), k]
  else t

/-! ### The order of a pass (R125, R332)

A pass goes through its storage in ascending order, words of the slots and groups of the planes of a configuration layer tile by
tile as R125 orders them, any other storage by address (log 109). What a pass reads clean leaves no trace: a pass may step over a
word that bears no mark, and over no other. -/

/-- Place of a word or group in its engine's pass. -/
def browseIdx : BrowseAt → Nat
  | .slot w => ((wordTile w).val * tileSteps + (wordSlot w).val * 8 + beatOf (16 * w % 2 ^ 20)) * 2 ^ 32 + wordPort w
  | .plane _ p t g => (t.val * tileSteps + 256 + p.val * 8 + beatOf (8 * g)) * 2 ^ 32 + g
  | .mem key => key
  | .coef key => key
  | .pgm _ a => a.toNat

/-- Groups of an armed plane of a tile that differ from the slot that filled it and are not in repair. -/
def State.differing (s : State) (ly : Fin 4) (t : Fin 64) (p : Fin 4) : List Nat :=
  let x := s.plane ly (s.tileRegion ly t) p
  let dst := ckey ly t p.val 0
  let src := ckey ly t x.slot.val 0
  if x.armed then
    ((((mrange s.fab.planes dst (dst + 2 ^ 20)).map (fun e => (e.1 - dst) / 8))
      ++ (mrange s.fab.slots src (src + 2 ^ 20)).map (fun e => (e.1 - src) / 8)).eraseDups).filter (fun g =>
        mnum s.fab.planes (dst + 8 * g) 8 != mnum s.fab.slots (src + 8 * g) 8 && (mfind s.fab.upsets ((dst + 8 * g) / 8)).isNone)
  else []

/-- A stored word lies in a valid slot: browse reads it (R377). -/
def State.wordValid (s : State) (w : Nat) : Bool :=
  s.b ⟨Rg.CFG_LR_SLOTV (keyLayer w).val (s.tileRegion (keyLayer w) (wordTile w)).val, (wordSlot w).val, 1⟩

/-- What an engine has to find in the storage it covers, by place in its pass. -/
def State.browseMarks (s : State) : BrowseEng → List Nat
  | .unit u => (s.mem.marks.filter (fun e => unitOf e.1 == u.val)).map (fun e => e.1)
  | .cfgl k =>
    ((s.fab.slotErr.filter (fun e => decide (keyLayer e.1 = k) && s.wordValid e.1)).map (fun e => browseIdx (.slot e.1)))
      ++ (List.finRange 64).flatMap (fun t => (List.finRange 4).flatMap (fun p =>
        (s.differing k t p).map (fun g => browseIdx (.plane k p t g))))
  | .coef k => (s.fab.coefErr.filter (fun e => e.1 / 2 ^ 21 == k.val)).map (fun e => e.1)
  | .pgm k => (s.fab.pgmErr.filter (fun e => e.1 / 65536 == k.val)).map (fun e => e.1 % 65536)

/-- An engine may read this place next in the present fc: its pass has begun and has not passed it, nothing it has to find stands
before it, and the engine of a configuration layer reads one step of a tile in an fc. -/
def State.browseNext (s : State) (e : BrowseEng) (i : Nat) : Bool :=
  let p := s.browsePos e
  decide (p.began ≤ s.tl.fc) && decide (p.next ≤ i) && !((s.browseMarks e).any (fun x => decide (p.next ≤ x ∧ x < i)))
    && (match e with
        | .cfgl _ => p.last != s.tl.fc + 1 || decide (i / 2 ^ 32 = (p.next - 1) / 2 ^ 32)
        | _ => true)

/-- An engine's pass is through: nothing is left to find, and a configuration layer has had its steps (R125). -/
def State.browseDone (s : State) (e : BrowseEng) : Bool :=
  let p := s.browsePos e
  decide (p.began ≤ s.tl.fc) && !((s.browseMarks e).any (fun x => decide (p.next ≤ x)))
    && (match e with
        | .cfgl _ => decide (p.began + 64 * tileSteps ≤ s.tl.fc)
        | _ => true)

/-- A pass is over, and the next begins then or at the end of the interval if that comes later (R333, R335). -/
def State.browseEnd (s : State) (e : BrowseEng) (d : Nat) : State :=
  (s.browseLate e).modMem (fun m => { m with brw := { m.brw with
      due := mins m.brw.due (engNum e) (max d s.tl.fc + s.browseInterval e), late := mdel m.brw.late (engNum e),
      pos := mins m.brw.pos (engNum e) { next := 0, last := 0, began := max d s.tl.fc },
      seen := m.brw.seen.filterMap (fun x =>
        if seenEng x.1 = engNum e then (if x.2 % 2 = 1 then some (x.1, 2) else none) else some x) } })

/-- BROWSE_PASS (R125, R333): an engine that has read all it covers ends its pass. -/
def execBrowsePass (e : BrowseEng) (s : State) : Host.Outcome State Fault Refusal :=
  match mfind s.mem.brw.due (engNum e) with
  | some d =>
    let t := s.browseEnd e d
    onlyIf (s.browseDone e = true) s (match e with
      | .unit u =>
        let p := if nbits t.mem.brw.passed u.val 1 = 1 then t.mem.brw.passed else t.mem.brw.passed + 2 ^ u.val
        if p = 2 ^ 48 - 1 then (t.incF F.ECC_BRWMEM_PASSES).modMem (fun m => { m with brw := { m.brw with passed := 0 } })
        else t.modMem (fun m => { m with brw := { m.brw with passed := p } })
      | .cfgl k => t.incF (F.CFG_BRW_PASSES k.val)
      | _ => t)
  | none => .next s

/-- Browse reads a stored-slot word: corrected and written back in its own cycle, or its slot becomes unrunnable (R126, R327). -/
def State.browseSlot (s : State) (w : Nat) (found : Flaw) : State :=
  let ly := keyLayer w
  let j := s.tileRegion ly (wordTile w)
  let r := (s.slotWrong [(w, found)]).readSlotWord w found.ecc true true
  match r.1 with
  | .clean => r.2
  | .corr => r.2.browseCorrected (.slot w)
  | .uncorr => (r.2.unrunnable ly j (wordSlot w)).raise (Ev.PLANE_UNCORR ly.val) [j.val, 4, (wordSlot w).val]

/-- Browse compares a group of an armed plane with the slot that filled it: a difference is an upset of the group (R126). -/
def State.browsePlane (s : State) (ly p : Fin 4) (t : Fin 64) (group : Nat) : State :=
  if (s.differing ly t p).contains group then
    s.detect (groupOf (ckey ly t p.val 0 + 8 * group)) ((s.region ly (s.tileRegion ly t)).cur == p)
  else s

/-- Browse reads a bank or cache word (R334): a correctable word is written back in its own cycle; a clean line with an
uncorrectable word is invalidated. -/
def State.browseMem (s0 : State) (key : Nat) (found : Flaw) : State :=
  let s := s0.suffer [(key, found)] key
  let done (t : State) : State := (t.mark key .clean).modMem (fun m => { m with
    wbq := mput [] m.wbq (unitOf key) ((mget [] m.wbq (unitOf key)).filter (· != key)) })
  match s0.foundAt [(key, found)] key with
  | .clean => s
  | .corr => (done (s.readCorr key 1)).browseCorrected (.mem key)
  | .uncorr =>
    if 2 ^ 26 ≤ key then
      match mfind s.mem.lines (key - 2 ^ 26) with
      | some l => s.checkTags [(key, found)] (lineAddr (key - 2 ^ 26) l.tag) 1
      | none => s
    else if key < 2 ^ 25 then s.readUncorr key 1
    else
      let l := (key - 2 ^ 25) / 16
      let t := s.readUncorr key 1
      if t.lineDirty l then t else t.dropLine l

/-- Browse reads a coefficient word (R147). -/
def State.browseCoef (s : State) (key : Nat) (found : Flaw) : State :=
  let r := s.readCoef (Fin.ofNat 4 (key / 2 ^ 21)) (Fin.ofNat 64 (key / 2 ^ 15)) (Fin.ofNat 32 (key / 1024)) (key % 1024) found
  if mget .clean r.2.fab.coefErr key = .corr then
    { r.2 with fab := { r.2.fab with coefErr := mdel r.2.fab.coefErr key } }.browseCorrected (.coef key)
  else r.2

/-- Browse reads a program word: an uncorrectable one is reported, and faults only when fetched (R334). -/
def State.browsePgm (s : State) (k : Fin 4) (a : BitVec 16) (found : Flaw) : State :=
  let key := 65536 * k.val + a.toNat
  let x := if found.wrong % 2 ^ 64 = 0 then s else s.putPgm key (Nat.xor (s.pgmWord k a.toNat) (found.wrong % 2 ^ 64))
  let setErr (e : Ecc) : State :=
    { x with fab := { x.fab with pgmErr := mput .clean x.fab.pgmErr key e, pgmWb := if e = .clean then mdel x.fab.pgmWb key else x.fab.pgmWb } }
  match eccWorse found.ecc (mget .clean s.fab.pgmErr key) with
  | .clean => x
  | .corr => (((setErr .clean).incF (F.SEQ_PMERR_CORR k)).raise (Ev.PGM_CORR k) [a.toNat]).browseCorrected (.pgm k a)
  | .uncorr => ((setErr .uncorr).incF (F.SEQ_PMERR_UNCORR k)).raise (Ev.PGM_UNCORR k) [a.toNat]

/-- The stored word whose port a comparison of a plane's group takes: that of the slot that filled the plane. -/
def State.sourceWord (s : State) (ly p : Fin 4) (t : Fin 64) (group : Nat) : Nat :=
  wordKey (ckey ly t (s.plane ly (s.tileRegion ly t) p).slot.val 0 + 8 * group)

/-- A cycle is free for a browse read (Table 12-3): a stored-slot port no one asks for, a coefficient RAM that is neither read nor
written, a program memory from which its sequencer fetches nothing in this fc. -/
def State.browseCycle (s : State) : BrowseAt → Bool
  | .slot w => s.wordValid w && s.browseFree w
  | .plane ly p t g => s.browseFree (s.sourceWord ly p t g)
  | .mem key => s.cycFree (unitOf key)
  | .coef key =>
    !s.readsPair (Fin.ofNat 4 (key / 2 ^ 21)) (Fin.ofNat 64 (key / 2 ^ 15)) (Fin.ofNat 32 (key / 1024))
      && !(s.fab.coefOld.any (fun e => e.1 / 1024 == key / 1024))
  | .pgm k _ => !(s.seq k).ready s.tl.fc && (s.seq k).issuedAt != s.tl.fc + 1

/-- The read itself. -/
def State.browseAct (s : State) (a : BrowseAt) (found : Flaw) : State :=
  match a with
  | .slot w => (s.usePort w).browseSlot w found
  | .plane ly p t g => (s.usePort (s.sourceWord ly p t g)).browsePlane ly p t g
  | .mem key => (s.takeCyc (unitOf key)).browseMem key found
  | .coef key => s.browseCoef key found
  | .pgm k w => s.browsePgm k w found

/-- BROWSE_READ (R334, R335): a browse engine whose die is up reads the next word of its pass, or compares the next group, in a
cycle R332 gives it. -/
def execBrowseRead (a : BrowseAt) (found : Flaw) (s : State) : Host.Outcome State Fault Refusal :=
  let e := engOf a
  onlyIf (s.dieUp (engDie e) = true ∧ s.browseCycle a = true ∧ s.browseNext e (browseIdx a) = true) s
    ((s.setBrowsePos e { s.browsePos e with next := browseIdx a + 1, last := s.tl.fc + 1 }).browseAct a found)

/-! ## Graze (R336 to R340, R344) -/

/-- The window a unit borrows in the present graze period (R336). -/
def State.grazeWindow (s : State) (u : Nat) : Nat := (s.tl.at34 / 65536 + 64 * (if u < 32 then u else u - 32)) % 2048

/-- A unit's graze engine is enabled (R339). -/
def State.grazeOn (s : State) (u : Nat) : Bool :=
  if u < 32 then nbits (s.f F.ECC_GRZBANK_EN) u 1 == 1 else nbits (s.f F.ECC_GRZSLICE_EN) (u - 32) 1 == 1

/-- Unit of a soft-repair entry. -/
def srUnit (e : SoftRepair) : Nat := if e.cls = 0 then e.unit else 32 + e.unit

/-- BORROW (R336, R337, R339): at a graze period an engine borrows its window; a disabled engine does so only for a repair. -/
def execBorrow (u : Fin 48) (errs : List (Nat × Flaw)) (s : State) : Host.Outcome State Fault Refusal :=
  let w := s.grazeWindow u.val
  let repair := s.mem.srPend.any (fun e => srUnit e == u.val && e.sub == w)
  let base := u.val * 2 ^ 20 + 512 * w
  let b : Borrow := { window := w, since := s.tl.fc - s.tl.at34 % 65536, repair := !s.grazeOn u.val }
  onlyIf (s.tl.released = true ∧ s.tl.at34 % 65536 < 5120 ∧ s.dieUp 0 = true ∧ (s.grazeOn u.val = true ∨ repair = true)
      ∧ mfind s.mem.borrow u.val = none) s
    ((List.range 512).foldl (fun t i =>
      let x := t.suffer errs (base + i)
      match t.foundAt errs (base + i) with
      | .clean => x
      | .corr => (x.readCorr (base + i) 2).mark (base + i) .clean
      | .uncorr => x.readUncorr (base + i) 2)
     (s.takeWindow u.val b))

/-- A failed row (R340): counted, recorded and reported, and repaired at this write-back while AUTOREPAIR is 1. -/
def State.rowFailed (s : State) (u w row : Nat) : State :=
  let cls := if u < 32 then 0 else 1
  let n := if u < 32 then u else u - 32
  let r := if s.b F.ECC_GRZSLICE_AUTOREPAIR then s.addRepair cls n w row 0 else (1, none, s)
  let t := ((r.2.2.incF F.ECC_GRZSTAT_FAILS).reportLow Rg.ECC_GRZLAST ((u * 2048 + w) * 64 + row)
    [(F.ECC_GRZLAST_KIND, cls), (F.ECC_GRZLAST_INSTANCE, n), (F.ECC_GRZLAST_SUBARRAY, w), (F.ECC_GRZLAST_ROW, row),
     (F.ECC_GRZLAST_REPAIRED, if r.1 = 0 then 1 else 0), (F.ECC_GRZLAST_VALID, 1)]).raise Ev.GRAZE_FAIL [u, w, row]
  if r.1 = 0 then t.raise Ev.REPAIR_DONE [u, w, row] else t

/-- GRAZE_WRITE_BACK (R337, R340, R344): the borrow ends with its 5,120th fc; repairs of the window are applied. -/
def execGrazeWriteBack (u : Fin 48) (failed : List (Fin 64)) (s : State) : Host.Outcome State Fault Refusal :=
  match mfind s.mem.borrow u.val with
  | some b =>
    let mine (e : SoftRepair) : Bool := srUnit e == u.val && e.sub == b.window
    let t := if b.repair then s else failed.foldl (fun t r => t.rowFailed u.val b.window r.val) s
    let v := (s.mem.srPend.filter mine).foldl (fun t e => t.raise Ev.REPAIR_DONE [u.val, e.sub, e.row]) t
    onlyIf (b.since + 5119 ≤ s.tl.fc) s
      (((v.returnWindow u.val).incF F.ECC_GRZSTAT_BORROWS).modMem (fun m => { m with srPend := m.srPend.filter (fun e => !mine e) }))
  | none => .next s

end Sys2Proof.Machine
end

