-- ==== Sys2Proof/Machine/SaenoCore.lean ====
section
/-!
DEFINITION. Sys2Proof/Machine/SaenoCore.lean: the Saeno instructions of chapter 7 that need nothing outside the fabric:
timeline waits, contexts, control flow, arithmetic, events.
-/
namespace Sys2Proof.Machine
open Sys2Proof

/-! ## Program time and timeline waits (R160 to R163, R189 to R191) -/

/-- Distance of a target from a program time, nearest way round the 128 hyperframes (R160). -/
def distance (target now : Nat) : Int :=
  let d : Int := ((target / 2 ^ 34 + 128 - now / 2 ^ 34) % 128 * L : Nat) + (target % 2 ^ 34 : Nat) - (now % 2 ^ 34 : Nat)
  if (64 * L : Nat) ≤ d then d - (128 * L : Nat) else d

/-- A program time advanced by up to one SFN cycle (R190). -/
def advance (t d : Nat) : Nat :=
  let at_ := t % 2 ^ 34 + d
  if at_ < L then t / 2 ^ 34 * 2 ^ 34 + at_ else (t / 2 ^ 34 + 1) % 128 * 2 ^ 34 + (at_ - L)

/-- A timeline wait that finds its target passed (R160 to R162). -/
def State.missed (s : State) (k : Fin 4) (target late : Nat) : State :=
  let t := (((s.modSeq k (fun q => { q with sp := target })).incF (F.SEQ_MISS_COUNT k)).setF (F.SEQ_MISS_LATE k)
      (min late 0xFFFF)).raise (Ev.DEADLINE_MISS k) [(s.seq k).pc, late]
  if s.b (F.SEQ_CTL_MISSFAULT k) then t.issueFault k 0x09 else t.done k 1

/-- A timeline wait on a target, judged in its issue fc (R160). -/
def State.timelineWait (s : State) (k : Fin 4) (target : Nat) : State :=
  let d := distance target (s.seqTime k)
  if L ≤ target % 2 ^ 34 ∨ (L : Int) < d then s.issueFault k 0x05
  else if 1 ≤ d then
    s.modSeq k (fun q => { q with sp := target, mode := .waitTime, wait := .time target (s.tl.fc + d.toNat) true })
  else s.missed k target (1 - d).toNat

/-- WAITAT (R189): a target from the word. -/
def execWaitat (k : Fin 4) (e : Flaw) (target : BitVec 41) (s : State) : Host.Outcome State Fault Refusal :=
  ok (s.issue k e (.waitat k e target) (fun t => t.timelineWait k target.toNat))

/-- WAITATR (R189): a target from two registers. -/
def execWaitatr (k : Fin 4) (e : Flaw) (a b : Fin 32) (s : State) : Host.Outcome State Fault Refusal :=
  ok (s.issue k e (.waitatr k e a b) (fun t =>
    let hi := ((t.seq k).rd b).toNat
    if 512 ≤ hi then t.issueFault k 0x05 else t.timelineWait k (((t.seq k).rd a).toNat + hi * 2 ^ 32)))

/-- WAITREL (R190): a target a count of fc past SP. -/
def execWaitrel (k : Fin 4) (e : Flaw) (o : Opnd) (s : State) : Host.Outcome State Fault Refusal :=
  ok (s.issue k e (.waitrel k e o) (fun t =>
    let d := (t.seq k).opnd o
    if L < d then t.issueFault k 0x05 else t.timelineWait k (advance (t.seq k).sp d)))

/-- ALIGN (R191): the next program time on a grid. -/
def execAlign (k : Fin 4) (e : Flaw) (a : Fin 32) (period : BitVec 34) (s : State) : Host.Outcome State Fault Refusal :=
  ok (s.issue k e (.align k e a period) (fun t =>
    let p := period.toNat
    let off := ((t.seq k).rd a).toNat
    if p ≤ off then t.issueFault k 0x05
    else
      let r := (off + p - t.seqTime k % 2 ^ 34 % p) % p
      t.timelineWait k (advance (t.seqTime k) (if r = 0 then p else r))))

/-- TIMELINE_WAIT_END (R160): the fc of the target is reached. -/
def execTimelineWaitEnd (k : Fin 4) (s : State) : Host.Outcome State Fault Refusal :=
  match (s.seq k).wait with
  | .time _ due met =>
    onlyIf (due ≤ s.tl.fc) s
      (s.modSeq k (fun q => { q.close with mode := .running, wait := .none, due := due, clrFault := q.clrFault || met }))
  | _ => ok s

/-! ## Contexts (R114 to R120, R192 to R195) -/

/-- A plane that may not be refilled: current, or the target of a SWITCH not yet in effect (Table 4-3). -/
def State.planeBusy (s : State) (ly : Fin 4) (j : Fin 8) (p : Fin 4) : Bool :=
  let r := s.region ly j
  r.cur == p || r.nextCur == some p || r.pendSw == some p

/-- PREFETCH (R114, R115, R192). A plane that is busy gives PLANE_BUSY alone, whatever the slot is (log 104). -/
def execPrefetch (k : Fin 4) (e : Flaw) (o : Opnd) (s : State) : Host.Outcome State Fault Refusal :=
  ok (s.issue k e (.prefetch k e o) (fun t =>
    let f := (t.seq k).opnd o
    let j : Fin 8 := Fin.ofNat 8 f
    let p : Fin 4 := Fin.ofNat 4 (f / 8)
    let slot : Fin 32 := Fin.ofNat 32 (f / 32)
    let u :=
      if t.regionTiles k j = [] then t.raise (Ev.SWITCH_REFUSED k) [(t.seq k).pc, j.val, p.val, slot.val]
      else if t.planeBusy k j p then t.raise (Ev.PLANE_BUSY k) [(t.seq k).pc, j.val, p.val, slot.val]
      else if !t.slotOk k j slot then t.raise (Ev.SLOT_INVALID k) [(t.seq k).pc, j.val, p.val, slot.val]
      else t.askRefill k j p slot
    u.done k 1))

/-- The fc that a SWITCH issued now stalls for a refill: n + 8 − m (R118). -/
def State.stallsFor (s : State) (k : Fin 4) (j : Fin 8) (q : Fin 4) : Nat := (s.plane k j q).refillAt + 8 - s.tl.fc

/-- SWITCH (R117 to R119, R192, R193). -/
def execSwitch (k : Fin 4) (e : Flaw) (o : Opnd) (s : State) : Host.Outcome State Fault Refusal :=
  ok (s.issue k e (.switch k e o) (fun t =>
    let f := (t.seq k).opnd o
    let j : Fin 8 := Fin.ofNat 8 f
    let q : Fin 4 := Fin.ofNat 4 (f / 8)
    if t.regionTiles k j = [] then (t.raise (Ev.SWITCH_REFUSED k) [(t.seq k).pc, j.val, q.val]).done k 1
    else if (t.region k j).cur = q then (t.modSeq k (fun x => { x with clrAlt := x.inAlt })).done k 1
    else match (t.plane k j q).st with
      | .valid => ((t.modRegion k j (fun r => { r with nextCur := some q })).modSeq k (fun x =>
          { x with clrAlt := x.inAlt })).done k 1
      | .refilling => (t.modRegion k j (fun r => { r with pendSw := some q })).modSeq k (fun x =>
          { x with mode := if t.stallsFor k j q = 0 then .running else .stall, wait := .stall j q t.tl.fc })
      | _ => ((t.raise (Ev.SWITCH_REFUSED k) [(t.seq k).pc, j.val, q.val]).done k 1).altCond k 1 j.val))

/-- The SWITCH of a layer that waits for a refill: its region and plane, and the fc it issued in. One whose sequencer has meanwhile
been diverted or stopped waits on without it (R170, R179). -/
def State.stalled (s : State) (k : Fin 4) : Option (Fin 8 × Fin 4 × Option Nat) :=
  match (s.seq k).wait with
  | .stall j q since => some (j, q, some since)
  | _ => (List.finRange 8).findSome? (fun j => (s.region k j).pendSw.map (fun q => (j, q, none)))

/-- The sequencer goes on behind its stalled SWITCH from fc `due` on; a STOP that has waited for the stall acts at once (R179). -/
def State.afterStall (s : State) (k : Fin 4) (due : Nat) : State :=
  let t := s.modSeq k (fun x => x.goOn due)
  if (t.seq k).leaving t.tl.fc then t.seqStop k else t

/-- INALT is 0 from the present fc, by a SWITCH whose sequencer no longer waits for it (R165). -/
def Seq.altOver (q : Seq) (fc : Nat) : Seq := { q with inAlt := false, quiet := if q.inAlt && !q.inFault then fc else q.quiet }

/-- A stalled SWITCH takes effect in the present fc (R117, R118): counted as a stall unless it stalled for no fc. -/
def State.stallTaken (s : State) (k : Fin 4) (j : Fin 8) (q : Fin 4) (since : Option Nat) : State :=
  let t := s.makeCurrent k j q
  let u := if since = some ((s.plane k j q).refillAt + 8) then t
    else (t.incF (F.CFG_LR_CNT_STALLS k j.val)).raise (Ev.SWITCH_STALL k) [(s.seq k).pc, j.val, q.val]
  match since with
  | some _ => (u.modSeq k (fun x => { x with clrAlt := x.inAlt })).afterStall k s.tl.fc
  | none => u.modSeq k (fun x => x.altOver s.tl.fc)

/-- A stalled SWITCH is refused in the present fc (R119, R165, R193). -/
def State.stallRefused (s : State) (k : Fin 4) (j : Fin 8) (q : Fin 4) (since : Option Nat) : State :=
  let t := (s.modRegion k j (fun r => { r with pendSw := none })).raise (Ev.SWITCH_REFUSED k) [(s.seq k).pc, j.val, q.val]
  ((if since.isSome then (t.modSeq k (fun x => { x with stallCond := none })).afterStall k (s.tl.fc + 1) else t)).altCond k 1 j.val

/-- The refill that a SWITCH waits for is over: it has read its last beat, and its end has been judged (R114). -/
def State.stallOver (s : State) (k : Fin 4) (j : Fin 8) (q : Fin 4) : Bool :=
  !(s.plane k j q).run && decide ((s.plane k j q).refillAt + 9 ≤ s.tl.fc)

/-- SWITCH_STALL (R118): the refill a SWITCH waits for is over. -/
def execSwitchStall (k : Fin 4) (s : State) : Host.Outcome State Fault Refusal :=
  match s.stalled k with
  | some (j, q, since) =>
    onlyIf (s.stallOver k j q = true) s
      (if (s.plane k j q).st = .valid then s.stallTaken k j q since else s.stallRefused k j q since)
  | none => ok s

/-- An ALT condition that had waited is taken as arising in the present fc; without an ALT entry it is a fault (R165,
R166). -/
def State.takePending (s : State) (k : Fin 4) (reason region : Nat) : State :=
  let q := s.seq k
  match s.vector k 1 with
  | some entry => s.takeAlt k entry reason region s.tl.fc q.wouldIssue
  | none => (s.modSeq k (fun q => { q with altPend := none, stallCond := none })).seqFault k
      (if reason = 1 then 0x0A else 0x0B) q.pc s.tl.fc q.wouldIssue

/-- The ALT condition that is to be taken in an fc: one pending behind a handler in the fc after both handler bits are 0; one
that arose during a stall, in the fc in which the stall ended (R165). -/
def Seq.altDue (q : Seq) (fc : Nat) : Option (Nat × Nat) :=
  if q.mode = .stopped ∨ q.mode = .faulted ∨ q.mode = .stall ∨ q.inAlt = true ∨ q.inFault = true then none
  else match q.stallCond, q.altPend with
    | some c, _ => some c
    | none, some c => if q.quiet + 1 ≤ fc then some c else none
    | none, none => none

/-- PENDING_ALT (R165). -/
def execPendingAlt (k : Fin 4) (s : State) : Host.Outcome State Fault Refusal :=
  match (s.seq k).altDue s.tl.fc with
  | some c => ok (s.takePending k c.1 c.2)
  | none => ok s

/-- FLOPSEL (R194): the override from the next fc. -/
def execFlopsel (k : Fin 4) (e : Flaw) (o : Opnd) (s : State) : Host.Outcome State Fault Refusal :=
  ok (s.issue k e (.flopsel k e o) (fun t =>
    let f := (t.seq k).opnd o
    let j : Fin 8 := Fin.ofNat 8 f
    let r := t.region k j
    let next : Option (Option (Fin 4)) := match f / 32 % 4 with
      | 0 => some (some (Fin.ofNat 4 (f / 8)))
      | 1 => some (some (match r.ovr with | some x => x + 1 | none => 0))
      | 2 => some none
      | _ => none
    (if t.regionTiles k j = [] then t else t.modRegion k j (fun r => { r with ovrNext := next })).done k 1))

/-- The arm of a capture ends without one (R402). -/
def State.captureMissed (s : State) (layer region : Nat) : State :=
  (s.setF F.CFG_CAPSTAT_MISSED 1).raise Ev.CAP_MISSED [layer, region, s.fullTime % 2 ^ 32, s.fullTime / 2 ^ 32]

/-- CAPTURE (R195): asked for in this fc, done at its end; an armed capture of the same fc gives way (R402). -/
def execCapture (k : Fin 4) (e : Flaw) (o : Opnd) (s : State) : Host.Outcome State Fault Refusal :=
  ok (s.issue k e (.capture k e o) (fun t =>
    let f := (t.seq k).opnd o
    let j : Fin 8 := Fin.ofNat 8 f
    let u :=
      if t.regionTiles k j = [] then t
      else if (t.layer k).cap.isSome then t.raise (Ev.CAPTURE_BUSY k) [(t.seq k).pc, j.val]
      else
        let v := match (t.layer k).capReq with
          | some r => t.captureMissed k.val r.region.val
          | none => t
        v.setLayer k { v.layer k with capReq := some { region := j, horn := f / 8 % 2 == 1, host := false } }
    u.done k 1))

/-- REFILL_COMPLETE (R114, R116): from the ninth fc after its start the plane stands filled. A region whose current plane
a restart refills is held from the fc of release if the fill is corrupt (R123). -/
def execRefillComplete (layer : Fin 4) (region : Fin 8) (plane : Fin 4) (errs : List (Nat × Flaw)) (s : State) :
    Host.Outcome State Fault Refusal :=
  onlyIf ((s.plane layer region plane).run = true ∧ (s.plane layer region plane).refillAt + 9 ≤ s.tl.fc) s
    (s.endRefill layer region plane errs)

/-! ## Control flow (R196 to R200) -/

/-- Loop entries a taken branch at their depth leaves (R199). -/
def leaveLoops (depth target : Nat) : List LoopEnt → List LoopEnt
  | [] => []
  | l :: r => if l.depth = depth ∧ (target < l.start ∨ l.last < target) then leaveLoops depth target r else l :: r

/-- A transfer of control to an address, 2 fc after its issue. -/
def State.jump (s : State) (k : Fin 4) (target : Nat) (h : Seq → Seq) : State :=
  s.modSeq k (fun q => { h q with next := target, due := s.tl.fc + 2, mode := .running, wait := .none })

/-- A taken branch (R196, R199). -/
def State.branch (s : State) (k : Fin 4) (target : Nat) : State :=
  s.jump k target (fun q => { q with loops := leaveLoops q.calls.length target q.loops })

/-- BR (R196). -/
def execBr (k : Fin 4) (e : Flaw) (target : BitVec 16) (s : State) : Host.Outcome State Fault Refusal :=
  ok (s.issue k e (.br k e target) (fun t => t.branch k target.toNat))

/-- A branch condition (Table 7-4); none for a reserved one. -/
def Seq.holds (q : Seq) (fc cond : Nat) : Option Bool :=
  match cond with
  | 0x00 => some q.z
  | 0x01 => some !q.z
  | 0x02 => some q.c
  | 0x03 => some !q.c
  | 0x04 => some q.n
  | 0x05 => some !q.n
  | 0x06 => some q.v
  | 0x07 => some !q.v
  | 0x08 => some (q.c && !q.z)
  | 0x09 => some (!q.c || q.z)
  | 0x0A => some (q.n == q.v)
  | 0x0B => some (q.n != q.v)
  | 0x0C => some (!q.z && q.n == q.v)
  | 0x0D => some (q.z || q.n != q.v)
  | _ =>
    if 0x20 ≤ cond ∧ cond < 0x40 then some ((q.inputs fc).getLsbD (cond - 0x20))
    else if 0x40 ≤ cond ∧ cond < 0x60 then some (!(q.inputs fc).getLsbD (cond - 0x40))
    else none

/-- BRC (R196): a reserved condition is no defined instruction (log 6). -/
def execBrc (k : Fin 4) (e : Flaw) (cond : BitVec 8) (target : BitVec 16) (s : State) : Host.Outcome State Fault Refusal :=
  ok (s.issue k e (.brc k e cond target) (fun t =>
    match (t.seq k).holds t.tl.fc cond.toNat with
    | some true => t.branch k target.toNat
    | some false => t.done k 1
    | none => t.issueFault k 0x02))

/-- CALL (R197). -/
def execCall (k : Fin 4) (e : Flaw) (target : BitVec 16) (s : State) : Host.Outcome State Fault Refusal :=
  ok (s.issue k e (.call k e target) (fun t =>
    if 16 ≤ (t.seq k).calls.length then t.issueFault k 0x03
    else t.jump k target.toNat (fun q => { q with calls := (q.pc + 1) % 65536 :: q.calls })))

/-- RET (R197, R199). -/
def execRet (k : Fin 4) (e : Flaw) (s : State) : Host.Outcome State Fault Refusal :=
  ok (s.issue k e (.ret k e) (fun t =>
    match (t.seq k).calls with
    | [] => t.issueFault k 0x04
    | x :: r => t.jump k x (fun q => { q with calls := r, loops := q.loops.dropWhile (fun l => l.depth == q.calls.length) })))

/-- LOOP (R198). -/
def execLoop (k : Fin 4) (e : Flaw) (last : BitVec 16) (o : Opnd) (s : State) : Host.Outcome State Fault Refusal :=
  ok (s.issue k e (.loop k e last o) (fun t =>
    let c := (t.seq k).opnd o % 65536
    if 4 ≤ (t.seq k).loops.length then t.issueFault k 0x03
    else if c = 0 then t.jump k ((last.toNat + 1) % 65536) id
    else t.modSeq k (fun q => { q with
      loops := { start := (q.pc + 1) % 65536, last := last.toNat, remaining := c, depth := q.calls.length } :: q.loops,
      next := (q.pc + 1) % 65536, due := t.tl.fc + 1 })))

/-- HALT (R200): STOPPED in the next fc. -/
def execHalt (k : Fin 4) (e : Flaw) (s : State) : Host.Outcome State Fault Refusal :=
  ok (s.issue k e (.halt k e) (fun t => (t.done k 1).modSeq k (fun q => { q with stopReq := some t.tl.fc })))

/-- NOP (R187). -/
def execNop (k : Fin 4) (e : Flaw) (s : State) : Host.Outcome State Fault Refusal :=
  ok (s.issue k e (.nop k e) (fun t => t.done k 1))

/-- PROGRAM_WRITE_BACK (R156): a corrected program word is written back; the 16th fc after its fetch is the last. -/
def execProgramWriteBack (k : Fin 4) (addr : BitVec 16) (s : State) : Host.Outcome State Fault Refusal :=
  let key := 65536 * k.val + addr.toNat
  onlyIf ((mfind s.fab.pgmWb key).isSome = true) s (s.writePgmBack key)

/-- ILLEGAL (R167, R185): a word with an undefined opcode or a field that must be 0. -/
def execIllegal (k : Fin 4) (e : Flaw) (w : BitVec 64) (s : State) : Host.Outcome State Fault Refusal :=
  ok (s.issue k e (.illegal k e w) (fun t => t.issueFault k 0x02))

/-! ## Arithmetic (R201, Table 7-5) -/

/-- A result with its flags N and Z; C and V where the instruction sets them. -/
def Seq.result (q : Seq) (d : Fin 32) (w : Word) (c v : Option Bool) : Seq :=
  { q.wr d w with n := w.getLsbD 31, z := w == 0, c := c.getD q.c, v := v.getD q.v }

/-- A one-fc arithmetic instruction of a second operand. -/
def State.alu (s : State) (k : Fin 4) (h : Seq → Seq) : State := (s.modSeq k h).done k 1

/-- The 32-bit second operand. -/
def Seq.opw (q : Seq) (o : Opnd) : Word := BitVec.ofNat 32 (q.opnd o)

/-- MOVI (R201). -/
def execMovi (k : Fin 4) (e : Flaw) (d : Fin 32) (v : Word) (s : State) : Host.Outcome State Fault Refusal :=
  ok (s.issue k e (.movi k e d v) (fun t => t.alu k (fun q => q.wr d v)))

/-- Signed overflow of a sum. -/
def addOverflow (x y r : Word) : Bool := x.getLsbD 31 == y.getLsbD 31 && r.getLsbD 31 != x.getLsbD 31

/-- Signed overflow of a difference. -/
def subOverflow (x y r : Word) : Bool := x.getLsbD 31 != y.getLsbD 31 && r.getLsbD 31 != x.getLsbD 31

/-- ADD (R201). -/
def execAdd (k : Fin 4) (e : Flaw) (d a : Fin 32) (o : Opnd) (s : State) : Host.Outcome State Fault Refusal :=
  ok (s.issue k e (.add k e d a o) (fun t => t.alu k (fun q =>
    let x := q.rd a
    let y := q.opw o
    q.result d (x + y) (some (decide (2 ^ 32 ≤ x.toNat + y.toNat))) (some (addOverflow x y (x + y))))))

/-- SUB (R201). -/
def execSub (k : Fin 4) (e : Flaw) (d a : Fin 32) (o : Opnd) (s : State) : Host.Outcome State Fault Refusal :=
  ok (s.issue k e (.sub k e d a o) (fun t => t.alu k (fun q =>
    let x := q.rd a
    let y := q.opw o
    q.result d (x - y) (some (decide (y.toNat ≤ x.toNat))) (some (subOverflow x y (x - y))))))

/-- AND (R201). -/
def execAnd (k : Fin 4) (e : Flaw) (d a : Fin 32) (o : Opnd) (s : State) : Host.Outcome State Fault Refusal :=
  ok (s.issue k e (.and k e d a o) (fun t => t.alu k (fun q => q.result d (q.rd a &&& q.opw o) none none)))

/-- OR (R201). -/
def execOr (k : Fin 4) (e : Flaw) (d a : Fin 32) (o : Opnd) (s : State) : Host.Outcome State Fault Refusal :=
  ok (s.issue k e (.or k e d a o) (fun t => t.alu k (fun q => q.result d (q.rd a ||| q.opw o) none none)))

/-- XOR (R201). -/
def execXor (k : Fin 4) (e : Flaw) (d a : Fin 32) (o : Opnd) (s : State) : Host.Outcome State Fault Refusal :=
  ok (s.issue k e (.xor k e d a o) (fun t => t.alu k (fun q => q.result d (q.rd a ^^^ q.opw o) none none)))

/-- SHL (R201): C is the last bit shifted out. -/
def execShl (k : Fin 4) (e : Flaw) (d a : Fin 32) (o : Opnd) (s : State) : Host.Outcome State Fault Refusal :=
  ok (s.issue k e (.shl k e d a o) (fun t => t.alu k (fun q =>
    let n := q.opnd o % 32
    q.result d (q.rd a <<< n) (if n = 0 then none else some ((q.rd a).getLsbD (32 - n))) none)))

/-- SHR (R201): logical, or arithmetic with ARITH. -/
def execShr (k : Fin 4) (e : Flaw) (d a : Fin 32) (arith : Bool) (o : Opnd) (s : State) : Host.Outcome State Fault Refusal :=
  ok (s.issue k e (.shr k e d a arith o) (fun t => t.alu k (fun q =>
    let n := q.opnd o % 32
    q.result d (if arith then (q.rd a).sshiftRight n else q.rd a >>> n)
      (if n = 0 then none else some ((q.rd a).getLsbD (n - 1))) none)))

/-- CMP (R201): the flags of a difference. -/
def execCmp (k : Fin 4) (e : Flaw) (a : Fin 32) (o : Opnd) (s : State) : Host.Outcome State Fault Refusal :=
  ok (s.issue k e (.cmp k e a o) (fun t => t.alu k (fun q =>
    let x := q.rd a
    let y := q.opw o
    q.result 0 (x - y) (some (decide (y.toNat ≤ x.toNat))) (some (subOverflow x y (x - y))))))

/-- The value a MOVS selector names (Table 7-6); time reads 0 before the release (R222). -/
def State.movsVal (s : State) (k : Fin 4) (sel : Nat) : Option Word :=
  let q := s.seq k
  let now := if s.tl.released then s.seqTime k else 0
  match sel with
  | 0 => some (BitVec.ofNat 32 now)
  | 1 => some (BitVec.ofNat 32 (now / 2 ^ 32))
  | 2 => some (BitVec.ofNat 32 q.sp)
  | 3 => some (BitVec.ofNat 32 (q.sp / 2 ^ 32))
  | 4 => some (q.inputs s.tl.fc)
  | 5 => some (BitVec.ofNat 32 (if s.tl.released then s.copyTime (Fin.castSucc k) / 2 ^ 34 else s.tl.hfn % 2 ^ 16))
  | 6 => some (BitVec.ofNat 32 k.val)
  | _ => none

/-- MOVS (R202): a reserved selector is no defined instruction (log 6). -/
def execMovs (k : Fin 4) (e : Flaw) (d : Fin 32) (sel : BitVec 4) (s : State) : Host.Outcome State Fault Refusal :=
  ok (s.issue k e (.movs k e d sel) (fun t =>
    match t.movsVal k sel.toNat with
    | some w => t.alu k (fun q => q.wr d w)
    | none => t.issueFault k 0x02))

/-! ## Events and records (R210 to R212) -/

/-- Severities a program names (R210). -/
def progSev (n : Nat) : Option Sev :=
  match n with
  | 0 => some .information
  | 1 => some .warning
  | 2 => some .critical
  | 3 => some .fatal
  | _ => none

/-- RAISE (R210). -/
def execRaise (k : Fin 4) (e : Flaw) (sev event : BitVec 3) (a : Fin 32) (s : State) : Host.Outcome State Fault Refusal :=
  ok (s.issue k e (.raise k e sev event a) (fun t =>
    match progSev sev.toNat with
    | some v => (t.raiseAt (Ev.USER k event.toNat) v [(t.seq k).rd a, BitVec.ofNat 32 (t.seq k).pc]).done k 1
    | none => t.issueFault k 0x02))

/-- LOG (R211): a record of a program, with no event. -/
def execLog (k : Fin 4) (e : Flaw) (a : Fin 32) (count : BitVec 4) (type : Byte) (sev : BitVec 3) (s : State) :
    Host.Outcome State Fault Refusal :=
  ok (s.issue k e (.log k e a count type sev) (fun t =>
    match progSev sev.toNat with
    | some v => (t.progRecord v (0xF00 + type.toNat) k.val ((t.seq k).rdAll a.val (min 8 count.toNat))).done k 1
    | none => t.issueFault k 0x02))

/-- EVCLR (R212). -/
def execEvclr (k : Fin 4) (e : Flaw) (o : Opnd) (s : State) : Host.Outcome State Fault Refusal :=
  ok (s.issue k e (.evclr k e o) (fun t => (t.modSeq k (fun q => q.clearInputs t.tl.fc (q.opw o))).done k 1))

end Sys2Proof.Machine
end

