-- ==== Sys2Proof/Machine/Mailbox.lean ====
section
/-!
DEFINITION. Sys2Proof/Machine/Mailbox.lean: Rinom's mailbox (R265 to R270): a command starts when GO is written and ends
with its response and status.
-/
namespace Sys2Proof.Machine
open Sys2Proof

/-! ## Start of a command (R265, R266) -/

/-- What becomes of a write of a TK register: ignored while Rinom is in reset (R588), and in the mailbox ignored with OVR while
BUSY (R266). -/
def State.tkWrite (s : State) (who : Who) (off : Nat) (mailbox : Bool) (act : State) : State :=
  match s.stopAccess who off with
  | some r => s.refuse who off r
  | none =>
    if s.rinomOff then { s with reply := .done }
    else if mailbox && s.b F.TK_MBSTAT_BUSY then { s.setF F.TK_MBSTAT_OVR 1 with reply := .done }
    else act

/-- A write of TK_MBCMD: with GO a command starts, whatever its CMD. -/
def State.mbWrite (s : State) (who : Who) (w : Word) (sig : Bool) : State :=
  s.tkWrite who Rg.TK_MBCMD true (s.onBus who Rg.TK_MBCMD w (fun t =>
    if w.getLsbD 31 then (t.setF F.TK_MBSTAT_BUSY 1).modRin (fun r => { r with mbSig := sig }) else t))

/-- GO with a command of Table 9-4 and a request length. -/
def State.mbGo (s : State) (who : Who) (cmd : Nat) (len : BitVec 12) (sig : Bool) : State :=
  s.mbWrite who (BitVec.ofNat 32 (2 ^ 31 + len.toNat * 2 ^ 16 + cmd)) sig

/-- INFO (R267). -/
def execInfo (who : Who) (len : BitVec 12) (s : State) : Host.Outcome State Fault Refusal := ok (s.mbGo who 0x01 len false)
/-- ATTEST (R270). -/
def execAttest (who : Who) (len : BitVec 12) (s : State) : Host.Outcome State Fault Refusal := ok (s.mbGo who 0x02 len false)
/-- GET_KEY (R269). -/
def execGetKey (who : Who) (len : BitVec 12) (s : State) : Host.Outcome State Fault Refusal := ok (s.mbGo who 0x03 len false)
/-- SET_REF (R267). -/
def execSetRef (who : Who) (len : BitVec 12) (s : State) : Host.Outcome State Fault Refusal := ok (s.mbGo who 0x04 len false)
/-- SET_LOCK (R267). -/
def execSetLock (who : Who) (len : BitVec 12) (s : State) : Host.Outcome State Fault Refusal := ok (s.mbGo who 0x05 len false)
/-- SET_ASYM (R248). -/
def execSetAsym (who : Who) (len : BitVec 12) (s : State) : Host.Outcome State Fault Refusal := ok (s.mbGo who 0x06 len false)
/-- SET_LEAP (R263). -/
def execSetLeap (who : Who) (len : BitVec 12) (s : State) : Host.Outcome State Fault Refusal := ok (s.mbGo who 0x07 len false)
/-- FORCE (R250). -/
def execForce (who : Who) (len : BitVec 12) (s : State) : Host.Outcome State Fault Refusal := ok (s.mbGo who 0x08 len false)
/-- SET_TIME (R268): the request is a signed command, whose signature check gives `sigOk`. -/
def execSetTime (who : Who) (len : BitVec 12) (sigOk : Bool) (s : State) : Host.Outcome State Fault Refusal :=
  ok (s.mbGo who 0x09 len sigOk)
/-- SET_MODEL (R254). -/
def execSetModel (who : Who) (len : BitVec 12) (s : State) : Host.Outcome State Fault Refusal :=
  ok (s.mbGo who 0x0A len false)
/-- MODEL_READ (R267). -/
def execModelRead (who : Who) (len : BitVec 12) (s : State) : Host.Outcome State Fault Refusal :=
  ok (s.mbGo who 0x0B len false)
/-- MODEL_RESET (R257). -/
def execModelReset (who : Who) (len : BitVec 12) (s : State) : Host.Outcome State Fault Refusal :=
  ok (s.mbGo who 0x0C len false)
/-- LOG_READ (R246). -/
def execLogRead (who : Who) (len : BitVec 12) (s : State) : Host.Outcome State Fault Refusal :=
  ok (s.mbGo who 0x0D len false)
/-- SET_TOD (R263). -/
def execSetTod (who : Who) (len : BitVec 12) (s : State) : Host.Outcome State Fault Refusal :=
  ok (s.mbGo who 0x0E len false)

/-! ## The request and the response -/

/-- The first bytes of TK_MBDATA. -/
def State.mbBytes (s : State) (n : Nat) : List Byte :=
  ((List.range ((n + 3) / 4)).flatMap (fun i => leBytes 4 (s.reg (Rg.TK_MBDATA i)).toNat)).take n

/-- Words from bytes, the last padded with 0. -/
def wordsOf (l : List Byte) : List Word :=
  (List.range ((l.length + 3) / 4)).map (fun i => BitVec.ofNat 32 (leNat ((l.drop (4 * i)).take 4)))

/-- Write a response into TK_MBDATA from byte 0. -/
def State.mbPut (s : State) (l : List Byte) : State :=
  ((List.range l.length).zip (wordsOf l)).foldl (fun t e => t.setReg (Rg.TK_MBDATA e.1) e.2) s

/-- What a command gives: STATUS, response, and the state with what the command sets going. -/
structure MbEnd where
  status : Nat
  resp : List Byte
  st : State

/-- Request length of a command; SET_TIME's is a signed command with 6 bytes of payload; none: undefined command. -/
def mbLen (cmd : Nat) : Option Nat :=
  [none, some 0, some 32, some 0, some 12, some 8, some 8, some 8, some 1, some 1064, some 4, some 2, some 0, some 4,
   some 2].getD cmd none

/-- The fields of a request are in range (Table 9-4). -/
def mbRange (cmd : Nat) (q : List Byte) : Bool :=
  let n (i k : Nat) := numAt q i k
  match cmd with
  | 0x04 => decide (n 0 1 ≤ 7 ∧ n 1 1 ≤ 7 ∧ n 2 1 ≤ 7 ∧ n 3 1 ≤ 7 ∧ n 4 1 ≤ 31 ∧ n 5 1 ≤ 31 ∧ 24 ≤ n 6 1 ∧ n 6 1 ≤ 43
      ∧ n 7 1 ≤ 5 ∧ n 8 2 ≤ 3600)
  | 0x05 => decide (10 ≤ n 0 2 ∧ n 0 2 ≤ 500 ∧ 1 ≤ n 2 2 ∧ n 2 2 ≤ 3600 ∧ 100 ≤ n 4 4 ∧ n 4 4 ≤ 100000)
  | 0x06 => decide (n 0 1 ≤ 3)
  | 0x07 => decide (n 2 1 ≤ 2)
  | 0x08 => decide (n 0 1 ≤ 2)
  | 0x0A => decide (n 0 1 ≤ 2)
  | 0x0B => decide (1 ≤ n 1 1 ∧ n 1 1 ≤ 64 ∧ n 0 1 + n 1 1 ≤ 160)
  | 0x0E => decide (n 0 1 ≤ 1 ∧ n 1 1 ≤ 2)
  | _ => true

/-- The configuration a command builds on: one that already waits for the tick, or the one in force. -/
def Rinom.base (r : Rinom) : RinCfg := r.next.getD r.cfg

/-- The configuration a command asks for. -/
def cfgOf (c : RinCfg) (cmd : Nat) (q : List Byte) : RinCfg :=
  let n (i k : Nat) := numAt q i k
  match cmd with
  | 0x04 => { c with prio := #v[n 0 1, n 1 1, n 2 1, n 3 1], ptpPort := n 4 1, synceLane := n 5 1, domain := n 6 1,
                     flags := n 7 1, wtr := n 8 2, assistErr := n 10 2 * 1000 }
  | 0x05 => { c with lockLim := n 0 2, lockQual := n 2 2, holdLim := n 4 4 }
  | 0x06 => { c with asym := c.asym.set (n 0 1 % 4) (sgn 32 (n 4 4)) (Nat.mod_lt _ (by decide)) }
  | 0x07 => { c with utc := sgn 16 (n 0 2), leap := n 2 1, leapDay := n 4 4 }
  | 0x0A => { c with tempSrc := n 0 1, aging := n 2 2 * 1000 }
  | 0x0E => { c with tod := n 0 1 == 1, todBaud := n 1 1 }
  | _ => c

/-- Bytes of fields, each with its size, one after another. -/
def fieldBytes (l : List (Nat × Nat)) : List Byte := l.flatMap (fun e => leBytes e.1 e.2)

/-- The signed part of the time-error report (Table 9-6): what varies is the latest tick's; before the first tick of a start
it is the present's. -/
def State.reportBytes (s : State) (nonce : Nat) : List Byte :=
  let (opt, shot) := match s.rin.shot with
    | (_, o) :: l => (o, l)
    | [] => (s.optime, s.tickShot)
  fieldBytes (
    [(4, 0x4D4F4E52), (2, 1), (2, 0x380), (4, (s.reg Rg.DEV_ID).toNat), (4, 0), (8, s.fuse.serial), (4, s.rin.rseq),
     (4, s.f F.PWR_PCC_COUNT), (4, opt), (4, s.fuse.rinomFw), (32, nonce)]
    ++ shot ++ [(32, s.fuse.rinomHash), (16, 0)])

/-- The 16 bytes of a bin; the units of its mean and residual are not stated, so those bytes are free values (log 24). -/
def State.binBytes (s : State) (i : Nat) : List Byte × State :=
  let d := s.draw 64
  let b := mget bin0 s.rin.model.bins i
  (leBytes 8 d.1.toNat ++ leBytes 4 b.count ++ leBytes 4 b.upd, d.2)

/-- Consecutive bins. -/
def State.binsBytes (s : State) (first : Nat) : Nat → List Byte × State
  | 0 => ([], s)
  | n + 1 =>
    let a := s.binBytes first
    let b := a.2.binsBytes (first + 1) n
    (a.1 ++ b.1, b.2)

/-- The record with the lower offset in the ring. -/
def lowerSeal (a : Option SealRec) (b : SealRec) : Option SealRec :=
  match a with
  | some x => if b.off < x.off then some b else a
  | none => some b

/-- The response to LOG_READ: up to 2,048 bytes of the sealed log's ring, from the first whole record at or after the offset;
none where no record starts there (R267). -/
def Rinom.logBytes (r : Rinom) (ofs : Nat) : List Byte :=
  match (r.log.filter (fun x => decide (ofs ≤ x.off))).foldl lowerSeal none with
  | some e => ((r.log.dropWhile (fun x => x.off != e.off)).flatMap (fun x => x.bytes)).take 2048
  | none => []

/-- The report, its signature a free value (R270, log 24). -/
def State.attest (s : State) (nonce : Nat) : List Byte × State :=
  let t := s.modRin (fun r => { r with rseq := r.rseq + 1 })
  let d := t.draw 4096
  (t.reportBytes nonce ++ leBytes 512 d.1.toNat, d.2.sealFree)

/-- SET_TIME (R268): a valid signed command, and no time reference in use. -/
def State.setTimeEnd (s : State) (q : List Byte) : MbEnd :=
  let tok : Token := { bytes := q, sigOk := s.rin.mbSig }
  if s.tokenCheck tok [1] ≠ 0 ∨ tokPlen tok ≠ 6 then { status := 4, resp := [], st := s }
  else if s.timeRef.isSome then { status := 5, resp := [], st := s }
  else { status := 0, resp := [],
         st := (s.acceptToken tok).modRin (fun r => { r with timeCmd := some (leNat (tokPayload tok)) }) }

/-- A command in order: its response, and what it sets going. -/
def State.mbRun (s : State) (cmd : Nat) (q : List Byte) : MbEnd :=
  let give (x : List Byte × State) : MbEnd := { status := 0, resp := x.1, st := x.2 }
  match cmd with
  | 0x01 => give (fieldBytes [(4, (s.reg Rg.DEV_ID).toNat), (4, 0), (8, s.fuse.serial), (4, s.fuse.rinomFw)], s)
  | 0x02 => give (s.attest (leNat q))
  | 0x03 => give (leBytes 512 s.fuse.modulus ++ leBytes 512 s.fuse.endorse, s)
  | 0x08 => give ([], s.modRin (fun r => { r with forceCmd := some (numAt q 0 1) }))
  | 0x09 => s.setTimeEnd q
  | 0x0B => give (s.binsBytes (numAt q 0 1) (numAt q 1 1))
  | 0x0C => give ([], s.modRin (fun r => { r with resetCmd := true }))
  | 0x0D => give (s.rin.logBytes (numAt q 0 4), s)
  | _ => give ([], s.modRin (fun r => { r with next := some (cfgOf r.base cmd q) }.saveCfg (cfgOf r.base cmd q)))

/-- The end of the command in the mailbox (Table 9-5). -/
def State.mbEnd (s : State) : MbEnd :=
  let cmd := s.f F.TK_MBCMD_CMD
  let q := s.mbBytes (s.f F.TK_MBCMD_LEN)
  match mbLen cmd with
  | none => { status := 1, resp := [], st := s }
  | some n =>
    if n ≠ s.f F.TK_MBCMD_LEN then { status := 2, resp := [], st := s }
    else if !mbRange cmd q then { status := 3, resp := [], st := s }
    else s.mbRun cmd q

/-- TK_MB_DONE (R265): the response is written, then BUSY clears and DONE is set. -/
def execTkMbDone (s : State) : Host.Outcome State Fault Refusal :=
  let e := s.mbEnd
  let t := (((((e.st.mbPut e.resp).setF F.TK_MBSTAT_RLEN e.resp.length).setF F.TK_MBSTAT_STATUS e.status).setF
      F.TK_MBSTAT_BUSY 0).setF F.TK_MBSTAT_DONE 1)
  onlyIf (s.rinomOff = false ∧ s.b F.TK_MBSTAT_BUSY = true) s (t.raise Ev.TK_MB_DONE (t.rinPay []))

end Sys2Proof.Machine
end

