-- ==== Sys2Proof/Machine/Timeline.lean ====
section
/-!
DEFINITION. Sys2Proof/Machine/Timeline.lean: what the timeline unit does at a frame boundary (R225, R231, R238, R428), the
copies of AT (R231), SYSREF (R237, R238), PPS_OUT (R239), the departure scheduler's enable (R236) and the read of TL_AT_LO
(R232).
-/
namespace Sys2Proof.Machine
open Sys2Proof

/-! ## The guard setting (R427, R428, R564) -/

/-- Pair band of the pair of layer `n` (R427). -/
def State.pairBand (s : State) (n : Nat) : Nat := max (s.band (2 * n + 2)) (s.band (2 * n + 3))

/-- The guard setting a pair band calls for (Table 17-3; a -1E at B4 has shut down, so that its setting never matters). -/
def State.guardCalled (s : State) (n : Nat) : Bool := decide ((if s.fuse.grade1E then 3 else 4) ≤ s.pairBand n)

/-- The setting of one pair: in replay that of the recording, where the local band does not prevail (R564). -/
def State.guardWanted (s : State) (n : Nat) : Bool :=
  if s.f F.RPL_STAT_MODE = 3 ∧ s.inScope n = true then nbits s.rpl.guardRec n 1 == 1 || s.guardCalled n else s.guardCalled n

/-- The local band prevails over the recording for a pair (R564). -/
def State.guardDiffers (s : State) (n : Nat) : Bool :=
  s.f F.RPL_STAT_MODE == 3 && s.inScope n && s.guardCalled n && nbits s.rpl.guardRec n 1 == 0

/-- The setting of one pair is taken (R428). -/
def State.takeGuard (s : State) (n : Nat) : State :=
  let g := s.guardWanted n
  let bit : Fld := ⟨Rg.THERM_STAT, n, 1⟩
  let t := if s.guardDiffers n ∧ s.b F.RPL_STAT_GUARDDIFF = false then
      (s.setF F.RPL_STAT_GUARDDIFF 1).raise Ev.RPL_GUARDDIFF [3, n] else s
  if s.b bit = g then t
  else (t.setF bit (if g then 1 else 0)).raise Ev.THERM_GUARD_CHANGE (s.timed [n, if g then 1 else 0])

/-- Every pair's setting is taken; a running capture records a change of a scope pair (R428, R557). -/
def State.takeGuards (s : State) : State :=
  let t := (List.range 4).foldl State.takeGuard s
  let old := s.f F.THERM_STAT_GUARD
  let new := t.f F.THERM_STAT_GUARD
  if (List.range 4).any (fun n => s.inScope n && nbits old n 1 != nbits new n 1) then t.ringNote 4 0 (leBytes 4 new) else t

/-! ## SYSREF (R237, R238) -/

/-- Pulses a generator sends under NSHOT: COUNT 0 acts as 256. -/
def SysCfg.shots (c : SysCfg) : Nat := if c.count = 0 then 256 else c.count

/-- High time of a pulse: WIDTH 0 acts as 1, PERIOD or more as PERIOD - 1. -/
def SysCfg.high (c : SysCfg) : Nat := if c.period ≤ c.width then c.period - 1 else max 1 c.width

/-- Committed settings take effect at the first frame boundary at least 8 fc after their write, the latest of several (R238). -/
def Sysref.frame (g : Sysref) (fc : Nat) : Sysref :=
  match (g.pend.filter (fun p => decide (p.2 + 8 ≤ fc))).getLast? with
  | some (c, _) => { g with cfg := c, pend := g.pend.filter (fun p => decide (fc < p.2 + 8)), left := c.shots }
  | none => g

/-- A commit may not take effect (R238). -/
def badSysref (period offset : Nat) : Bool := decide (period < 2 ∨ frameFc % period ≠ 0 ∨ period ≤ offset)

/-- A write of TL_SYSCTLi commits its generator's settings (R238). -/
def State.sysrefWrite (s : State) (who : Who) (i : Fin 4) (v : Word) : State :=
  s.onBus who (Rg.TL_SYSCTL i.val) v (fun t =>
    let period := t.f (F.TL_SYSPER_PERIOD i.val)
    let offset := t.f (F.TL_SYSOFS_OFFSET i.val)
    if badSysref period offset then
      (t.setF (F.TL_SYSCTL_CFGERR i.val) 1).raise Ev.SYSREF_CFGERR (t.timed [i.val])
    else
      let c : SysCfg := { en := v.getLsbD 31, nshot := v.getLsbD 30, count := nbits v.toNat 16 8, width := nbits v.toNat 0 16,
                          period := period, offset := offset }
      { t with tl := { t.tl with sysref := vmod t.tl.sysref i (fun g => { g with pend := g.pend ++ [(c, t.tl.fc)] }) } })

/-- TL_SYSCTL (R238). -/
def execTlSysctl (who : Who) (i : Fin 4) (v : Word) (s : State) : Host.Outcome State Fault Refusal := ok (s.sysrefWrite who i v)

/-- Generator `i` sends pulses: an epoch runs, the stack has power and a committed image, and of a train of COUNT some are left
(R237, R240, R379). -/
def State.sysrefRuns (s : State) (i : Fin 4) : Bool :=
  let g := s.tl.sysref.get i
  s.tl.running && s.tl.released && s.pwr.dark == 0 && !s.fab.torn && g.cfg.en && (!g.cfg.nshot || decide (0 < g.left))

/-- The output of generator `i` is high; a stack without power or image has it low (R237, R240, R379). -/
def State.sysrefHigh (s : State) (i : Fin 4) : Bool :=
  decide (s.tl.fc < (s.tl.sysref.get i).lowAt) && s.pwr.dark == 0 && !s.fab.torn

/-- TL_SYSCTLi.ACTIVE: pulses are being sent (R237, Table 8-7). -/
def State.sysActive (s : State) (i : Fin 4) : Bool := s.sysrefRuns i || s.sysrefHigh i

/-- The fc of a SYSREF edge of generator `i` (R237). -/
def State.sysrefNow (s : State) (i : Fin 4) : Bool :=
  let g := s.tl.sysref.get i
  s.sysrefRuns i && decide (g.pulseAt ≠ s.tl.fc + 1) && s.tl.at34 % g.cfg.period == g.cfg.offset

/-- SYSREF_PULSE (R237): the output rises and stays high for WIDTH fc. -/
def execSysrefPulse (i : Fin 4) (s : State) : Host.Outcome State Fault Refusal :=
  onlyIf (s.sysrefNow i = true) s
    (({ s with tl := { s.tl with sysref := vmod s.tl.sysref i (fun g =>
        { g with left := if g.cfg.nshot then g.left - 1 else g.left, lowAt := max g.lowAt (s.tl.fc + g.cfg.high),
                 pulseAt := s.tl.fc + 1 }) } } : State).emit (.sysref i.val))

/-! ## PPS_OUT (R239) -/

/-- Epoch count e + O of R220 in the present fc. -/
def State.ppsCount (s : State) : Int := s.tl.e0 + (s.tl.fc : Int) - (s.tl.relFc : Int) + (s.tl.offset : Int)

/-- The present fc is one of R239, and nothing of it has been acted on. -/
def State.ppsNow (s : State) : Bool :=
  s.tl.running && s.tl.released && s.b F.TL_PPSCFG_EN && decide (s.ppsCount % 983040000 = 0) && decide (s.tl.ppsAt ≠ s.tl.fc + 1)

/-- UTC second of Rinom's time nearest the present fc, which the ZDA sentence names (R263). -/
def State.edgeUtc (s : State) : Int := (s.rin.tai + tsec / 2) / tsec - s.rin.cfg.utc

/-- A pulse rises: PPS_OUT stays high for WIDTH fc, and with TOD output on a sentence labels the edge (R239, R263). -/
def State.ppsRise (s : State) : State :=
  let t := ({ s with tl := { s.tl with ppsLow := max s.tl.ppsLow (s.tl.fc + max 1 (s.f F.TL_PPSCFG_WIDTH)) } } : State).emit .pps
  if s.rin.cfg.tod then t.emit (.zda s.edgeUtc) else t

/-- PPS_PULSE (R239): PPS_OUT rises, unless QUAL withholds the pulse in FREERUN; in replay it stays low (R563). -/
def execPpsPulse (s : State) : Host.Outcome State Fault Refusal :=
  let t := { s with tl := { s.tl with ppsAt := s.tl.fc + 1 } }
  onlyIf (s.ppsNow = true) s
    (if s.b F.TL_PPSCFG_QUAL ∧ s.f F.TL_STATUS_TKSTATE = 3 then t.raise Ev.PPS_SUPPRESSED (s.timed [])
     else if 2 ≤ s.f F.RPL_STAT_MODE then t
     else t.ppsRise)

/-! ## Copies of AT (R231) -/

/-- A copy fails: the layer's sequencer stops, or departures do. -/
def State.copyFails (s : State) (copy : Fin 5) : State :=
  let t := (s.setF ⟨Rg.TL_COPY, 16 + copy.val, 1⟩ 1).raise Ev.AT_COPY_FAIL (s.timed [copy.val])
  if copy.val < 4 then t.seqStop (Fin.ofNat 4 copy.val) else t.setF F.TL_DEPCFG_EN 0

/-- By how much a counter of AT that holds `off` more than the timeline unit's count is off once some of its bits have flipped. -/
def State.flipCopy (s : State) (off : Int) (flip : Nat) : Int :=
  if flip = 0 then off
  else
    let n := (((s.tl.hfn % 2 ^ 16 * L + s.tl.at34 : Nat) : Int) + off) % ((65536 * L : Nat) : Int)
    let x := Nat.xor (n.toNat / L * 2 ^ 34 + n.toNat % L) flip
    ((x / 2 ^ 34 * L + x % 2 ^ 34 : Nat) : Int) - ((s.tl.hfn % 2 ^ 16 * L + s.tl.at34 : Nat) : Int)

/-- The three counters of a copy after an upset. -/
def State.upsetCopy (s : State) (copy : Fin 5) (flips : BitVec 50 × BitVec 50 × BitVec 50) : Vector Int 3 :=
  let v := s.tl.copies.get copy
  #v[s.flipCopy (v.get 0) flips.1.toNat, s.flipCopy (v.get 1) flips.2.1.toNat, s.flipCopy (v.get 2) flips.2.2.toNat]

/-- A copy is counted in: its domain's clock runs, and it has not failed already. -/
def State.copyRuns (s : State) (copy : Fin 5) : Bool :=
  s.tl.running && (copy == 4 || !s.stackStopped) && !s.b ⟨Rg.TL_COPY, 16 + copy.val, 1⟩

/-- AT_COPY_CORR (R231): bits of a copy's three counters flip, and the comparison of the fc finds two that agree, or none;
the counter that stands alone is rewritten in the next fc. Three that agree are no disagreement. -/
def execAtCopyCorr (copy : Fin 5) (flips : BitVec 50 × BitVec 50 × BitVec 50) (s : State) : Host.Outcome State Fault Refusal :=
  let v := s.upsetCopy copy flips
  let t : State := { s with tl := { s.tl with copies := s.tl.copies.set copy.val v copy.isLt } }
  onlyIf (s.copyRuns copy = true) s
    (if v.get 0 = v.get 1 ∧ v.get 1 = v.get 2 then t
     else if (agreed v).isSome then (t.incF F.TL_COPY_CORR).raise Ev.AT_COPY_CORR (s.timed [copy.val])
     else t.copyFails copy)

/-- A write of TL_DEPCFG (R236). -/
def State.depWrite (s : State) (who : Who) (v : Word) : State :=
  s.onBus who Rg.TL_DEPCFG v (fun t =>
    if s.b F.TL_DEPCFG_EN then t else { t with tl := { t.tl with depAt := t.tl.fc + 1 } })

/-- TL_DEPCFG (R236): where EN becomes 1, R233 applies to each head from the next fc. -/
def execTlDepcfg (who : Who) (v : Word) (s : State) : Host.Outcome State Fault Refusal := ok (s.depWrite who v)

/-! ## The frame boundary -/

/-- The present fc is a frame boundary that has not been acted on (R12, R223). -/
def State.frameNow (s : State) : Bool := s.tl.running && s.sched % frameFc == 0 && decide (s.tl.frameAt ≠ s.tl.fc + 1)

/-- The failed copies of AT are reloaded from the timeline unit (R231). -/
def State.reloadCopies (s : State) : State :=
  let t : State := { s with tl := { s.tl with copies := Vector.ofFn (fun c : Fin 5 =>
    if s.b ⟨Rg.TL_COPY, 16 + c.val, 1⟩ then Vector.replicate 3 0 else s.tl.copies.get c) } }
  t.setF F.TL_COPY_FAIL 0

/-- What a frame boundary brings: steering (R225), committed SYSREF settings (R238), and of AT itself the guard settings (R428)
and the reload of failed copies (R231). -/
def State.frame (s : State) (ref : Int) : State :=
  let a : State := s.steer ref
  let b : State := { a with tl := { a.tl with frameAt := a.tl.fc + 1, sysref := a.tl.sysref.map (fun g => g.frame a.tl.fc) } }
  if b.tl.released then b.takeGuards.reloadCopies else b

/-- FRAME_BOUNDARY (R225): `ref` is the offset against XI1 at which an fc equals 2 Tc of the reference in use, as Rinom
measures it. -/
def execFrameBoundary (ref : Int) (s : State) : Host.Outcome State Fault Refusal := onlyIf (s.frameNow = true) s (s.frame ref)

/-! ## TL_AT_LO (R15, R232) -/

/-- The high word of the sample of a full time (Table 8-6). -/
def State.atHigh (s : State) : Word := BitVec.ofNat 32 (s.tl.hfn * 65536 + s.tl.at34 / 2 ^ 32)

/-- The full time is sampled: its low word is read, its high word stands in TL_AT_HI. -/
def State.sampleAt (s : State) : State := { s.setReg Rg.TL_AT_HI s.atHigh with reply := .data (BitVec.ofNat 32 s.tl.at34) }

/-- A read of TL_AT_LO samples the full time, and latches its high word for TL_AT_HI. -/
def execTlAtLo (who : Who) (s : State) : Host.Outcome State Fault Refusal :=
  ok (match s.stopAccess who Rg.TL_AT_LO with
    | some r => s.refuse who Rg.TL_AT_LO r
    | none => s.sampleAt)

end Sys2Proof.Machine
end

