-- ==== Sys2Proof/Machine/Fronthaul.lean ====
section
/-!
DEFINITION. Sys2Proof/Machine/Fronthaul.lean: Ethernet ports and port groups (R439 to R448), ingress (R306 to R311, R441 to
R445), departures (R233 to R236, R307, R446) and JESD204C links (R449 to R452).
-/
namespace Sys2Proof.Machine
open Sys2Proof

/-! ## Lanes, ports and links (R439, R440, R449, R450) -/

/-- Width of a port mode in lanes; none for a mode that is off or reserved (Table 18-1). -/
def modeWidth (mode : Nat) : Option Nat :=
  match mode with
  | 1 | 2 | 3 | 5 | 8 => some 1
  | 4 | 6 => some 2
  | 7 => some 4
  | _ => none

/-- Lanes from `p` on, as a mask. -/
def laneMask (p w : Nat) : Nat := (2 ^ w - 1) * 2 ^ p

/-- Mode 0x8 lends its lane to JESD204C links. -/
def jesdMode : Nat := 8

/-- Lanes an enabled port uses for Ethernet. -/
def State.portLanes (s : State) (p : Nat) : Nat :=
  if s.b (F.FH_PORT_CFG_EN p) ∧ s.f (F.FH_PORT_CFG_MODE p) ≠ jesdMode then
    laneMask p ((modeWidth (s.f (F.FH_PORT_CFG_MODE p))).getD 0) else 0

/-- Lanes of a link. -/
def State.linkWidth (s : State) (k : Nat) : Nat := 2 ^ s.f (F.JESD_LINK_CFG_LOG2L k)

/-- Lanes an enabled link uses in one direction. -/
def State.linkLanes (s : State) (k : Nat) (tx : Bool) : Nat :=
  if s.b (F.JESD_LINK_CFG_EN k) ∧ s.b (F.JESD_LINK_CFG_TX k) = tx then laneMask k (s.linkWidth k) else 0

/-- Lanes that Ethernet ports other than `p` use. -/
def State.etherLanes (s : State) (p : Nat) : Nat :=
  ((List.range 32).filter (fun x => x != p)).foldl (fun m x => Nat.lor m (s.portLanes x)) 0

/-- Lanes that links other than `k` use in a direction. -/
def State.jesdLanes (s : State) (k : Nat) (tx : Bool) : Nat :=
  ((List.range 16).filter (fun x => x != k)).foldl (fun m x => Nat.lor m (s.linkLanes x tx)) 0

/-- An enable of port `p` in a mode breaks R439 or takes lanes in use (R440). -/
def State.badPort (s : State) (p mode : Nat) : Bool :=
  match modeWidth mode with
  | none => true
  | some w =>
    p % w != 0 || Nat.land (laneMask p w) (s.etherLanes p) != 0 ||
      (if mode = jesdMode then decide (16 ≤ p)
       else Nat.land (laneMask p w) (Nat.lor (s.jesdLanes 16 true) (s.jesdLanes 16 false)) != 0)

/-- The group an enabled port is a member of (R447). -/
def State.lagOf (s : State) (p : Nat) : Option Nat :=
  (List.range 8).find? (fun g => s.b (F.FH_LAG_EN g) && nbits (s.f (F.FH_LAG_MEMBERS_MEMBERS g)) p 1 == 1)

/-- A port stops being an active member. -/
def State.inactive (s : State) (p : Nat) : State :=
  if nbits s.fh.act p 1 = 1 then { s with fh := { s.fh with act := s.fh.act - 2 ^ p } } else s

/-- A link goes down; a frame already leaving on a member is lost (R448). -/
def State.linkDown (s : State) (p : Nat) (leaving : Bool) : State :=
  let t := ((s.setF (F.FH_PORT_STAT_UP p) 0).raise Ev.FH_LINK_DOWN [p]).inactive p
  match s.lagOf p with
  | some g => (if leaving then t.incF (F.FH_LAG_LOST g) else t).raise Ev.FH_LAG_MEMBER [p, g, 0]
  | none => t

/-- A JESD204C link goes down. -/
def State.jesdDown (s : State) (k : Nat) : State := (s.setF (F.JESD_LINK_STAT_UP k) 0).raise Ev.JESD_LINK_DOWN [k]

/-- A write of FH_PORTp_CFG (R440): a port's configuration is written only while EN is 0; while it is 1, only EN can change. A port
that is disabled has no link. -/
def State.portWrite (s : State) (who : Who) (p : Fin 32) (v : Word) : State :=
  let off := Rg.FH_PORT_CFG p.val
  let v' := if s.b (F.FH_PORT_CFG_EN p.val) then (s.reg off &&& 0x7FFFFFFF#32) ||| (v &&& 0x80000000#32) else v
  s.onBus who off v' (fun t =>
    if v.getLsbD 31 ∧ s.b (F.FH_PORT_CFG_EN p.val) = false ∧ t.badPort p.val (t.f (F.FH_PORT_CFG_MODE p.val)) = true then
      ((t.setF (F.FH_PORT_CFG_EN p.val) 0).setF (F.FH_PORT_STAT_CFGERR p.val) 1).raise Ev.FH_PORT_CFGERR [p.val]
    else if v.getLsbD 31 = false ∧ t.b (F.FH_PORT_STAT_UP p.val) = true then t.linkDown p.val false
    else t)

/-- PORT_ENABLE (R440). -/
def execPortEnable (who : Who) (p : Fin 32) (v : Word) (s : State) : Host.Outcome State Fault Refusal := ok (s.portWrite who p v)

/-- n of R450. -/
def State.jesdRate (s : State) (k : Nat) : Nat := if s.f (F.JESD_LINK_CFG_RATE k) = 0 then 32 else s.f (F.JESD_LINK_CFG_RATE k)

/-- Multiblocks of an extended multiblock. -/
def State.jesdE (s : State) (k : Nat) : Nat := s.f (F.JESD_LINK_CFG2_EM1 k) + 1

/-- LEMC period in fc: E multiblocks of 32 blocks of 66 bits at n x 1,013.76 Mb/s, against fc of 1/983.04 MHz (R450). -/
def State.lemc (s : State) (k : Nat) : Nat := 2048 * s.jesdE k / s.jesdRate k

/-- An enable of a link breaks R449 or R450, or takes lanes in use. -/
def State.badLink (s : State) (k : Nat) : Bool :=
  let w := s.linkWidth k
  decide (k % w ≠ 0 ∨ 16 < k + w ∨ s.jesdRate k < 7 ∨ 2048 * s.jesdE k % s.jesdRate k ≠ 0
    ∨ Nat.land (laneMask k w) (Nat.lor (s.jesdLanes k (s.b (F.JESD_LINK_CFG_TX k))) (s.etherLanes 32)) ≠ 0)

/-- A write of JESD_LINKk_CFG (R449, R450); a link that is disabled goes down. -/
def State.linkWrite (s : State) (who : Who) (k : Fin 16) (v : Word) : State :=
  s.onBus who (Rg.JESD_LINK_CFG k.val) v (fun t =>
    if v.getLsbD 31 ∧ t.badLink k.val = true then
      (t.setF (F.JESD_LINK_CFG_EN k.val) 0).setF (F.JESD_LINK_STAT_CFGERR k.val) 1
    else if v.getLsbD 31 = false ∧ t.b (F.JESD_LINK_STAT_UP k.val) = true then t.jesdDown k.val
    else t)

/-- JESD_ENABLE (R449, R450). -/
def execJesdEnable (who : Who) (k : Fin 16) (v : Word) (s : State) : Host.Outcome State Fault Refusal := ok (s.linkWrite who k v)

/-! ## Links come and go -/

/-- Ports of a group, ascending. -/
def State.lagPorts (s : State) (g : Nat) : List Nat :=
  (List.range 32).filter (fun p => nbits (s.f (F.FH_LAG_MEMBERS_MEMBERS g)) p 1 == 1)

/-- The port whose number a frame of port `p` bears: the lowest member of its group (R447). -/
def State.portNumber (s : State) (p : Nat) : Nat :=
  match s.lagOf p with
  | some g => ((s.lagPorts g).head?).getD p
  | none => p

/-- `w` lanes from `p` on run: VDD_SDS is up, SDS runs on its loop, and their gates are open (R412, R417, R480). -/
def State.lanesRun (s : State) (p w : Nat) : Bool := s.sdsOn && !s.quiet 25 && (List.range w).all (fun i => s.gateOpen (p + i))

/-- A port's clocks run: its lanes', FH_MAC on its loop, and the gates of the MACs and of the timing path open (R412, R417). -/
def State.portRuns (s : State) (p : Nat) : Bool :=
  s.lanesRun p ((modeWidth (s.f (F.FH_PORT_CFG_MODE p))).getD 1) && !s.quiet 17 && s.gateOpen 51 && s.gateOpen 52

/-- An Ethernet port is enabled, its link is up, and its clocks run. -/
def State.portUp (s : State) (p : Nat) : Bool :=
  s.b (F.FH_PORT_CFG_EN p) && s.b (F.FH_PORT_STAT_UP p) && s.f (F.FH_PORT_CFG_MODE p) != jesdMode && s.portRuns p

/-- Members of a group that are active, ascending (R447, R448). -/
def State.lagActive (s : State) (g : Nat) : List Nat := (s.lagPorts g).filter (fun p => s.portUp p && nbits s.fh.act p 1 == 1)

/-- A run starts: its block records the reference temperature. -/
def State.startRef (s : State) (key : Nat) (temp : Int) : State := { s with thm := { s.thm with ref := mins s.thm.ref key (temp, false) } }

/-- SerDes preset set of a base-die band (Table 17-3): 0 Cold, 1 Nominal, 2 Hot. -/
def presetAt (band : Nat) : Nat := min band 2

/-- The preset set a lane runs with; Nominal until one is loaded (log 132). -/
def State.lanePreset (s : State) (p : Nat) : Nat := mget 1 s.thm.preset p

/-- A lane loads the preset set of B's band: at its training and at the start of a run, at no other time (R429, R471). -/
def State.loadPreset (s : State) (p : Nat) : State :=
  { s with thm := { s.thm with preset := mput 1 s.thm.preset p (presetAt (s.band 0)) } }

/-- A lane's run ends, counted (R477). -/
def State.countLane (s : State) (p : Nat) : State :=
  ((s.incF (F.SDS_LANE_CAL_COUNT p)).setF (F.SDS_LANE_CALT_OPTIME p) (s.f F.PWR_OPTIME_OPTIME)).setF (F.SDS_LANE_CAL_BUSY p) 0

/-- A link's training loads the lane's preset set, counts as a run of it and abandons one in progress; the lane's figure is still to be measured (R470,
R471). -/
def State.trainLane (s : State) (p : Nat) : State :=
  ((((s.countLane p).setF (F.SDS_LANE_EYE_STALE p) 0).setF (F.SDS_LANE_EYE_VALID p) 0).startRef p
    (sgn 16 (s.f (F.THERM_S_TEMP 0)))).loadPreset p

/-- The lanes of a port or link are trained. -/
def State.trainLanes (s : State) (p w : Nat) : State := (List.range w).foldl (fun t i => t.trainLane (p + i)) s

/-- FH_LINK_UP (R440). -/
def execFhLinkUp (p : Fin 32) (s : State) : Host.Outcome State Fault Refusal :=
  onlyIf (s.b (F.FH_PORT_CFG_EN p.val) = true ∧ s.f (F.FH_PORT_CFG_MODE p.val) ≠ jesdMode ∧ s.b (F.FH_PORT_STAT_UP p.val) = false
      ∧ s.portRuns p.val = true) s
    (let t := ((s.trainLanes p.val ((modeWidth (s.f (F.FH_PORT_CFG_MODE p.val))).getD 1)).setF (F.FH_PORT_STAT_UP p.val) 1).raise
       Ev.FH_LINK_UP [p.val]
     { t with fh := { t.fh with upAt := mins t.fh.upAt p.val t.tl.fc } })

/-- FH_LINK_DOWN (R448). -/
def execFhLinkDown (p : Fin 32) (leaving : Bool) (s : State) : Host.Outcome State Fault Refusal :=
  onlyIf (s.b (F.FH_PORT_STAT_UP p.val) = true) s (s.linkDown p.val leaving)

/-- LAG_MEMBER_ACTIVE (R448): at the first frame boundary after its link has been up for 1 s. -/
def execLagMemberActive (p : Fin 32) (s : State) : Host.Outcome State Fault Refusal :=
  match s.lagOf p.val with
  | some g =>
    onlyIf (s.portUp p.val = true ∧ nbits s.fh.act p.val 1 = 0 ∧ s.sched % frameFc = 0
        ∧ mget 0 s.fh.upAt p.val + 983040000 ≤ s.tl.fc) s
      (({ s with fh := { s.fh with act := s.fh.act + 2 ^ p.val } } : State).raise Ev.FH_LAG_MEMBER [p.val, g, 1])
  | none => ok s

/-- JESD_LINK_UP (R449). -/
def execJesdLinkUp (k : Fin 16) (s : State) : Host.Outcome State Fault Refusal :=
  onlyIf (s.b (F.JESD_LINK_CFG_EN k.val) = true ∧ s.b (F.JESD_LINK_STAT_UP k.val) = false
      ∧ s.lanesRun k.val (s.linkWidth k.val) = true) s
    (((s.trainLanes k.val (s.linkWidth k.val)).setF (F.JESD_LINK_STAT_UP k.val) 1).raise Ev.JESD_LINK_UP [k.val])

/-- JESD_LINK_DOWN (R449). -/
def execJesdLinkDown (k : Fin 16) (s : State) : Host.Outcome State Fault Refusal :=
  onlyIf (s.b (F.JESD_LINK_STAT_UP k.val) = true) s (s.jesdDown k.val)

/-! ## A received frame (R306, R308, R441 to R445) -/

/-- The number that big-endian bytes spell. -/
def beNat (l : List Byte) : Nat := l.foldl (fun a b => 256 * a + b.toNat) 0

/-- Two bytes of a frame, first byte high. -/
def be16 (l : List Byte) (i : Nat) : Nat := beNat ((l.drop i).take 2)

/-- What the classifier sees of a frame: VLAN ID, EtherType, and the bytes after it. -/
structure Parsed where
  vlan : Nat
  etype : Nat
  rest : List Byte
  deriving DecidableEq, Repr

/-- A frame with no tag or one 802.1Q tag; behind a second tag the EtherType is 0x8100 (R441). -/
def parseFrame (l : List Byte) : Parsed :=
  if be16 l 12 = 0x8100 then { vlan := be16 l 14 % 4096, etype := be16 l 16, rest := l.drop 18 }
  else { vlan := 0xFFF, etype := be16 l 12, rest := l.drop 14 }

/-- A frame is eCPRI over Ethernet, of revision 1 or 2 (R442). -/
def Parsed.ecpri (x : Parsed) : Bool :=
  x.etype == 0xAEFE && (let r := beNat (x.rest.take 1) / 16; r == 1 || r == 2)

/-- eCPRI message type; 0 for a frame that is not eCPRI. -/
def Parsed.msg (x : Parsed) : Nat := if x.ecpri then beNat ((x.rest.drop 1).take 1) else 0

/-- eCPRI PC_ID or RTC_ID; 0 for a frame that is not eCPRI. -/
def Parsed.pcid (x : Parsed) : Nat := if x.ecpri then be16 x.rest 4 else 0

/-- A flow entry matches a frame received on port `p` (R308). -/
def Parsed.matches (x : Parsed) (p : Nat) (e : Word × Word × Word) : Bool :=
  let w0 := e.1.toNat
  let w1 := e.2.1.toNat
  e.1.getLsbD 31 && x.ecpri && nbits w0 25 5 == p && nbits w0 13 12 == x.vlan && nbits w0 5 8 == x.msg
    && Nat.land (Nat.xor (nbits w1 0 16) x.pcid) (nbits w1 16 16) == 0

/-- A MAC discard: 0 an FCS failure, 1 any other (R441). -/
def macDiscard (maxlen : Nat) (x : RxFrame) : Option Nat :=
  let n := x.bytes.length + 4
  let p := parseFrame x.bytes
  if x.fcsOk = false then some 0
  else if x.other ∨ n < 64 ∨ maxlen < n ∨ p.etype = 0x8808 ∨ (p.etype = 0x8809 ∧ beNat (p.rest.take 1) = 1) then some 1
  else none

/-- The frame enters the timing path: PTP, or ESMC (R444). -/
def Parsed.timing (x : Parsed) : Bool := x.etype == 0x88F7 || (x.etype == 0x8809 && beNat (x.rest.take 1) == 0x0A)

/-- Program time `age` fc before the present one, in the running epoch. -/
def State.timeAgo (s : State) (age : Nat) : Nat :=
  if age ≤ s.tl.at34 then s.tl.hfn % 128 * 2 ^ 34 + (s.tl.at34 - age) else (s.tl.hfn + 127) % 128 * 2 ^ 34 + (s.tl.at34 + L - age)

/-- The arrival stamp (Table 8-2, R445): where the frame came before the release of the running epoch AT had no value, and
the stamp is free. -/
def State.stampOf (s : State) (x : RxFrame) : Nat × State :=
  if s.tl.released ∧ x.age ≤ s.tl.fc - s.tl.relFc ∧ x.age < L then (16 * s.timeAgo x.age + x.frac.val, s)
  else let r := s.draw 45; (r.1.toNat, r.2)

/-- The ingress record header (Table 11-6). -/
def ingressHeader (stamp len vlan port unm flow msg pcid : Nat) : List Byte :=
  leBytes 4 (stamp % 2 ^ 32) ++ leBytes 4 (len * 2 ^ 16 + stamp / 2 ^ 32)
    ++ leBytes 4 (vlan * 2 ^ 20 + port * 2 ^ 15 + unm * 2 ^ 13 + flow) ++ leBytes 4 (msg * 2 ^ 16 + pcid)

/-- Entries of a queue that carry bytes, padded with zeros; the first carries SOF (R306). -/
def toEntries (esz : Nat) (bytes : List Byte) (poison : Bool) : List QEntry :=
  (List.range ((bytes.length + esz - 1) / esz)).map (fun i =>
    let b := (bytes.drop (i * esz)).take esz
    let p := b ++ List.replicate (esz - b.length) 0
    { words := (List.range (esz / 8)).map (fun w => BitVec.ofNat 64 (leNat ((p.drop (8 * w)).take 8))), sof := i == 0, poison := poison })

/-- Why a record of `n` bytes of a producer cannot enter a queue (Table 11-8); M fenced drops with FULL (R364). -/
def State.ingressBar (s : State) (q party n : Nat) : Option Nat :=
  let x := s.queue q
  let k := (n + x.esz - 1) / x.esz
  if s.closed 0 then some 1
  else if s.mayPush q party = false then some 2
  else if x.size < k then some 4
  else if x.free < k then some 1
  else none

/-- What a queue itself reports of a record of port or link `p` it cannot take (R304, R309, R320). -/
def State.queueBar (s : State) (p q reason : Nat) : State :=
  if reason = 2 then s.qcPerm q
  else if reason = 1 ∧ s.closed 0 = false then
    (s.incF (F.QC_Q_DROPS_OVF (q / 1024) (q % 1024))).raise (qcEv q 0) [q, p]
  else s

/-- A frame is dropped (R310). -/
def State.dropFrame (s : State) (p q reason : Nat) : State :=
  (s.incF (F.FH_UMCNT_DROP p)).raise Ev.FH_RX_DROP [p, q, reason]

/-- A record goes to a queue, or is dropped. Answers whether it was delivered. -/
def State.deliver (s : State) (p q : Nat) (bytes : List Byte) : Bool × State :=
  match s.ingressBar q (partyFh p) bytes.length with
  | some reason => (false, (s.queueBar p q reason).dropFrame p q reason)
  | none => (true, s.pushBatch q (toEntries (s.queue q).esz bytes false) false)

/-- The classifier, against the table as it stood when the last header byte arrived (R308 to R311). -/
def State.classify (s : State) (p : Nat) (x : RxFrame) : State :=
  let y := parseFrame x.bytes
  let r := s.stampOf x
  match (r.2.flowAsOf (r.2.tl.fc - x.hdrAge)).find? (fun e => y.matches p e.2) with
  | some (i, e) =>
    (r.2.deliver p (nbits e.2.2.toNat 0 15)
      (ingressHeader r.1 y.rest.length y.vlan p 0 i y.msg y.pcid ++ y.rest)).2
  | none =>
    if r.2.closed 0 then r.2.dropFrame p 0 1
    else if r.2.b (F.FH_UMQ_EN p) = false then r.2.dropFrame p 0 3
    else
      let d := r.2.deliver p (r.2.f (F.FH_UMQ_QUEUE p)) (ingressHeader r.1 y.rest.length y.vlan p 1 0 y.msg y.pcid ++ y.rest)
      if d.1 then (d.2.incF (F.FH_UMCNT_UNMATCHED p)).raise Ev.FH_UNMATCHED [p, r.2.f (F.FH_UMQ_QUEUE p)] else d.2

/-- FRAME (R306, R441 to R447, R563). -/
def execFrame (port : Fin 32) (x : RxFrame) (s : State) : Host.Outcome State Fault Refusal :=
  let p := port.val
  onlyIf (s.portUp p = true) s
    (if 2 ≤ s.f F.RPL_STAT_MODE then s.incF F.RPL_GAPS_RXDISC
     else match macDiscard (s.f (F.FH_PORT_CFG_MAXLEN p)) x with
       | some 0 => (s.incF (F.FH_PORT_RXERR_FCS p)).raise Ev.FH_RX_ERR [p, 0]
       | some _ => (s.incF (F.FH_PORT_RXERR_OTHER p)).raise Ev.FH_RX_ERR [p, 1]
       | none =>
         if (parseFrame x.bytes).timing then
           if s.rin.cfg.ptpPort = p then s else s.incF (F.FH_PORT_STAT_TIMDISC p)
         else s.classify (s.portNumber p) x)

/-! ## Departures (R233 to R236, R307, R446) -/

/-- The record at the head of a queue, read and removed. -/
structure HeadRec where
  header : List Byte         -- its first 16 bytes
  body : List Byte           -- what its entries hold after them
  hdrBad : Bool              -- the header entry is poisoned
  bad : Bool                 -- an entry is poisoned
  deriving DecidableEq, Repr

/-- Bytes of an entry. -/
def Popped.bytes (p : Popped) : List Byte := p.words.flatMap (fun w => leBytes 8 w.toNat)

/-- Take the head record of a queue: its entries up to the next published one with SOF (R301, R307). -/
def State.takeRecord (s : State) (errs : List (Nat × Flaw)) (q : Nat) : HeadRec × State :=
  let n := s.recordLen errs q
  let r : List Popped × State := (List.range n).foldl (fun a _ => let x := a.2.popEntry errs q; (a.1 ++ [x.1], x.2)) ([], s)
  let bytes := r.1.flatMap Popped.bytes
  ({ header := bytes.take 16, body := bytes.drop 16, hdrBad := (r.1.head?.map (fun p => p.poison)).getD true,
     bad := r.1.any (fun p => p.poison) }, r.2)

/-- Departure time of a record (Table 11-7). -/
def HeadRec.time (r : HeadRec) : Nat := leNat (r.header.take 4) + leNat ((r.header.drop 4).take 4) % 512 * 2 ^ 32

/-- LEN of a record. -/
def HeadRec.len (r : HeadRec) : Nat := leNat ((r.header.drop 6).take 2)

/-- Template of a record. -/
def HeadRec.tmpl (r : HeadRec) : Nat := leNat ((r.header.drop 8).take 1)

/-- Payload a record sends, and whether its FCS comes right: a poisoned header sends all its entries hold; a LEN beyond that is
reduced (R235, R307). -/
def HeadRec.payload (r : HeadRec) : List Byte × Bool :=
  if r.hdrBad then (r.body, false) else (r.body.take r.len, !r.bad && decide (r.len ≤ r.body.length))

/-- The queues that feed a port: allocated, with a head, of consumer FH and its number. -/
def State.feeds (s : State) (port : Nat) : List Nat :=
  (s.qs.filter (fun e => e.2.en && e.2.cons == partyFh port && s.poppable e.1 != 0)).map (fun e => e.1)

/-- Where the head of a queue stands against the present fc: fc until T, 0 for a record due at once; none for a bad time. -/
def State.headDue (s : State) (q : Nat) : Option Int :=
  let r := (s.takeRecord [] q).1
  if r.hdrBad then some 0
  else if L ≤ r.time % 2 ^ 34 ∨ (L : Int) < distance r.time s.fhTime then none
  else some (distance r.time s.fhTime)

/-- No other head that feeds the port comes before this one: the earliest T leaves first, a tie goes to the lower queue
number (R234). -/
def State.first (s : State) (port q : Nat) (d : Int) : Bool :=
  (s.feeds port).all (fun x => x == q || (match s.headDue x with
    | some e => decide (d < e) || (decide (d = e) && decide (q < x))
    | none => true))

/-- Departures may leave: the epoch runs, EN is set and has acted, the fabric stands, no trip holds it, M answers, and the
link of the port is up (R222, R236, R364, R379, R430, R448). -/
def State.departs (s : State) (port : Nat) : Bool :=
  s.tl.running && s.tl.released && s.b F.TL_DEPCFG_EN && decide (s.tl.depAt ≤ s.tl.fc) && !s.fab.torn
    && !s.b F.THERM_STAT_TRIPPED && !s.closed 0 && s.portNumber port == port
    && (match s.lagOf port with | some g => !(s.lagActive g).isEmpty | none => s.portUp port)

/-- The port a payload leaves on: the member its PC_ID picks (R447). -/
def State.outPort (s : State) (port : Nat) (payload : List Byte) : Nat :=
  match s.lagOf port with
  | some g =>
    let a := s.lagActive g
    (a[be16 payload 4 % a.length]?).getD port
  | none => port

/-- Big-endian bytes of a number. -/
def beBytes (n x : Nat) : List Byte := (leBytes n x).reverse

/-- The egress frame of a payload (R446), destination address to the padding. -/
def State.egress (s : State) (t : Nat) (payload : List Byte) : List Byte :=
  let da := s.f (F.FH_TMPL_W0_DA t) + s.f (F.FH_TMPL_W1_DAH t) * 2 ^ 32
  let sa := s.f (F.FH_TMPL_W1_SA t) + s.f (F.FH_TMPL_W2_SAH t) * 2 ^ 16
  let tag := if s.b (F.FH_TMPL_W3_TAG t) then beBytes 2 0x8100 ++ beBytes 2 (s.f (F.FH_TMPL_W3_TCI t)) else []
  let l := beBytes 6 da ++ beBytes 6 sa ++ tag ++ beBytes 2 0xAEFE ++ payload
  l ++ List.replicate (60 - l.length) 0

/-- A record leaves on its port: truncated to MAXLEN where it would exceed it, its FCS complemented where it is poisoned,
reduced or truncated, which FH_DEP_POISON reports (R235, R446). -/
def State.send (s : State) (port q : Nat) (r : HeadRec) : State :=
  let p := r.payload
  let out := s.outPort port p.1
  let l := s.egress r.tmpl p.1
  let n := s.f (F.FH_PORT_CFG_MAXLEN out) - 4
  let good := p.2 && decide (l.length ≤ n)
  let t := s.emit (.frame out (l.take n) good)
  if good then t else t.raise Ev.FH_DEP_POISON (s.timed [port, q])

/-- Report a departure that is late beyond LATETOL, or whose time is bad (R233): reason 0 BADTIME, 1 too late. -/
def State.depDrop (s : State) (port q reason : Nat) : State :=
  (s.incF F.TL_DEPCNT_DROP).raise Ev.FH_DEP_DROP (s.timed [port, q, reason])

/-- What R233 decides of the head of a queue in the present fc. -/
def State.depart (s : State) (port q : Nat) (errs : List (Nat × Flaw)) : State :=
  let x := s.takeRecord errs q
  let r := x.1
  let d := distance r.time s.fhTime
  let waited : Bool := decide ((s.queue q).headAt < s.tl.fc ∧ s.tl.depAt < s.tl.fc)
  if r.hdrBad then if s.first port q 0 then x.2.send port q r else s
  else if L ≤ r.time % 2 ^ 34 ∨ (L : Int) < d then x.2.depDrop port q 0
  else if 1 ≤ d ∨ s.first port q d = false then s
  else if d = 0 ∧ waited = true then x.2.send port q r
  else if (1 - d).toNat ≤ s.f F.TL_DEPCFG_LATETOL then
    ((x.2.send port q r).incF F.TL_DEPCNT_LATE).raise Ev.FH_DEP_LATE (s.timed [port, q, (1 - d).toNat])
  else if s.b F.TL_DEPCFG_LATEACT then x.2.depDrop port q 1
  else (x.2.send port q r).depDrop port q 1

/-- DEPARTURE (R233): a port is ready to send, and the head of one of its queues is taken under R233. -/
def execDeparture (port : Fin 32) (q : Fin 32768) (errs : List (Nat × Flaw)) (s : State) : Host.Outcome State Fault Refusal :=
  onlyIf (s.departs port.val = true ∧ q.val ∈ s.feeds port.val) s (s.depart port.val q.val errs)

/-! ## JESD204C (R450 to R452) -/

/-- AT is an LEMC boundary of a link: a whole number of periods after a pulse of its generator and LEMCOFS (R450). -/
def State.lemcAt (s : State) (k : Nat) (t : Nat) : Bool :=
  let g := (s.tl.sysref.toList[s.f (F.JESD_LINK_CFG_SYSSEL k)]?).getD Sysref.reset
  g.pulseAt != 0 && s.lemc k != 0 &&
    (t + 16 * L - g.cfg.offset - s.f (F.JESD_LINK_CFG2_LEMCOFS k)) % g.cfg.period % s.lemc k == 0

/-- Octets of an extended multiblock on all lanes. -/
def State.multiblock (s : State) (k : Nat) : Nat := 256 * s.jesdE k * s.linkWidth k

/-- A link runs in a direction (R412, R450). -/
def State.linkRuns (s : State) (k : Nat) (tx : Bool) : Bool :=
  s.tl.running && s.tl.released && s.b (F.JESD_LINK_CFG_EN k) && s.b (F.JESD_LINK_STAT_UP k) && s.b (F.JESD_LINK_CFG_TX k) == tx
    && s.lanesRun k (s.linkWidth k)

/-- RECEIVE_MULTIBLOCK (R451): RBD fc after an LEMC boundary, a record of its samples is pushed. -/
def execReceiveMultiblock (k : Fin 16) (samples : List Byte) (crc : Nat) (s : State) : Host.Outcome State Fault Refusal :=
  let n := k.val
  let rbd := s.f (F.JESD_LINK_CFG2_RBD n)
  let t := s.timeAgo rbd
  let b := samples.take (s.multiblock n)
  let bytes := b ++ List.replicate (s.multiblock n - b.length) 0
  let rec_ := leBytes 4 (t % 2 ^ 32) ++ leBytes 4 (bytes.length % 2 ^ 16 * 2 ^ 16 + t / 2 ^ 32) ++ leBytes 4 0 ++ leBytes 4 crc ++ bytes
  let q := s.f (F.JESD_LINK_CFG_QUEUE n)
  onlyIf (s.linkRuns n false = true ∧ s.lemcAt n (t % 2 ^ 34) = true) s
    (let u := if crc = 0 then s else s.raise Ev.JESD_CRC [n, crc]
     match u.ingressBar q (partyFh n) rec_.length with
     | some reason => (u.queueBar n q reason).incF (F.JESD_LINK_STAT_DROP n)
     | none => u.pushBatch q (toEntries (u.queue q).esz rec_ (crc != 0)) false)

/-- The head record whose samples a link sends from the boundary at `t`: records whose T is no boundary of the link, and late
ones, are discarded on the way (R452). -/
def State.nextSamples (s : State) (k t : Nat) (errs : List (Nat × Flaw)) : Nat → Option HeadRec × State
  | 0 => (none, s)
  | n + 1 =>
    match s.feeds k with
    | [] => (none, s)
    | q :: _ =>
      let x := s.takeRecord errs q
      let d := distance x.1.time t
      if x.1.hdrBad then (some x.1, x.2)
      else if L ≤ x.1.time % 2 ^ 34 ∨ s.lemcAt k (x.1.time % 2 ^ 34) = false ∨ d < 0 ∨ (L : Int) < d then
        (x.2.incF (F.JESD_LINK_STAT_DROP k)).nextSamples k t errs n
      else if d = 0 then (some x.1, x.2)
      else (none, s)

/-- TRANSMIT_MULTIBLOCK (R452): 64 fc before an LEMC boundary, its record is popped; without one, zeros are sent. -/
def execTransmitMultiblock (k : Fin 16) (errs : List (Nat × Flaw)) (s : State) : Host.Outcome State Fault Refusal :=
  let n := k.val
  let t := advance s.progTime 64
  let zeros : List Byte := List.replicate (s.multiblock n) 0
  onlyIf (s.linkRuns n true = true ∧ s.lemcAt n (t % 2 ^ 34) = true ∧ s.closed 0 = false) s
    (let r := s.nextSamples n t errs ((s.qs.map (fun e => e.2.count)).foldl (· + ·) 1)
     match r.1 with
     | some x =>
       let b := (x.body.take x.len).take (s.multiblock n)
       r.2.emit (.multiblock n t (if x.bad then zeros else b ++ List.replicate (s.multiblock n - b.length) 0))
     | none => ((r.2.incF (F.JESD_LINK_STAT_UNDERRUN n)).raise Ev.JESD_UNDERRUN [n]).emit (.multiblock n t zeros))

end Sys2Proof.Machine
end

