-- ==== Sys2Proof/Machine/Thermal.lean ====
section
/-!
DEFINITION. Sys2Proof/Machine/Thermal.lean: temperature sensors, bands and the trip (chapter 17), and the calibrations that
temperature triggers (chapter 19).
-/
namespace Sys2Proof.Machine
open Sys2Proof

/-! ## Sensors (R423 to R425, R433) -/

/-- A die has its power: B always, a stack die unless it has lost its rail since it last started. -/
def State.diePowered (s : State) (die : Nat) : Bool := die == 0 || nbits s.pwr.dark (die - 1) 1 == 0

/-- A sensor is sampled: its die is powered; a remote input is not off (R433, R503). -/
def State.sampled (s : State) (x : Nat) : Bool :=
  if x < 60 then s.diePowered (sensorDie x)
  else s.f (F.THERM_RDCFG_MODE (x - 60)) == 1 || s.f (F.THERM_RDCFG_MODE (x - 60)) == 2

/-- Raw reading of a sensor in a sample; one that the sample does not name reads as before. -/
def rawOf (s : State) (l : List (Fin 62 × Option Int)) (x : Nat) : Option Int :=
  match l.find? (fun e => e.1.val == x) with
  | some e => e.2
  | none => (s.sensor x).prev

/-- A change of a reading between the two samples, where both gave one. -/
def rawChange (s : State) (l : List (Fin 62 × Option Int)) (x : Nat) : Option Nat :=
  match rawOf s l x, (s.sensor x).prev with
  | some a, some b => some (a - b).natAbs
  | _, _ => none

/-- The slew test of R424: more than 8 °C while every other sensor of the die changes by less than 2 °C; not for the remote
inputs (R433). -/
def slewBad (s : State) (l : List (Fin 62 × Option Int)) (x : Nat) : Bool :=
  decide (x < 60) && (match rawChange s l x with
    | some d => decide (512 < d) && ((dieSensors (sensorDie x)).filter (fun y => y != x && !s.b (brokenOf y))).all (fun y =>
        match rawChange s l y with | some e => decide (e < 128) | none => true)
    | none => false)

/-- A sample is invalid for a sensor (R424). -/
def sampleBad (s : State) (l : List (Fin 62 × Option Int)) (x : Nat) : Bool :=
  match rawOf s l x with
  | none => true
  | some v => decide (v < -3840 ∨ 11200 < v) || slewBad s l x

/-- A sensor is declared broken: it reads 151 °C until the next power-on reset (R424). -/
def State.breakSensor (s : State) (x : Nat) : State :=
  ((((s.setF (brokenOf x) 1).setF (tempOf x) 0x25C0).setF (staleOf x) 0).setF (brokenBit x) 1).raise Ev.THERM_SENSOR_BROKEN
    [x, 0x25C0]

/-- What a sample does to one sensor, judged on the state `o` before it: broken, or its reading updated where the sample is
valid and no calibration holds it (R424, R425). -/
def State.sampleOne (o : State) (l : List (Fin 62 × Option Int)) (s : State) (x : Nat) : State :=
  if o.sampled x = false ∨ o.b (brokenOf x) = true ∨ (rawOf o l x = none ∧ (o.sensor x).bad = false ∧ (l.any (fun e => e.1.val == x)) = false) then s
  else
    let bad := sampleBad o l x
    let t := s.setSensor x { prev := rawOf o l x, bad := bad, seen := (o.sensor x).seen || !bad }
    if bad then if (o.sensor x).bad then t.breakSensor x else t
    else if t.b (staleOf x) then t
    else match rawOf o l x with
      | some v => t.setF (tempOf x) (unsgn 16 v)
      | none => t

/-! ## Bands (R426, Table 17-2) -/

/-- The band that contains a reading. -/
def bandAt (m : Int) : Nat :=
  if m < 0 then 0 else if m < 5440 then 1 else if m < 7360 then 2 else if m < 8640 then 3 else if m < 9600 then 4 else 5

/-- Every sensor of a die is broken. -/
def State.allBroken (s : State) (die : Nat) : Bool := (dieSensors die).all (fun x => s.b (brokenOf x))

/-- The band a sample gives a die, from U and D of this sample and the one before, and its broken sensors. -/
def State.nextBand (s : State) (die : Nat) (m : Option Int) : Nat :=
  let cur := s.band die
  let moved := match m, mfind s.thm.prev die with
    | some v, some p =>
      let u := bandAt v
      let d := bandAt (v + 192)
      if cur < u ∧ cur < p.1 then min u p.1 else if d < cur ∧ p.2 < cur then max d p.2 else cur
    | _, _ => cur
  if s.allBroken die then 5
  else if (dieSensors die).any (fun x => s.b (brokenOf x)) then max moved (if s.fuse.grade1E then 3 else 4)
  else moved

/-- A band is a trip: TRIP, and on a -1E B4 (R430). -/
def State.trips (s : State) (b : Nat) : Bool := b == 5 || (s.fuse.grade1E && b == 4)

/-- A die enters a band that is a trip: a trip is declared, or, where one is in force, M joins its fence and B closes the
gates (R430). -/
def State.enterTrip (s : State) (die : Nat) : State :=
  if s.b F.THERM_STAT_TRIPPED then
    let t := if die ≤ 1 then s.tripAddM else s
    if die = 0 then t.closeGates else t
  else s.declareTrip die

/-- LPDDR6 refresh: the higher of B's floor and the rate reported (R429, Table 17-3). -/
def State.refreshFloor (s : State) : Nat := if s.band 0 < 2 then 0 else if s.band 0 = 2 then 1 else 2

/-- REFX of every populated channel. -/
def State.refreshRates (s : State) : State :=
  (List.range s.dramChannels).foldl (fun t n => t.setF (F.DDR_CH_STAT_REFX n) (max s.refreshFloor (mget 0 s.thm.ddrRate n))) s

/-- A die's band takes a value (R426, R428). -/
def State.setBand (s : State) (die b : Nat) : State :=
  let old := s.band die
  if b = old then s
  else
    let t := ((s.setF ⟨Rg.THERM_BAND, 3 * die, 3⟩ b).raise (if old < b then Ev.THERM_BAND_UP else Ev.THERM_BAND_DOWN)
      (s.timed [die, s.dieReading die, old, b])).browseBand
    let u := if die = 0 then t.refreshRates else t
    if s.trips b ∧ s.trips old = false then u.enterTrip die else u

/-- The band logic of one die in a sample. -/
def State.bandOne (s : State) (die : Nat) : State :=
  if s.diePowered die = false then s
  else
    let m := s.dieTemp die
    let t := s.setBand die (s.nextBand die m)
    match m with
    | some v => { t with thm := { t.thm with prev := mins t.thm.prev die (bandAt v, bandAt (v + 192)) } }
    | none => t

/-! ## Remote inputs and gradients (R433, R434) -/

/-- A remote reading against HILIM: one event a crossing, 3 °C of hysteresis. -/
def State.remoteOne (s : State) (x : Nat) : State :=
  let hi := 64 * sgn 8 (s.f (F.THERM_RDCFG_HILIM x))
  let v := s.tempAt (60 + x)
  if s.sampled (60 + x) = false ∨ (s.sensor (60 + x)).seen = false then s
  else if hi ≤ v then
    if nbits s.thm.rdHigh x 1 = 1 then s
    else ({ s with thm := { s.thm with rdHigh := s.thm.rdHigh + 2 ^ x } } : State).raise Ev.THERM_RD_HIGH [60 + x, unsgn 16 v]
  else if v < hi - 192 ∧ nbits s.thm.rdHigh x 1 = 1 then { s with thm := { s.thm with rdHigh := s.thm.rdHigh - 2 ^ x } }
  else s

/-- Spread of pair `n` between its logic and configuration layer above 25 °C. -/
def State.spread (s : State) (n : Nat) : Bool :=
  match s.dieTemp (2 * n + 3), s.dieTemp (2 * n + 2) with
  | some a, some b => decide (1600 < (a - b).natAbs)
  | _, _ => false

/-- Samples in 1 s. -/
def secondSamples : Nat := 10000

/-- The count of samples a spread has held. -/
def State.spreadOne (s : State) (n : Nat) : State :=
  { s with thm := { s.thm with grad := mput 0 s.thm.grad n (if s.spread n then min (secondSamples + 1) (mget 0 s.thm.grad n + 1) else 0) } }

/-- THERM_GRADIENT (R434): the spread of a pair has held for 1 s; one event for each time it does. -/
def execThermGradient (n : Fin 4) (s : State) : Host.Outcome State Fault Refusal :=
  onlyIf (mget 0 s.thm.grad n.val = secondSamples) s
    (({ s with thm := { s.thm with grad := mins s.thm.grad n.val (secondSamples + 1) } } : State).raise Ev.THERM_GRADIENT
      [n.val, unsgn 16 ((s.dieTemp (2 * n.val + 3)).getD 0), unsgn 16 ((s.dieTemp (2 * n.val + 2)).getD 0)])

/-! ## Calibration triggers (R467 to R470) -/

/-- A sample of a block's reference temperature: whether two in succession lie past the threshold (R467). -/
def State.triggered (s : State) (key : Nat) (temp : Int) (thr : Nat) : Bool × State :=
  match mfind s.thm.ref key with
  | some r =>
    let past := decide (thr < (temp - r.1).natAbs)
    (past && r.2, { s with thm := { s.thm with ref := mins s.thm.ref key (r.1, past) } })
  | none => (false, s)

/-- An adaptation run of a lane starts: its figure is held, its preset set loaded (R471, R473). -/
def State.startAdapt (s : State) (p : Nat) : State :=
  (((s.setF (F.SDS_LANE_CAL_BUSY p) 1).setF (F.SDS_LANE_EYE_STALE p) 1).startRef p (s.tempAt 0)).loadPreset p

/-- A lane's trigger: nothing is queued while a run is in progress (R469). -/
def State.laneTrigger (s : State) (p : Nat) : State :=
  if s.b (brokenOf 0) ∨ s.b (F.SDS_LANE_CAL_BUSY p) = true then s
  else
    let r := s.triggered p (s.tempAt 0) (threshold (s.f F.THERM_CALTH_SDS))
    if r.1 then r.2.startAdapt p else r.2

/-- A die's sensor run is asked for: it waits for idle dies (R474). -/
def State.askRun (s : State) (die : Nat) : State := s.setF ⟨Rg.THERM_CALCTL, 16 + die, 1⟩ 1

/-- A die's sensor trigger; a die that has not run since power-on reset is to run (R470). -/
def State.dieTrigger (s : State) (die : Nat) : State :=
  if s.diePowered die = false ∨ s.b (F.THERM_CAL_CNT_BUSY die) = true then s
  else match s.dieTemp die, mfind s.thm.ref (32 + die) with
    | some m, some _ =>
      let r := s.triggered (32 + die) m (threshold (s.f F.THERM_CALTH_SENS))
      if r.1 then r.2.askRun die else r.2
    | some _, none => s.askRun die
    | none, _ => s

/-- A channel's retraining trigger (R476). -/
def State.ddrTrigger (s : State) (n : Nat) : State :=
  if s.b (brokenOf 1) ∨ s.b (F.DDR_CH_STAT_TRAINED n) = false ∨ nbits s.thm.ddrPend n 1 = 1 then s
  else
    let r := s.triggered (48 + n) (s.tempAt 1) (threshold (s.f F.THERM_CALTH_DDR))
    if r.1 then { r.2 with thm := { r.2.thm with ddrPend := r.2.thm.ddrPend + 2 ^ n } } else r.2

/-- A sensor run of a die ends: its sensors no longer hold their readings (R474, R477). -/
def State.endRun (s : State) (die : Nat) : State :=
  let t := (dieSensors die).foldl (fun t x => t.setF (staleOf x) 0) (s.setF (F.THERM_CAL_CNT_BUSY die) 0)
  if die = 0 then (t.setF (staleOf 60) 0).setF (staleOf 61) 0 else t

/-- A raw reading at or above 150 °C ends the run of its die at once (R474). -/
def State.hotRuns (s : State) (l : List (Fin 62 × Option Int)) : State :=
  (List.range 10).foldl (fun t die =>
    if t.b (F.THERM_CAL_CNT_BUSY die) ∧ (dieSensors die).any (fun x =>
        !s.b (brokenOf x) && (match rawOf s l x with | some v => decide (9600 ≤ v) | none => false)) then t.endRun die
    else t) s

/-! ## The sample (R423, R426) -/

/-- Every die is at B3 or below. -/
def State.allCool (s : State) : Bool := (List.range 10).all (fun d => decide (s.band d ≤ 3))

/-- The dies a trip holds are all held and powered. -/
def State.tripHeld (s : State) : Bool :=
  s.b F.THERM_STAT_TRIPPED && s.pwr.toHold == 0 && s.pwr.dark == 0 && s.pwr.byTrip && !s.b F.PWR_STAT_WAKING

/-- The return from a trip that needs no software (R431, R432). -/
def State.autoReturn (s : State) : State :=
  if s.tripHeld ∧ s.b F.THERM_CTL_AUTORESTART = true ∧ s.b F.THERM_STAT_LATCHED = false ∧ s.allCool = true then s.tripReturn else s

/-- SENSOR_SAMPLE (R423 to R434, R467): sensors, bands and trips, the guard settings before the release, remote inputs, and the
calibrations the sample triggers. -/
def execSensorSample (l : List (Fin 62 × Option Int)) (s : State) : Host.Outcome State Fault Refusal :=
  let a : State := s.hotRuns l
  let b : State := (List.range 62).foldl (fun t x => State.sampleOne a l t x) a
  let c : State := (List.range 10).foldl State.bandOne b
  let d : State := if c.tl.released then c else c.takeGuards
  let e : State := (List.range 4).foldl State.spreadOne ((List.range 2).foldl State.remoteOne d)
  let f : State := (List.range 16).foldl State.ddrTrigger ((List.range 10).foldl State.dieTrigger
    ((List.range 32).foldl State.laneTrigger e))
  let g : State := if f.b F.PWR_STAT_WAKING then { f with pwr := { f.pwr with woken := f.pwr.woken + 1 } } else f
  ok g.autoReturn

/-- RESTART (R431, R432): with every die at B3 or below it clears LATCHED and restarts the fabric. -/
def execRestart (who : Who) (v : Word) (s : State) : Host.Outcome State Fault Refusal :=
  ok (s.onBus who Rg.THERM_CTL v (fun t =>
    if v.getLsbD 30 ∧ t.b F.THERM_STAT_TRIPPED = true ∧ t.allCool = true then
      let u := t.setF F.THERM_STAT_LATCHED 0
      if u.tripHeld then u.tripReturn else u
    else t))

/-! ## Lanes (R471 to R473, R475) -/

/-- ADAPTATION_REQUEST (R469, R475). -/
def execAdaptationRequest (who : Who) (p : Fin 32) (v : Word) (s : State) : Host.Outcome State Fault Refusal :=
  ok (s.onBus who (Rg.SDS_LANE_CAL p.val) v (fun t =>
    if v.getLsbD 31 = false then t
    else if t.b (F.SDS_LANE_CAL_BUSY p.val) then t.setF (F.SDS_LANE_CAL_CMDREJ p.val) 1
    else t.startAdapt p.val))

/-- A lane's eye figure. -/
def State.setEye (s : State) (p width height : Nat) : State :=
  ((s.setF (F.SDS_LANE_EYE_WIDTH p) width).setF (F.SDS_LANE_EYE_HEIGHT p) height).setF (F.SDS_LANE_EYE_VALID p) 1

/-- ADAPTATION_RUN (R471 to R473). -/
def execAdaptationRun (p : Fin 32) (width : BitVec 7) (height : BitVec 10) (s : State) : Host.Outcome State Fault Refusal :=
  let n := p.val
  let low : Bool := decide (width.toNat < s.f F.SDS_CALCFG_MINW ∨ height.toNat < s.f F.SDS_CALCFG_MINH)
  let t := ((s.countLane n).setEye n width.toNat height.toNat).setF (F.SDS_LANE_EYE_STALE n) 0
  let u := if low then t.raise Ev.SDS_EYE_LOW [n, width.toNat, height.toNat] else t
  onlyIf (s.b (F.SDS_LANE_CAL_BUSY n) = true) s
    (if width = 0 then u.raise Ev.SDS_ADAPT_FAIL [n, 0, height.toNat] else u)

/-- EYE_UPDATE (R472): between runs, the figure is measured again. -/
def execEyeUpdate (p : Fin 32) (width : BitVec 7) (height : BitVec 10) (s : State) : Host.Outcome State Fault Refusal :=
  onlyIf (s.b (F.SDS_LANE_CAL_BUSY p.val) = false) s (s.setEye p.val width.toNat height.toNat)

/-! ## Sensor runs (R474, R475) -/

/-- SENSOR_RUN_REQUEST (R469, R475). -/
def execSensorRunRequest (who : Who) (v : Word) (s : State) : Host.Outcome State Fault Refusal :=
  ok (s.onBus who Rg.THERM_CALCTL v (fun t =>
    (List.range 10).foldl (fun u i =>
      if nbits v.toNat i 1 = 0 then u
      else if u.b (F.THERM_CAL_CNT_BUSY i) then u.setF F.THERM_CALCTL_CMDREJ 1
      else u.askRun i) t))

/-- M has been quiet for 1 ms: none of its ports and no queue controller has performed a request. In the fc in which the
millisecond ends `quiet` says whether it has ended. -/
def State.memQuiet (s : State) (quiet : Bool) : Bool :=
  s.mem.reqAt == 0 || decide (s.mem.reqAt + 983040 < s.tl.fc) || (s.mem.reqAt + 983040 == s.tl.fc && quiet)

/-- A die is idle (R474): a fabric die while the fabric is torn down or held by a trip; M while it has been quiet for 1 ms. -/
def State.dieIdle (s : State) (quiet : Bool) (die : Nat) : Bool :=
  if die = 0 then false
  else if die = 1 then s.memQuiet quiet
  else s.fab.torn || s.b F.THERM_STAT_TRIPPED

/-- Sound on-die sensors on idle dies. -/
def State.idleSensors (s : State) (quiet : Bool) : Nat :=
  ((List.range 10).map (fun d => if s.dieIdle quiet d ∧ s.diePowered d = true then (s.sound d).length else 0)).foldl (· + ·) 0

/-- SENSOR_RUN_START (R474): a waiting run starts; its sensors hold their readings. The remote inputs refit with the first run
of B. -/
def execSensorRunStart (die : Fin 10) (quiet : Bool) (s : State) : Host.Outcome State Fault Refusal :=
  let i := die.val
  let t := (dieSensors i).foldl (fun t x => if t.b (brokenOf x) then t else t.setF (staleOf x) 1)
    (((s.setF ⟨Rg.THERM_CALCTL, 16 + i, 1⟩ 0).setF (F.THERM_CAL_CNT_BUSY i) 1).startRef (32 + i) ((s.dieTemp i).getD 0))
  onlyIf (s.b ⟨Rg.THERM_CALCTL, 16 + i, 1⟩ = true ∧ s.b (F.THERM_CAL_CNT_BUSY i) = false ∧ s.diePowered i = true
      ∧ (i = 0 ∨ s.dieIdle quiet i = true) ∧ 16 ≤ s.idleSensors quiet) s
    (if i = 0 ∧ s.thm.rdFit = false then
      (List.range 2).foldl (fun t x => if t.b (brokenOf (60 + x)) ∨ t.sampled (60 + x) = false then t else t.setF (staleOf (60 + x)) 1)
        { t with thm := { t.thm with rdFit := true } }
     else t)

/-- SENSOR_RUN (R474, R477): a run completes, sensors whose offset would exceed 8 °C breaking; or it ends early. -/
def execSensorRun (die : Fin 10) (done : Bool) (bad : List (Fin 60)) (s : State) : Host.Outcome State Fault Refusal :=
  let i := die.val
  let t := s.endRun i
  onlyIf (s.b (F.THERM_CAL_CNT_BUSY i) = true) s
    (if done then
      ((bad.filter (fun x => sensorDie x.val == i && !s.b (brokenOf x.val))).foldl (fun u x => u.breakSensor x.val) t
        |>.incF (F.THERM_CAL_CNT_COUNT i)).setF (F.THERM_CAL_TIME_OPTIME i) (s.f F.PWR_OPTIME_OPTIME)
     else t)

/-! ## LPDDR6 channels (R459, R461, R470, R476) -/

/-- VDDQ_LP6 is up. -/
def State.ddrRail (s : State) : Bool := nbits (s.f F.PWR_STAT_RAILOK) 7 1 == 1

/-- DDR_TRAINING (R459): the boot training of the populated channels ends, the failed ones reported. -/
def execDdrTraining (failed : List (Fin 16)) (s : State) : Host.Outcome State Fault Refusal :=
  let t := (List.range s.dramChannels).foldl (fun t n =>
    let bad := failed.any (fun x => x.val == n)
    let u := ((((t.setF (F.DDR_CH_STAT_TRAINED n) (if bad then 0 else 1)).setF (F.DDR_CH_STAT_SELFREF n) 0).setF
      (F.DDR_CH_STAT_RETRAINS n) 0).startRef (48 + n) (t.tempAt 1))
    if bad then u.raise Ev.DDR_TRAIN_FAIL [n] else u) s
  onlyIf (s.pwr.stable = true ∧ s.ddrRail = true) s ({ t with thm := { t.thm with ddrPend := 0 } } : State).refreshRates

/-- REFRESH_RATE_READ (R429, R461). -/
def execRefreshRateRead (rates : List (Fin 16 × Fin 4)) (s : State) : Host.Outcome State Fault Refusal :=
  ok (({ s with thm := { s.thm with ddrRate := rates.foldl (fun m e => mput 0 m e.1.val e.2.val) s.thm.ddrRate } } : State).refreshRates)

/-- DDR_RETRAIN (R476): channels retrain one at a time, in ascending order. -/
def execDdrRetrain (n : Fin 16) (passed : Bool) (s : State) : Host.Outcome State Fault Refusal :=
  let i := n.val
  let t := ((({ s with thm := { s.thm with ddrPend := s.thm.ddrPend - 2 ^ i } } : State).incF (F.DDR_CH_STAT_RETRAINS i)).startRef
    (48 + i) (s.tempAt 1)).raise Ev.DDR_RETRAIN [i, s.f (F.DDR_CH_STAT_RETRAINS i) + 1]
  onlyIf (nbits s.thm.ddrPend i 1 = 1 ∧ s.thm.ddrPend % 2 ^ i = 0) s
    (if passed then t else (t.setF (F.DDR_CH_STAT_TRAINED i) 0).raise Ev.DDR_TRAIN_FAIL [i])

end Sys2Proof.Machine
end

