-- ==== Sys2Proof/Machine/VertLinks.lean ====
section
/-!
DEFINITION. Sys2Proof/Machine/VertLinks.lean: timed and timeline groups, crossings, untimed links, the power-up lane test,
and the phases of a fence (chapter 13).
-/
namespace Sys2Proof.Machine
open Sys2Proof

/-! ## Timed and timeline groups (R349, R352 to R354) -/

/-- A group exists at a joint (R349). -/
def vlExists (joint g : Nat) : Bool :=
  if joint = 0 then decide (g < 72) else decide (joint ≤ 8 ∧ g < 2516 ∧ joint ≤ 2 * (g / 629) + 2)

/-- A group that has seen no error. -/
def vlGroup0 : VlGroup := { lanes := lanes0, corrs := 0, pend := false, failed := false, spares := 4, map := 0 }

/-- Key of a group. -/
def vlKey (joint g : Nat) : Nat := 4096 * joint + g

def State.vlGroup (s : State) (joint g : Nat) : VlGroup := mget vlGroup0 s.vl.groups (vlKey joint g)

def State.setVlGroup (s : State) (joint g : Nat) (x : VlGroup) : State :=
  { s with vl := { s.vl with groups := mput vlGroup0 s.vl.groups (vlKey joint g) x } }

/-- The first spare of a group that is neither in use nor bad (R100, R352). -/
def VlGroup.spare (x : VlGroup) : Option Nat :=
  (List.range 4).find? (fun i => nbits x.map (8 * i + 7) 1 == 0 && nbits x.lanes.badSpares i 1 == 0)

/-- A position takes a spare: its MAP entry, and one spare fewer. -/
def VlGroup.useSpare (x : VlGroup) (i pos : Nat) : VlGroup :=
  { x with map := x.map + (128 + pos) * 2 ^ (8 * i), spares := x.spares - 1 }

/-- Port and layer a timed group at a joint above 0 belongs to, 32 the sequencer port; none for a timeline group (R349). -/
def vlPort (g : Nat) : Option (Nat × Nat) := if g % 629 < 627 then some (g / 629, g % 629 / 19) else none

/-- Layer a timeline group belongs to. -/
def vlLine (joint g : Nat) : Option (Fin 4) :=
  if joint = 0 then (if 64 ≤ g then some (Fin.ofNat 4 ((g - 64) / 2)) else none)
  else if 627 ≤ g % 629 then some (Fin.ofNat 4 (g / 629)) else none

/-- Every waiting request of a port of a failed group completes with RESET_ABORT (R354). -/
def State.linkFail (s : State) (joint g layer port : Nat) : State :=
  if port < 32 then
    s.eachReq (32 * layer + port) (fun t r =>
      let stop (u : State) : Req × State := (r.abort layer (layerDie layer - 1) u.tl.fc,
        (u.abortCount layer (layerDie layer - 1)).linkReport joint 6 g 0x7F)
      if r.due.isNone then stop t
      else if r.returnsData then stop (t.settleReq r false)
      else (r, t))
  else s

/-- A group is declared failed (R354): a layer whose timeline group fails stops, and its regions keep their current planes. -/
def State.failVl (s : State) (joint g : Nat) : State :=
  let t := ((s.setVlGroup joint g { s.vlGroup joint g with failed := true }).linkReport joint 3 g 0x7F).raise Ev.VL_LINK_FAILED
    [joint, g]
  match vlLine joint g with
  | some k => (List.finRange 8).foldl (fun u j => u.modRegion k j (fun r => { r with nextCur := none, pendSw := none })) (t.seqStop k)
  | none =>
    if joint = 0 then t.failBase.endHosts false
    else match vlPort g with
      | some p => t.linkFail joint g p.1 p.2
      | none => t

/-- A position is declared failed (R352 to R354). -/
def State.failVlPosition (s : State) (joint g pos : Nat) : State :=
  let x := s.vlGroup joint g
  match x.lanes.faill with
  | some _ => s.failVl joint g
  | none =>
    let y := { x with lanes := { x.lanes with faill := some pos } }
    match x.spare with
    | some _ => s.setVlGroup joint g { y with pend := true }
    | none => ((s.setVlGroup joint g y).linkReport joint 2 g pos).raise Ev.VL_SPARES_GONE [joint, g, pos]

/-- A correction of a position of a group: counted, reported, and counted in its window (R98, R99, R352). -/
def State.correctVl (s : State) (joint g pos : Nat) : State :=
  let x := s.vlGroup joint g
  let n := mget 0 x.lanes.win pos + 1
  let y := { x with corrs := satAdd 16 x.corrs 1, lanes := { x.lanes with win := mput 0 x.lanes.win pos n } }
  let t := (((s.setVlGroup joint g y).incF (F.VL_J_STAT_CORRCNT joint)).linkReport joint 0 g pos).raise Ev.VL_CORR [joint, g, pos]
  if n ≥ s.shaftThresh ∧ x.lanes.faill ≠ some pos then t.failVlPosition joint g pos else t

/-- VL_CORR (R352): lanes of a word on a timed or timeline group, `flip` with lane i at bit i, have changed on the way; the code is
linear, so that its syndrome is that of the changed lanes whatever the word was (R97, R98). -/
def execVlCorr (joint : Fin 9) (g : BitVec 12) (flip : BitVec 71) (s : State) : Host.Outcome State Fault Refusal :=
  let x := (idleWord.flipped flip).syndrome
  onlyIf (vlExists joint.val g.toNat = true ∧ x ≠ 0 ∧ (s.vlGroup joint.val g.toNat).failed = false) s
    (match syndromePos x.toNat with
     | some pos => s.correctVl joint.val g.toNat pos
     | none => s.failVl joint.val g.toNat)

/-- The swap of a group that is to come in the present fc: the position, and the spare it moves to. -/
def State.vlSwapDue (s : State) (x : VlGroup) : Option (Nat × Nat) :=
  match x.lanes.faill, x.spare with
  | some pos, some i => if x.pend = true ∧ s.sched % 4096 = 0 then some (pos, i) else none
  | _, _ => none

/-- VL_SWAP (R352): a declared position takes the next spare in an fc whose count is a multiple of 4,096. -/
def execVlSwap (joint : Fin 9) (g : BitVec 12) (s : State) : Host.Outcome State Fault Refusal :=
  let x := s.vlGroup joint.val g.toNat
  match s.vlSwapDue x with
  | some (pos, i) =>
    let y := { x.useSpare i pos with pend := false, lanes := { x.lanes with faill := none, win := mput 0 x.lanes.win pos 0 } }
    ok (((s.setVlGroup joint.val g.toNat y).linkReport joint.val 1 g.toNat pos).raise Ev.VL_SWAP [joint.val, g.toNat, pos])
  | none => .next s

/-! ## Crossings (R351) -/

/-- Margin of a crossing at an offset, in 1/16 fc. -/
def margin (offset : Int) : Nat := 16 - offset.natAbs

/-- The phase monitor of a crossing measures an offset: OFFSET and MINMARGIN. -/
def State.phaseSample (s : State) (joint : Nat) (offset : Int) : State :=
  (s.setF (F.VL_J_PHASE_OFFSET joint) (unsgn 8 offset)).putLeast (F.VL_J_PHASE_MINMARGIN joint) (margin offset)

/-- VL_PHASE_WARN (R351): the monitor measures an offset; a margin below 1/4 fc sets WARN. -/
def execVlPhaseWarn (joint : Fin 9) (offset : Int) (s : State) : Host.Outcome State Fault Refusal :=
  let t := s.phaseSample joint.val offset
  ok (if margin offset < 4 then (t.setF (F.VL_J_PHASE_WARN joint.val) 1).raise Ev.VL_PHASE_WARN [joint.val, unsgn 32 offset] else t)

/-- VL_FIFO_SLIP (R351, R543): the margin of a crossing is 0, a whole fc to a side that is free; every die above the joint is fenced
and restarted. -/
def execVlFifoSlip (joint : Fin 9) (s : State) : Host.Outcome State Fault Refusal :=
  let d := s.draw 1
  let t := d.2.phaseSample joint.val (if d.1 = 1#1 then 16 else -16)
  ok (((t.setF (F.VL_J_PHASE_SLIP joint.val) 1).raise Ev.VL_FIFO_SLIP [joint.val]).askRestart bySlip (decide (joint.val ≤ 1)))

/-! ## Untimed links (R355, R356) -/

/-- A link fails; a load whose stream goes to that layer ends with LINKFAIL. -/
def State.failLink (s : State) (link : Nat) : State :=
  let a := ({ s with vl := { s.vl with dead := Nat.lor s.vl.dead (2 ^ link) } }.linkReport 0 4 link 0x7F).raise Ev.VL_RETRY_FAIL [0, link]
  let t := if link = 0 then a.failBase.endHosts false else a
  match t.ld with
  | some l =>
    if 1 ≤ link ∧ t.ldStage = stStream ∧ (match l.far with | some f => f / 2 ^ 30 == link - 1 | none => false) = true then
      t.rejectLoad l rLinkfail (link - 1) l.pos
    else t
  | none => t

/-- VL_RETRY (R355, R356): a flit is resent, `again` when it is the one resent last; the 16th resend in succession without
acceptance declares the link failed. -/
def execVlRetry (link : Fin 5) (again : Bool) (s : State) : Host.Outcome State Fault Refusal :=
  let n := if again then mget 0 s.vl.retry link.val + 1 else 1
  let t := ((s.incF (if link.val = 0 then F.VL_RETRY_BASE else F.VL_RETRY_CFG)).raise Ev.VL_RETRY [0, link.val])
  let u := { t with vl := { t.vl with retry := mput 0 t.vl.retry link.val n } }
  onlyIf (nbits s.vl.dead link.val 1 = 0) s (if n = 16 then u.failLink link.val else u)

/-! ## Power-up lane test (R357 to R359) -/

/-- A group at the start of a test: spares whole again, a failed group still failed. -/
def VlGroup.untested (x : VlGroup) : VlGroup := { vlGroup0 with corrs := x.corrs, failed := x.failed }

/-- A timed group's failed lane: a position takes the first sound spare, is left to the code, or fails the group; a lane above
70 is a spare and is marked unusable. -/
def State.testVl (s : State) (joint g pos : Nat) : State :=
  let x := s.vlGroup joint g
  let t := (s.linkReport joint 5 g pos).raise Ev.VL_LANETEST_FAIL [joint, g, pos]
  if 71 ≤ pos then
    t.setVlGroup joint g { x with spares := x.spares - 1,
                                  lanes := { x.lanes with badSpares := Nat.lor x.lanes.badSpares (2 ^ (pos - 71)) } }
  else match x.spare with
    | some i => t.setVlGroup joint g (x.useSpare i pos)
    | none => t.failVlPosition joint g pos

/-- A shaft group's failed lane, likewise (R359). -/
def State.testShaft (s : State) (b : Fin 3) (g pos : Nat) : State :=
  let t := s.raise Ev.VL_LANETEST_FAIL [2 * b.val + 3, g, pos]
  if 71 ≤ pos then
    (t.setLanes b.val g { s.lanes b.val g with badSpares := Nat.lor (s.lanes b.val g).badSpares (2 ^ (pos - 71)) }).setF
      (F.VL_BG_STAT_SPARES b.val g) (s.f (F.VL_BG_STAT_SPARES b.val g) - 1)
  else match s.nextSpare b.val g with
    | some i => (t.setF (spareFld b.val g i) (128 + pos)).setF (F.VL_BG_STAT_SPARES b.val g) (s.f (F.VL_BG_STAT_SPARES b.val g) - 1)
    | none => t.failPosition b g pos

/-- A shaft group's spares as its fuse map gives them: those it has taken show in MAP and do not count in SPARES (R103). -/
def State.fuseShaft (s : State) (b g : Nat) : State :=
  let w := mget 0 s.fuse.shaftMap (shKey b g)
  (s.setReg (Rg.VL_BG_MAP b g) w).setF (F.VL_BG_STAT_SPARES b g)
    (4 - ((List.range 4).filter (fun i => nbits w.toNat (8 * i + 7) 1 == 1)).length)

/-- Every shaft group that the fuse map names (R103). -/
def State.fuseShafts (s : State) : State := s.fuse.shaftMap.foldl (fun t e => t.fuseShaft (e.1 / 256) (e.1 % 256)) s

/-- A shaft group at the start of a test. -/
def State.untestShaft (s : State) (b g : Nat) : State :=
  (((s.setLanes b g lanes0).fuseShaft b g).setF (F.VL_BG_STAT_FAILLANE b g) 0x7F).setF (F.VL_BG_STAT_SWAPPEND b g) 0

/-- A bond's failed lanes (R357): two beyond the spares make the tine's refill path fail. -/
def State.testBond (s : State) (tine lanes : Nat) : State :=
  let t := { s with vl := { s.vl with bond := mput 0 s.vl.bond tine (lanes - 2) } }
  let u := t.raise Ev.VL_LANETEST_FAIL [2 * (tine / 2 ^ 18) + 2, tine % 2 ^ 18, lanes]
  if 4 ≤ lanes then u.raise Ev.VL_BOND_FAILED [2 * (tine / 2 ^ 18) + 2, tine / 2 ^ 18, tine % 2 ^ 18] else u

/-- Failed spares first, so that a position takes a sound one. -/
def sparesFirst {α : Type} (pos : α → Nat) (l : List α) : List α :=
  l.filter (fun x => decide (71 ≤ pos x)) ++ l.filter (fun x => !decide (71 ≤ pos x))

/-- POWER_UP_LANE_TEST (R358, R359): the test ends: the failed lanes of timed groups, of shafts, and of refill bonds by package
tine index. -/
def execPowerUpLaneTest (bad : List (Fin 9 × Nat × Nat)) (shaft : List (Fin 3 × Fin 256 × Nat)) (bond : List (Nat × Nat))
    (s : State) : Host.Outcome State Fault Refusal :=
  let s0 : State := { s with vl := { s.vl with groups := s.vl.groups.filterMap (fun e =>
      if e.2.untested = vlGroup0 then none else some (e.1, e.2.untested)), bond := [] } }
  let s1 := (s0.fab.lanes.map (fun e => e.1)).foldl (fun t k => t.untestShaft (k / 256) (k % 256)) s0
  let t := (sparesFirst (fun e => e.2.2) (bad.filter (fun e => vlExists e.1.val e.2.1))).foldl (fun t e => t.testVl e.1.val e.2.1 e.2.2) s1
  let u := (sparesFirst (fun e => e.2.2) shaft).foldl (fun t e => t.testShaft e.1 e.2.1.val e.2.2) t
  let v := bond.foldl (fun t e => t.testBond e.1 e.2) u
  onlyIf (s.b F.VL_TEST_RUNNING = true) s
    (((v.setF F.VL_TEST_RUNNING 0).setF F.VL_TEST_DONE 1).setF F.VL_TEST_FAILED
      (min 0xFFFF (bad.length + shaft.length + (bond.map (fun e => e.2)).sum)))

/-! ## Fences (R360 to R365) -/

/-- A request of a port holds up a die's drain in the present fc: it is outstanding below the die, or its response has still to
pass the die's retiming stages (R361). -/
def State.drainHeld (s : State) (die layer : Nat) (r : Req) : Bool :=
  match r.due with
  | some d => decide (s.tl.fc + between layer die < d)
  | none => r.held.isNone

/-- A sequencer's access holds up a die's drain: its request passed the die before the fence, and nothing has answered it (R361). -/
def State.seqDrains (s : State) (die : Nat) (k : Fin 4) : Bool :=
  decide (die ≤ layerDie k.val) && (s.seq k).ports.any (fun op => s.opPassed k op die)

/-- No transfer is held in a die's retiming stages and none is outstanding below it for a requester at or above it. -/
def State.drained (s : State) (die : Nat) : Bool :=
  (List.finRange 4).all (fun k => !s.seqDrains die k) && s.mem.ports.all (fun e => decide (layerDie (portLayer e.1) < die) || e.2.reqs.all (fun r => !s.drainHeld die (portLayer e.1) r))

/-- At the drain's bound the memory layer cancels a request that waits for a line fill, and with it what waits behind it
(R361, R363). -/
def State.cancelReq (s : State) (die key : Nat) (r : Req) : Req × State :=
  if r.due.isNone ∧ r.held.isNone then (r.abort (portLayer key) die s.tl.fc, s.abortCount (portLayer key) die) else (r, s)

/-- A held request that arrives in the fc of drain end is answered in it (R362). -/
def State.arriveReq (s : State) (die key : Nat) (r : Req) : Req × State :=
  if r.held = some die ∧ r.due.isNone ∧ Sys2Proof.Machine.arrival r (portLayer key) die = s.tl.fc then
    (r.abort (portLayer key) die s.tl.fc, s.abortCount (portLayer key) die)
  else (r, s)

/-- A die's drain ends: its own ports' responses are absorbed (R361); a reset of M waits for every borrow to write back (R339). -/
def State.drainEnd (s : State) (die : Nat) : State :=
  let t := s.mem.ports.foldl (fun t e =>
    if layerDie (portLayer e.1) < die then t
    else
      let u := t.eachReq e.1 (fun w r => w.cancelReq die e.1 r)
      if layerDie (portLayer e.1) = die then
        let v := (u.port e.1).reqs.foldl (fun w r => w.settleReq r false) u
        v.setPort e.1 { v.port e.1 with reqs := [] }
      else u.eachReq e.1 (fun w r => w.arriveReq die e.1 r)) s
  (((if die = 0 then (t.endHosts true).returnWindows else t).setF ⟨Rg.VL_FENSTAT, 2 * die, 2⟩ 2).modMem (fun m => { m with drainEnd := mput 0 m.drainEnd die s.tl.fc })).holdDrained

/-- A die's drain ends in the present fc: nothing is left to drain, or 1,967 fc have passed since the fence started (R361). -/
def State.drainDue (s : State) (die : Nat) : Bool :=
  s.phase die == 1 && (s.drained die || decide (mget 0 s.mem.fenceAt die + 1967 ≤ s.tl.fc))

/-- DRAIN_END (R361). -/
def execDrainEnd (die : Fin 9) (s : State) : Host.Outcome State Fault Refusal :=
  onlyIf (s.drainDue die.val = true) s (s.drainEnd die.val)

/-- VL_FENCE_DONE (R360, R365): a die in RESTART returns to OPEN once every die below it is OPEN; with the last die of a restart
its regions are set (R544). -/
def execVlFenceDone (die : Fin 9) (s : State) : Host.Outcome State Fault Refusal :=
  let t := (s.setF ⟨Rg.VL_FENSTAT, 2 * die.val, 2⟩ 0).raise Ev.VL_FENCE_DONE [die.val + 1, die.val]
  onlyIf (s.phase die.val = 3 ∧ (List.range die.val).all (fun d => s.dieUp d) = true) s
    (if t.restartReady then t.restartRegions else t)

end Sys2Proof.Machine
end

