-- ==== Sys2Proof/Machine/Power.lean ====
section
/-!
DEFINITION. Sys2Proof/Machine/Power.lean: rails and brown-out, the resets, start-up and the low-power states (chapter 20).
-/
namespace Sys2Proof.Machine
open Sys2Proof

/-! ## Rails (R480 to R487) -/

/-- A rail is above its reset level. -/
def State.railOk (s : State) (r : Nat) : Bool := nbits (s.f F.PWR_STAT_RAILOK) r 1 == 1

/-- Bit of a rail in RAILOK. -/
def railBit (r : Nat) : Fld := ⟨Rg.PWR_STAT, r, 1⟩

/-- VDD_MEM, VDD_CFGL and VDD_FAB are above their reset levels. -/
def State.stackRails (s : State) : Bool := s.railOk 8 && s.railOk 9 && s.railOk 10

/-- The dies a stack rail serves: M; C1 to C4; L1 to L4. -/
def railDies (r : Nat) : Nat := if r = 8 then 1 else if r = 9 then 0xAA else if r = 10 then 0x154 else 0

/-- The dies a stack rail serves, and every die above one of them (R501). -/
def railAndAbove (r : Nat) : Nat := if r = 8 then 0x1FF else if r = 9 then 0x1FE else if r = 10 then 0x1FC else 0

/-- The dies without power. -/
def State.unpowered (s : State) : Nat :=
  [8, 9, 10].foldl (fun n r => if s.railOk r then n else Nat.lor n (railDies r)) 0

/-- Rails of lower groups that must be up when a stack rail rises (R481, R482): of group 3 any may be left off, and VDD_TK may be
removed at any time. -/
def State.orderBroken (s : State) (r : Nat) : Bool :=
  ([0, 2, 3, 4] ++ (if 9 ≤ r then [8] else []) ++ (if r = 10 then [9] else [])).any (fun x => !s.railOk x)

/-- Nominal, warning and reset level of a rail, mV (Table 20-1). -/
def railLevels (r : Nat) : Nat × Nat × Nat :=
  [(800, 768, 736), (800, 768, 736), (1800, 1728, 1656), (900, 864, 828), (750, 720, 690), (900, 864, 828), (1200, 1152, 1104),
   (500, 480, 460), (750, 720, 690), (750, 720, 690), (700, 672, 644)].getD r (0, 0, 0)

/-- A sample of a rail: the latest and the lowest, mV. -/
def State.railSample (s : State) (r mv : Nat) : State :=
  (s.setF (F.PWR_RAIL_MV r) mv).putLeast (F.PWR_RAIL_MIN r) mv

/-- BROWNOUT_START (R485). -/
def execBrownoutStart (rail : Fin 11) (mv : Nat) (s : State) : Host.Outcome State Fault Refusal :=
  onlyIf (s.b (F.PWR_RAIL_WARN rail.val) = false ∧ mv < (railLevels rail.val).2.1) s
    (((s.railSample rail.val mv).setF (F.PWR_RAIL_WARN rail.val) 1).raise Ev.BROWNOUT_START [rail.val, mv])

/-- BROWNOUT_WARN (R485): `mn` the lowest sample of the dip, `mv` the one that ends it, `dur` its length in microseconds; not
for one declared below reset (R487). -/
def execBrownoutWarn (rail : Fin 11) (mn mv dur : Nat) (s : State) : Host.Outcome State Fault Refusal :=
  let d := min 0xFFFF dur
  let t := ((s.railSample rail.val mn).railSample rail.val mv).setF (F.PWR_RAIL_WARN rail.val) 0
  onlyIf (s.b (F.PWR_RAIL_WARN rail.val) = true ∧ s.railOk rail.val = true ∧ mn < (railLevels rail.val).2.1
      ∧ 200 * (railLevels rail.val).2.1 + (railLevels rail.val).1 ≤ 200 * mv) s
    ((t.report Rg.PWR_DIPLAST [(F.PWR_DIPLAST_VALID, 1), (F.PWR_DIPLAST_RAIL, rail.val), (F.PWR_DIPLAST_MIN, mn),
      (F.PWR_DIPLAST_DUR, d)]).raise Ev.BROWNOUT_WARN [rail.val, mn, d])

/-! ## What a reset keeps -/

/-- Write the cause of a reset of the management controller. -/
def State.cause (s : State) (code rail : Nat) : State :=
  (s.setF F.PWR_RSTCAUSE_CAUSE code).setF F.PWR_RSTCAUSE_RAIL rail

/-- Fields that fuses or NVM hold, which no reset moves (Table 20-3, R504, R531, R575, R582). -/
def lasting : List Fld :=
  [F.PWR_PCC_COUNT, F.PWR_OPTIME_OPTIME, F.NVS_GEN_GEN, F.SEC_CMDSEQ_CSEQ,
   F.REC_SEQ_SEQ, F.REC_NEXT_OFS, F.REC_OLDEST_OFS, F.REC_FFZEND_OFS, F.REC_STAT_FFZFULL, F.ECC_SRRES_USED]

/-- Put the fields of a list back as another state holds them. -/
def State.keepF (s old : State) (l : List Fld) : State := l.foldl (fun t x => t.setF x (old.f x)) s

/-- Flash bytes of an operation that a power-on reset cuts short are free (log 61). -/
def State.flashCut (s : State) : State :=
  match s.fl with
  | some j => match j.data with
    | some d => let w := s.draw (8 * d.length); w.2.putFlash j.addr (leBytes d.length w.1.toNat)
    | none => s
  | none => s

/-- Spares in use by the soft-repair table, applied in table order (R344). -/
def srSpares (l : List SoftRepair) : NMap Nat :=
  l.foldl (fun m e => mput 0 m (subKey e.cls e.unit e.sub) (Nat.lor (mget 0 m (subKey e.cls e.unit e.sub)) (2 ^ e.spare))) []

/-- Power-on reset (R488, Table 20-3): everything but fuses, NVM, the board and what an observer has seen. -/
def State.powerOn (s0 : State) (code rail : Nat) : State :=
  let s := s0.flashCut
  let t : State := { State.reset with
    pending := s.pending
    free := s.free
    out := s.out
    fuse := s.fuse
    board := s.board
    tap := s.tap
    rcd := { s.rcd with staged := [], lastRec := none, nonceOk := false, clearing := none }
    nvs := { State.reset.nvs with copies := s.nvs.copies, patch := s.nvs.patch, locked := s.nvs.locked }
    rin := { s.rin.start with fofs := 0 }
    mem := { Memory.reset with sr := s.mem.sr, spares := srSpares s.mem.sr }
    pwr := { Power.reset with perst := s.pwr.perst } }
  (((t.fuseShafts.showUtc.keepF s (F.PWR_STAT_RAILOK :: lasting)).setF F.CFG_BOOT_BOOTSEL s.board.bootsel).cause code rail).incF F.PWR_PCC_COUNT

/-- Rails whose loss is a power-on reset (Table 20-1). -/
def coreRail (r : Nat) : Bool := r == 0 || r == 2 || r == 3 || r == 4

/-- POR_N (R488): the pin is low, or a core rail is declared below reset. -/
def execPorN (rail : Option (Fin 11)) (s : State) : Host.Outcome State Fault Refusal :=
  match rail with
  | none => ok (s.powerOn 1 0)
  | some r => onlyIf (coreRail r.val = true) s (((s.powerOn 2 r.val).setF (railBit r.val) 0).setF (F.PWR_RAIL_RST r.val) 1)

/-! ## System reset (R490, R491) -/

/-- Registers a system reset returns to their reset values (Table 20-3): those of DEV, EVT, REC, NVS, FH, SDS, DDR, MEM, ECC, VL,
the sequencers, the queue controllers, RPL and SEC. -/
def sysReach (off : Nat) : Bool :=
  let b := off / 0x10000
  b == 0 || (decide (4 ≤ b) && decide (b ≤ 6)) || (decide (0xA ≤ b) && decide (b < 0x14)) || (decide (0x20 ≤ b) && decide (b < 0x40))
    || b == 0x50 || b == 0x60

/-- Dirty lines of the shared cache. -/
def State.dirtyLines (s : State) : Nat := (s.mem.lines.filter (fun e => e.2.dirty)).length

/-- Dirty lines are lost, and a record carries their count (R491, R501). -/
def State.loseLines (s : State) : State :=
  if s.dirtyLines = 0 then s else s.blockRecord .warning 0x404 0 [BitVec.ofNat 32 s.dirtyLines]

/-- The cache holds nothing. -/
def State.emptyCache (s : State) : State := s.modMem (fun m => { m with
  lines := [], words := m.words.filter (fun e => decide (e.1 < 2 ^ 25)), marks := m.marks.filter (fun e => decide (e.1 < 2 ^ 25)) })

/-- What the memory layer's ports and engines hold in flight. -/
def State.emptyPorts (s : State) : State := s.modMem (fun m => { m with
  ports := [], rot := [], cyc := [], wbq := [], writes := [], host := [], clears := [], borrow := [], srPend := [],
  brw := { due := [], late := [], pos := [], seen := [], passed := 0 } })

/-- A load in progress is over: rejected with a reason, and no attempt list runs. -/
def State.dropLoad (s : State) (reason info : Nat) : State :=
  match s.ld with
  | some l =>
    let t := (((s.setF F.CFG_STATUS_STAGE stFailed).setF F.CFG_STATUS_REASON reason).setReg Rg.CFG_ERRINFO
      (BitVec.ofNat 32 info)).setReg Rg.CFG_ERRWORD (BitVec.ofNat 32 l.pos)
    ({ t with ld := none, heldStart := 0 } : State).raise Ev.CFG_REJECT (l.src ++ [reason, info, l.pos])
  | none => s

/-- The fabric after its reset: planes, flop banks, coefficient RAM, horn blocks and shafts; stored slots and program memory
keep their content. -/
def State.resetFabric (s : State) : State :=
  { (s.resetSeqs.releaseStores) with
    fab := { Fabric.reset with slots := s.fab.slots, slotErr := s.fab.slotErr, pgm := s.fab.pgm, pgmErr := s.fab.pgmErr, pgmWb := s.fab.pgmWb, slotWb := s.fab.slotWb, io := s.fab.io } }

/-- Occurrences still on their way to the event cycle go to the recorder before the event controller resets. -/
def State.recordWaiting (s : State) : State :=
  s.evt.info.foldl (fun t e => e.2.wait.foldl (fun u o => if u.recorded o then u.occRecord o else u) t) s

/-- A system reset waits for the staging FIFO to drain before the REC block resets; where NVM may not be written in that time, what
is staged is lost with the block (R528, R529, log 77). -/
def State.drainForReset (s : State) : State := if s.nvmOk then s.drainAll else s

/-- What is left before the blocks reset: teardown, fences, flush (R491 steps 1 and 2), and the recorder's FIFO. -/
def State.beforeReset (s : State) (flushed : Bool) : State :=
  let a : State := ((s.askFreeze 7).endReplay.dropLoad rAborted s.ldStage).tearDown
  let b : State := a.fenceAll 0x1FF
  let c : State := if flushed then (b.mem.lines.map (fun e => e.1)).foldl State.cleanLine b else b.loseLines
  c.recordWaiting.drainForReset

/-- Shaft groups that another state holds as failed stay failed (R102). -/
def State.keepFailed (s old : State) : State :=
  (List.range 768).foldl (fun t i =>
    if old.b (F.VL_BG_STAT_FAILED (i / 256) (i % 256)) then t.setF (F.VL_BG_STAT_FAILED (i / 256) (i % 256)) 1 else t) s

/-- The blocks of Table 20-3 reset (R491 step 3). -/
def State.resetBlocks (s : State) : State :=
  let kept := lasting ++ [F.NVS_STAT_BUSY, F.NVS_STAT_COPY, F.NVS_STAT_ITEMS]
  let a : State := ((s.resetFabric.returnWindows.emptyCache.emptyPorts.resetBlock sysReach).takeOwners.fuseShafts.keepF s kept).keepFailed s
  { a with
    dma := []
    evt := { Events.reset with table := a.evt.table, pba := a.evt.pba, fn := a.evt.fn }
    rcd := { a.rcd with nonceOk := false, staged := [], clearing := none }
    rpl := Replay.reset
    vl := { a.vl with retry := [], bond := [], groups := a.vl.groups.filterMap (fun e =>
      if e.2.failed then some (e.1, { vlGroup0 with failed := true }) else none) }
    qs := []
    flow := [], flowPast := []
    fh := { upAt := [], act := 0 } }

/-- Write the cause of a system reset; that of the device watchdog's, 0 here, has no code of its own and reads as a free value
(log 62). -/
def State.resetCause (s : State) (code : Nat) : State :=
  if code = 0 then let d := s.draw 8; d.2.cause d.1.toNat 0 else s.cause code 0

/-- A system reset is performed (R491): it resumes start-up at step 4. -/
def State.performReset (s : State) (code : Nat) (flushed : Bool) : State :=
  let a : State := (s.beforeReset flushed).resetBlocks.resetCause code
  let b : State := ((((a.setF F.PWR_STAT_ENTERING 0).setF F.PWR_STAT_WAKING 0).setF F.PWR_STAT_READY 0).setF F.PWR_STAT_RETAINED 0)
  let c : State := if a.pwr.byTrip then b else b.setF F.PWR_STAT_STATE 0
  { c with pwr := { c.pwr with
    mgmtRst := true
    stable := false
    started := false
    bootWait := true
    held := 511
    toHold := 0
    restart := none
    fell := 0
    wdTimes := [] } }

/-- A system reset is asked for: during COMMIT it waits for its end (R383). -/
def State.systemReset (s : State) (code : Nat) (flushed : Bool) : State :=
  if s.ldStage = stCommit then { s with pwr := { s.pwr with pend := s.pwr.pend ++ [.system code flushed] } }
  else s.performReset code flushed

/-- What arrived during COMMIT acts, in the order it came (R383). -/
def State.actPend (s : State) : State :=
  s.pwr.pend.foldl (fun t p => match p with
    | .restart trigger withM => t.askRestart trigger withM
    | .trip die => t.enterTrip die
    | .system code flushed => t.systemReset code flushed) { s with pwr := { s.pwr with pend := [] } }

/-- SRST_N (R488, R491): low for at least 1 µs; `flushed` tells whether the flush ends within its 10 ms. -/
def execSrstN (flushed : Bool) (s : State) : Host.Outcome State Fault Refusal := ok (s.systemReset 3 flushed)

/-! ## PWR_RST (R492, R493) -/

/-- A write of PWR_RST: KEY and exactly one action, or refused with CMDREJ. -/
def State.resetWrite (s : State) (who : Who) (v : Word) (bit : Nat) (act : State → State) : State :=
  s.onBus who Rg.PWR_RST v (fun t =>
    let a := nbits v.toNat 0 3
    if nbits v.toNat 24 8 = 0xA5 ∧ (a = 1 ∨ a = 2 ∨ a = 4) then (if a = 2 ^ bit then act t else t)
    else t.setF F.PWR_STAT_CMDREJ 1)

/-- SYS (R491, R493): a write of PWR_RST. -/
def execSys (who : Who) (v : Word) (flushed : Bool) (s : State) : Host.Outcome State Fault Refusal :=
  ok (s.resetWrite who v 0 (fun t => t.systemReset 4 flushed))

/-- FABRIC (R493, R543): a write of PWR_RST. -/
def execFabric (who : Who) (v : Word) (s : State) : Host.Outcome State Fault Refusal :=
  ok (s.resetWrite who v 1 (fun t => t.askRestart byFabric false))

/-- A management reset starts; the firmware comes back with PWR_BOOT (R492). -/
def State.mgmtReset (s : State) (code : Nat) : State :=
  let t := s.cause code 0
  { t with pwr := { t.pwr with mgmtRst := true } }

/-- MGMT (R492, R493): a write of PWR_RST. -/
def execMgmt (who : Who) (v : Word) (s : State) : Host.Outcome State Fault Refusal :=
  ok (s.resetWrite who v 2 (fun t => t.mgmtReset 6))

/-- Operating time in whole seconds, `sec` of them into the present unit of PWR_OPTIME. -/
def State.opSeconds (s : State) (sec : Nat) : Nat := s.f F.PWR_OPTIME_OPTIME * 225 / 16 + sec

/-- Times within the last 3,600 s. -/
def recent (now : Nat) (l : List Nat) : List Nat := l.filter (fun x => decide (now < x + 3600))

/-- MGMT_WDOG (R540): `sec` seconds into the present unit of operating time; the fourth expiry within 3,600 s causes a system
reset in place of a management reset. -/
def execMgmtWdog (sec : Fin 15) (flushed : Bool) (s : State) : Host.Outcome State Fault Refusal :=
  let now := s.opSeconds sec.val
  let l := now :: recent now s.pwr.mwTimes
  let t : State := { s with pwr := { s.pwr with mwTimes := l.take 4 } }
  let u := t.raise Ev.MGMT_WDOG [l.length]
  onlyIf (s.pwr.booted = true ∧ s.pwr.mgmtRst = false) s (if 4 ≤ l.length then u.systemReset 5 flushed else u.mgmtReset 5)

/-! ## Start-up (R495 to R497, R573) -/

/-- A register has settings fields. -/
def hasSettings (off : Nat) : Bool := nvsMask off != 0

/-- The newer valid settings copy and its number; the copies held are the valid ones (R573). -/
def State.newerCopy (s : State) : Option (Fin 2 × NvsCopy) :=
  match s.nvs.copies.get 0, s.nvs.copies.get 1 with
  | some a, some b => if a.gen < b.gen then some (1, b) else some (0, a)
  | some a, none => some (0, a)
  | none, some b => some (1, b)
  | none, none => none

/-- Items as settings fields: an item for no settings field is ignored. -/
def NvsCopy.fields (c : NvsCopy) : NMap Word :=
  c.items.foldl (fun m e => if hasSettings e.1 then mput (shipped e.1) m e.1 (e.2 &&& nvsMask e.1) else m) []

/-- SETTINGS_LOAD (R573): every settings field takes its shipped value, then the items apply. Shadows equal the live fields. -/
def State.loadSettings (s : State) : State :=
  let put (t : State) (m : NMap Word) : State :=
    m.foldl (fun u e => u.setReg e.1 ((u.reg e.1 &&& ~~~nvsMask e.1) ||| e.2)) t
  match s.newerCopy with
  | some (n, c) =>
    let t := (put s c.fields).takeOwners
    ((({ t with nvs := { t.nvs with shadow := c.fields, boot := c.fields } } : State).setF F.NVS_STAT_COPY n.val).setF F.NVS_STAT_ITEMS
      c.items.length).setF F.NVS_GEN_GEN c.gen
  | none =>
    (({ s with nvs := { s.nvs with shadow := [], boot := [] } } : State).setF F.NVS_STAT_DEFAULTS 1).raise Ev.NVS_DEFAULTS
      [s.f F.NVS_GEN_GEN]

/-- PWR_BOOT (R495 step 3, R505): the firmware runs. After a power-on reset the settings load; after a management or system reset
only its firmware comes back. -/
def execPwrBoot (s : State) : Host.Outcome State Fault Refusal :=
  let back : State := { s with pwr := { s.pwr with mgmtRst := false } }
  let t : State := back.wdAround State.loadSettings
  let u : State := { t with pwr := { t.pwr with booted := true } }
  onlyIf (s.pwr.fosc = true ∧ (s.pwr.booted = false ∨ s.pwr.mgmtRst = true)) s
    (if s.pwr.booted then back.stableNow
     else (u.raise Ev.PWR_BOOT [(s.reg Rg.PWR_RSTCAUSE).toNat]).stableNow)

/-- The clocks of the air-time family may leave their fallback, and the stack has its rails (R495 step 5, R496). -/
def State.mayStart (s : State) : Bool :=
  s.pwr.stable && !s.pwr.started && !s.pwr.byTrip && s.b (loopFld 6 2) && s.b (loopFld 1 2) && s.b (loopFld 2 2) && s.stackRails

/-- The air-time family moves to FAB_PLL and MEM_PLL at start-up; a family that already runs stays where it is. -/
def State.startFamily (s : State) : State :=
  let t := if s.tl.running then s else family.foldl (fun t d => t.rampTo d srcPrimary (primaryClk d)) s
  ({ t with tl := { t.tl with running := true } } : State).loadCopies

/-- M starts after it has had no power: banks clear, the cache is invalid, queues are freed, repairs apply (R287, R344, R502). -/
def State.startM (s : State) : State :=
  let t := (s.emptyPorts.modMem (fun m => { m with words := [], marks := [], lines := [], spares := srSpares m.sr })).resetBlock
    (fun off => dieOf off == some 0)
  { t.takeOwners with qs := [] }

/-- The power-up lane test starts (R358). -/
def State.startLaneTest (s : State) : State := (s.setF F.VL_TEST_RUNNING 1).setF F.VL_TEST_DONE 0

/-- STACK_START (R495 step 5). -/
def execStackStart (s : State) : Host.Outcome State Fault Refusal :=
  let a : State := s.startFamily
  let b : State := if nbits s.pwr.dark 0 1 = 1 then a.startM else a.modMem (fun m => { m with lines := [], spares := srSpares m.sr })
  let c : State := { (b.startLaneTest).clearCoefs with pwr := { b.pwr with started := true, held := 0, dark := 0, fell := 0 } }
  let d : State := (List.range 9).foldl State.browseStart c
  onlyIf (s.mayStart = true) s d.autoRelease

/-- OPTIME_STORE (R525): one unit of operating time more; expiries older than 3,600 s leave WIN. -/
def execOptimeStore (s : State) : Host.Outcome State Fault Refusal :=
  let t := s.incF F.PWR_OPTIME_OPTIME
  let l := recent (t.opSeconds 0) t.pwr.wdTimes
  ok (({ t with pwr := { t.pwr with wdTimes := l } } : State).setF F.DEV_WDSTAT_WIN l.length)

/-! ## Low-power states (R498 to R503) -/

/-- An ENTER is refused (R499). -/
def State.enterRefused (s : State) : Bool :=
  let target := s.f F.PWR_CMD_TARGET
  (target != 1 && target != 2) || decide (target ≤ s.f F.PWR_STAT_STATE) || s.loading || s.b F.CFG_FLCMD_BUSY
    || s.b F.CFG_RBSTAT_BUSY || s.b F.PWR_STAT_ENTERING || s.b F.PWR_STAT_WAKING

/-- Dies an entry fences and holds: M for TKONLY. -/
def entryDies (target : Nat) : Nat := aboveM + if target = 2 then 1 else 0

/-- Of some dies, those not in a mask. -/
def without (a b : Nat) : Nat := Nat.xor a (Nat.land a b)

/-- An accepted ENTER: teardown, and the fences that precede the hold (R499). -/
def State.startEntry (s : State) : State :=
  let target := s.f F.PWR_CMD_TARGET
  let dies := entryDies target
  s.wdAround (fun s =>
    let a : State := ((s.setF F.PWR_STAT_ENTERING 1).setF F.PWR_STAT_READY 0).tearDown
    let b : State := { a with pwr := { a.pwr with
      target := target
      retain := a.b F.PWR_CMD_RETAIN
      toHold := Nat.lor a.pwr.toHold (without dies a.pwr.held) } }
    (b.fenceAll dies).holdDrained)

/-- ENTER (R499): a write of PWR_CMD. -/
def execEnter (who : Who) (v : Word) (s : State) : Host.Outcome State Fault Refusal :=
  ok (s.onBus who Rg.PWR_CMD v (fun t =>
    if nbits v.toNat 30 2 ≠ 1 then t
    else if t.enterRefused then t.setF F.PWR_STAT_CMDREJ 1
    else t.startEntry))

/-- LPDDR6 enters self-refresh with the cache flushed (R499 step 2). -/
def State.retainDram (s : State) : State :=
  let t := (s.mem.lines.map (fun e => e.1)).foldl State.cleanLine s
  ((List.range t.dramChannels).foldl (fun u n => u.setF (F.DDR_CH_STAT_SELFREF n) 1) t).setF F.PWR_STAT_RETAINED 1

/-- The state reached: its dies are held, READY. -/
def State.reached (s : State) (target : Nat) : State :=
  s.wdAround (fun t => ((((t.setF F.PWR_STAT_STATE (max target (t.f F.PWR_STAT_STATE))).setF F.PWR_STAT_ENTERING 0).setF
    F.PWR_STAT_WAKING 0).setF F.PWR_STAT_READY 1).raise Ev.PWR_READY [max target (t.f F.PWR_STAT_STATE)])

/-- PWR_READY (R499 step 3): every die of the entry is held in reset. -/
def execPwrReady (s : State) : Host.Outcome State Fault Refusal :=
  onlyIf (s.b F.PWR_STAT_ENTERING = true ∧ s.pwr.toHold = 0) s
    ((if s.pwr.target = 2 ∧ s.pwr.retain = true then s.retainDram else s).reached s.pwr.target)

/-- A wake starts (R502): what has its rail back has power. -/
def State.startWake (s : State) : State :=
  let t := (s.setF F.PWR_STAT_WAKING 1).setF F.PWR_STAT_READY 0
  { t with pwr := { t.pwr with dark := t.unpowered, fell := 0, woken := 0 } }

/-- EXIT (R502): a write of PWR_CMD. -/
def execExit (who : Who) (v : Word) (s : State) : Host.Outcome State Fault Refusal :=
  ok (s.onBus who Rg.PWR_CMD v (fun t =>
    if nbits v.toNat 30 2 = 2 ∧ t.b F.PWR_STAT_READY = true then t.startWake else t))

/-- Every rail that was removed is above its reset level again. -/
def State.railsBack (s : State) : Bool := (List.range 11).all (fun r => nbits s.pwr.fell r 1 == 0 || s.railOk r)

/-- WAKE (R502): the rails that were removed have been above their reset levels, in order, for 1 ms. -/
def execWake (s : State) : Host.Outcome State Fault Refusal :=
  onlyIf (s.b F.PWR_STAT_READY = true ∧ s.pwr.fell ≠ 0 ∧ s.stackRails = true ∧ s.railsBack = true) s s.startWake

/-- A wake may end: power, and after a trip two samples of every die, none above B3, LATCHED clear (R502 step 3). -/
def State.mayWake (s : State) : Bool :=
  s.b F.PWR_STAT_WAKING && s.stackRails
    && (!s.pwr.byTrip || (decide (2 ≤ s.pwr.woken) && s.allCool && !s.b F.THERM_STAT_LATCHED))

/-- C1 to L4 start anew: what Table 20-6 says is lost is gone (R502 step 2). -/
def State.startStack (s : State) : State :=
  let a : State := s.releaseStores.resetBlock (fun off => decide (0x100000 ≤ off ∧ off < 0x140000))
  let b : State := { a with
    fab := { Fabric.reset with lanes := a.fab.lanes }
    seqs := Vector.replicate 4 Seq.reset
    flags := Vector.replicate 16 { set := false, due := none } }
  b.startLaneTest

/-- LPDDR6 leaves self-refresh and retrains (R502 step 1). -/
def State.leaveSelfRefresh (s : State) : State :=
  if s.b F.PWR_STAT_RETAINED then
    let t := ((List.range s.dramChannels).foldl (fun u n => u.setF (F.DDR_CH_STAT_SELFREF n) 0) s).setF F.PWR_STAT_RETAINED 0
    { t with thm := { t.thm with ddrPend := (List.range s.dramChannels).foldl (fun m n =>
        if s.b (F.DDR_CH_STAT_TRAINED n) then m + 2 ^ n else m) 0 } }
  else s

/-- PWR_WAKE (R502): the wake's steps end and the configuration controller boots. -/
def execPwrWake (s : State) : Host.Outcome State Fault Refusal :=
  let a : State := if nbits s.pwr.held 0 1 = 1 then s.startM.leaveSelfRefresh else s
  let b : State := (a.startStack.setF F.PWR_STAT_STATE 0).setF F.PWR_STAT_WAKING 0
  let c : State := if s.pwr.byTrip then b.setF F.THERM_STAT_TRIPPED 0 else b
  let d : State := { c with pwr := { c.pwr with
    held := 0
    dark := 0
    toHold := 0
    byTrip := false
    loadAfter := false
    bootWait := true } }
  let e : State := (List.range 9).foldl (fun t i => if nbits s.pwr.held i 1 = 1 then t.browseStart i else t) d
  onlyIf (s.mayWake = true) s (e.raise Ev.PWR_WAKE [0])

/-! ## A rail falls below its reset level, or rises above it (R480, R482, R487, R501) -/

/-- Low-power state whose rails include a stack rail (Table 20-6). -/
def railState (r : Nat) : Nat := if r = 8 then 2 else 1

/-- Dies lose their power at once: in-flight requests of their ports are gone, their fences read RESET, a snapshot and a readback
that use them end. -/
def State.blackout (s : State) (dies : Nat) : State :=
  let t := (List.range 9).foldl (fun t d =>
    if nbits dies d 1 = 1 then
      (((t.setF ⟨Rg.VL_FENSTAT, 2 * d, 2⟩ 2).fenceSnapshot d).fenceReadback d).browseStop d
    else t) s
  t.modMem (fun m => { m with
    ports := m.ports.filter (fun e => nbits dies (layerDie (portLayer e.1)) 1 == 0)
    drainEnd := (List.range 9).foldl (fun p d => if nbits dies d 1 = 1 then mput 0 p d s.tl.fc else p) m.drainEnd })

/-- An unplanned entry (R501): teardown and hold at once, with no fence and no flush. -/
def State.unplanned (s : State) (r : Nat) : State :=
  let dies := railAndAbove r
  s.wdAround (fun s =>
    let a : State := ((s.dropLoad rLinkfail 0).tearDown).blackout dies
    let b : State := if r = 8 then (a.loseLines).emptyCache else a
    let c : State := { b with pwr := { b.pwr with
      held := Nat.lor b.pwr.held dies
      dark := Nat.lor b.pwr.dark (railDies r)
      toHold := without b.pwr.toHold dies
      fell := Nat.lor b.pwr.fell (2 ^ r)
      restart := none } }
    (c.reached (railState r)).actPend)

/-- A rail that may be removed is removed: its dies have no power, and what they held is gone. -/
def State.removed (s : State) (r : Nat) : State :=
  let a : State := if s.fab.torn then s else s.tearDown
  let b : State := (List.range 9).foldl (fun t d => if nbits (railDies r) d 1 = 1 then t.browseStop d else t) a
  { b with pwr := { b.pwr with dark := Nat.lor b.pwr.dark (railDies r), fell := Nat.lor b.pwr.fell (2 ^ r) } }

/-- The effect of a stack rail's loss. -/
def State.stackRailLost (s : State) (r : Nat) : State :=
  if s.pwr.started = false then { s with pwr := { s.pwr with dark := Nat.lor s.pwr.dark (railDies r) } }
  else if s.b F.PWR_STAT_READY ∧ railState r ≤ s.f F.PWR_STAT_STATE then s.removed r
  else s.unplanned r

/-- SerDes and PCIe lanes stop: every link goes down. -/
def State.serdesLost (s : State) : State :=
  let a := (List.range 32).foldl (fun t p => if t.b (F.FH_PORT_STAT_UP p) then t.linkDown p false else t) s
  let b := (List.range 16).foldl (fun t k => if t.b (F.JESD_LINK_STAT_UP k) then t.jesdDown k else t) a
  b.pcieDown

/-- LPDDR6 loses its contents, and every cache line is invalidated. -/
def State.dramLost (s : State) : State :=
  let t := (s.emptyCache.modMem (fun m => { m with dram := [], dramMarks := [] })).setF F.PWR_STAT_RETAINED 0
  (List.range 16).foldl (fun u n => (u.setF (F.DDR_CH_STAT_TRAINED n) 0).setF (F.DDR_CH_STAT_SELFREF n) 0) t

/-- A group 3 rail falls: where it is one TKONLY lets the integrator remove, the wake waits for it (R500, R502, Table 20-6). -/
def State.groupThree (s : State) (r : Nat) : State :=
  if s.b F.PWR_STAT_READY = true ∧ s.f F.PWR_STAT_STATE = 2 ∧ (r = 7 → s.b F.PWR_STAT_RETAINED = false)
  then { s with pwr := { s.pwr with fell := Nat.lor s.pwr.fell (2 ^ r) } } else s

/-- RAIL_RESET (R487, Table 20-1). -/
def execRailReset (rail : Fin 11) (mv : Nat) (s : State) : Host.Outcome State Fault Refusal :=
  let r := rail.val
  let down (t : State) : State := ((t.railSample r mv).setF (railBit r) 0).setF (F.PWR_RAIL_RST r) 1
  let e := (down s).raise Ev.RAIL_RESET [r, mv]
  onlyIf (s.railOk r = true ∧ mv < (railLevels r).2.2) s
    (if coreRail r then down (s.powerOn 2 r)
     else if r = 1 then e.rinomDown
     else if r = 5 ∨ r = 6 then (e.groupThree r).serdesLost
     else if r = 7 then (e.groupThree r).dramLost
     else e.stackRailLost r)

/-- A stack rail rises out of order: its dies are held (R482). -/
def State.outOfOrder (s : State) (r : Nat) : State :=
  let t := (s.setF F.PWR_STAT_SEQERR 1).raise Ev.PWR_SEQERR [r]
  { t with pwr := { t.pwr with held := Nat.lor t.pwr.held (railDies r) } }

/-- RAIL_ABOVE_RESET (R482): a rail rises above its reset level. A dip that was declared below reset ends with it. -/
def execRailAboveReset (rail : Fin 11) (mv : Nat) (s : State) : Host.Outcome State Fault Refusal :=
  let r := rail.val
  let t := (((s.railSample r mv).setF (railBit r) 1).setF (F.PWR_RAIL_RST r) 0).setF (F.PWR_RAIL_WARN r) 0
  let u : State := if t.b F.PWR_STAT_WAKING then { t with pwr := { t.pwr with dark := t.unpowered } } else t
  onlyIf (s.railOk r = false ∧ (railLevels r).2.2 ≤ mv) s
    (if r = 1 then u.rinomUp else if 8 ≤ r ∧ s.orderBroken r = true then u.outOfOrder r else u)

end Sys2Proof.Machine
end

