-- ==== Sys2Proof/Machine/Commit.lean ====
section
/-!
DEFINITION. Sys2Proof/Machine/Commit.lean: the release of set-reset that ends a commit or a fabric restart (R58, R383, R393, R544),
and what waited for the end of COMMIT.
-/
namespace Sys2Proof.Machine
open Sys2Proof

/-- Every sequencer with AUTOSTART starts at ENTRY (R180). -/
def State.autoStart (s : State) : State :=
  (List.finRange 4).foldl (fun t k => if t.b (F.SEQ_CTL_AUTOSTART k.val) then t.seqStart k else t) s

/-- Regions whose current plane is not VALID are held from the fc of release (R123). -/
def State.holdRegions (s : State) : State :=
  (List.finRange 4).foldl (fun t ly => (List.finRange 8).foldl (fun t j => t.holdAtRelease ly j) t) s

/-- The fc of release of global set-reset: a full load's COMMIT ends, or a restart does; DONE rises and sequencers start. -/
def State.releaseGsr (s : State) : State :=
  let a : State := { s with fab := { s.fab with gsr := false, relAt := none } }
  let b : State := match a.ld with
    | some l => if a.ldStage = stCommit then { a.commitEnd l with fab := { (a.commitEnd l).fab with torn := false } } else a
    | none => a
  let c : State := (b.setF F.CFG_STATUS_DONE 1).wdAround (fun t => { t with pwr := { t.pwr with restart := none } })
  c.holdRegions.autoStart.actPend

/-- Global set-reset may be released in the present fc (R58). -/
def State.releaseNow (s : State) : Bool :=
  s.fab.gsr && (match s.fab.relAt with | some a => decide (a ≤ s.tl.fc) | none => false) && s.noRefill

/-- SET_RESET_RELEASE (R58, R383, R544). -/
def execSetResetRelease (s : State) : Host.Outcome State Fault Refusal := onlyIf (s.releaseNow = true) s s.releaseGsr

/-- Regional set-reset may be released: asserted from fc C + 1 to fc C + 16 (R393). -/
def State.regionalNow (s : State) (ly : Fin 4) (j : Fin 8) : Bool :=
  match (s.region ly j).rsr with
  | some f => decide (f + 16 ≤ s.tl.fc)
  | none => false

/-- Regional set-reset is released; the COMMIT of the partial image that asked for it ends. -/
def State.releaseRegion (s : State) (ly : Fin 4) (j : Fin 8) : State :=
  let a : State := s.modRegion ly j (fun r => { r with rsr := none })
  match a.ld with
  | some l =>
    if a.ldStage = stCommit ∧ l.partl = true ∧ l.setReset = true ∧ l.layer = ly.val ∧ l.region = j.val then (a.commitEnd l).actPend else a
  | none => a

/-- REGIONAL_SET_RESET_RELEASE (R393). -/
def execRegionalSetResetRelease (layer : Fin 4) (region : Fin 8) (s : State) : Host.Outcome State Fault Refusal :=
  onlyIf (s.regionalNow layer region = true) s (s.releaseRegion layer region)

end Sys2Proof.Machine
end

