-- ==== Sys2Proof/Machine/Readback.lean ====
section
/-!
DEFINITION. Sys2Proof/Machine/Readback.lean: readback and restore of frames (R396 to R401) and the host's capture arm
(R402, R403).
-/
namespace Sys2Proof.Machine
open Sys2Proof

/-! ## Readback frames (R396, Table 15-1) -/

/-- Bytes of the readback frame at an address; none: no such frame. -/
def rbLen (far : Nat) : Option Nat :=
  let c := farCol far
  if far < 2 ^ 32 ∧ farKind far = 7 then
    if (farSlot far).val ≠ 0 then none
    else match farMinor far with
      | 0 => some 128
      | 1 => if c = 0 then some 768 else none
      | 2 => if c < 32 then some 4096 else none
      | 3 => some 128
      | 4 => if c = 0 then some 768 else none
      | _ => none
  else frameLen far

/-- The address after a readback frame's. -/
def rbNext (far : Nat) : Nat :=
  if farKind far = 7 then
    let last := match farMinor far with
      | 0 => 63
      | 2 => 31
      | 3 => 63
      | _ => 0
    if farCol far < last then far + 2 ^ 13
    else if nbits far 19 6 < 63 then far - farCol far * 2 ^ 13 + 2 ^ 19 else 2 ^ 32 + far
  else frameNext far

/-- What a frame's read found: the number its bytes spell, whether a word was corrected, the byte offset of the first
uncorrectable word, and the state after the reads. -/
structure FrameRead where
  data : Nat
  corr : Bool
  first : Option Nat
  after : State

/-- Read stored-slot words from a content key on through their code; `at_` is the byte of the frame the first stands at. -/
def State.readSlotPart (s : State) (errs : List (Nat × Ecc)) (key n at_ : Nat) (r : FrameRead) : FrameRead :=
  let ws := (List.range ((key + n + 15) / 16 - key / 16)).map (fun i => key / 16 + i)
  let x := ws.foldl (fun (a : FrameRead) w =>
    let e := a.after.readSlotWord w (mget .clean errs w) false false
    { a with corr := a.corr || e.1 == .corr, after := e.2,
             first := match a.first, e.1 with
               | none, .uncorr => some (at_ + (16 * w - key))
               | f, _ => f }) r
  { x with data := x.data + mnum s.fab.slots key n * 256 ^ at_ }

/-- A frame of kinds 0 to 4: the stored slot. -/
def State.readSlotFrame (s : State) (errs : List (Nat × Ecc)) (far : Nat) : FrameRead :=
  let key (o : Nat) : Nat := ckey (farLayer far) (farTile far) (farSlot far).val o
  let r0 : FrameRead := { data := 0, corr := false, first := none, after := s }
  if farKind far = 0 then
    (List.range 64).foldl (fun r row => r.after.readSlotPart errs (key (tineOff (farCol far) row)) 128 (128 * row) r) r0
  else s.readSlotPart errs (key (routeOff (farKind far) (farMinor far))) ((frameLen far).getD 0) 0 r0

/-- A frame of kind 5: program memory. -/
def State.readPgmFrame (s : State) (errs : List (Nat × Ecc)) (far : Nat) : FrameRead :=
  let k := farLayer far
  (List.range 1024).foldl (fun (a : FrameRead) i =>
    let addr := 1024 * farMinor far + i
    let key := 65536 * k.val + addr
    let e := eccWorse (mget .clean errs key) (mget .clean a.after.fab.pgmErr key)
    let t : State := { a.after with fab := { a.after.fab with pgmErr := mput .clean a.after.fab.pgmErr key e } }
    { data := a.data + s.pgmWord k addr * 2 ^ (64 * i), corr := a.corr || e == .corr,
      first := match a.first, e with
        | none, .uncorr => some (8 * i)
        | f, _ => f,
      after := match e with
        | .clean => a.after
        | .corr => (t.incF (F.SEQ_PMERR_CORR k)).raise (Ev.PGM_CORR k) [addr]
        | .uncorr => (t.incF (F.SEQ_PMERR_UNCORR k)).raise (Ev.PGM_UNCORR k) [addr] })
    { data := 0, corr := false, first := none, after := s }

/-- A coefficient frame (R397). -/
def State.readCoefFrame (s : State) (errs : List (Nat × Ecc)) (far : Nat) : FrameRead :=
  let ly := farLayer far
  let b : Fin 32 := Fin.ofNat 32 (farCol far)
  (List.range 1024).foldl (fun (a : FrameRead) i =>
    let key := coefKey ly (farTile far) b i
    let r := a.after.readCoef ly (farTile far) b i { ecc := mget .clean errs key }
    let w := ((mget none s.fab.coef key).getD 0).toNat
    { data := a.data + w * 2 ^ (32 * i), corr := a.corr || mget .clean r.2.fab.coefErr key == .corr,
      first := match a.first, r.1.2 with
        | none, true => some (4 * i)
        | f, _ => f,
      after := r.2 })
    { data := 0, corr := false, first := none, after := s }

/-- Flop banks of one tine column, as the frame orders them (R397). -/
def flopFrame (flops : NMap (BitVec 16)) (ly : Fin 4) (t : Fin 64) (col : Nat) : Nat :=
  (List.range 64).foldl (fun n row =>
    n + (mget 0 flops (2 ^ 18 * ly.val + 4096 * t.val + tineOff col row / 128)).toNat * 2 ^ (16 * row)) 0

/-- Accumulators of a block as their 24 bytes (R397). -/
def accWords (v : Vector Int 4) : Nat :=
  (List.finRange 4).foldl (fun n i => n + unsgn 48 (v.get i) * 2 ^ (48 * i.val)) 0

/-- A frame of kind 7; what is live is what stands at the end of the present fc (R398). -/
def State.readStateFrame (s : State) (errs : List (Nat × Ecc)) (far : Nat) : FrameRead :=
  let ly := farLayer far
  let t := farTile far
  let plain (x : Nat) : FrameRead := { data := x, corr := false, first := none, after := s }
  match farMinor far with
  | 0 => plain (flopFrame s.nextFlops ly t (farCol far))
  | 1 => plain ((List.finRange 32).foldl (fun n b =>
      n + accWords (mget Horn.reset s.hornEnd (hornKey ly t b)).acc * 2 ^ (192 * b.val)) 0)
  | 2 => s.readCoefFrame errs far
  | 3 => plain (match (s.layer ly).cap with | some c => flopFrame c.flops ly t (farCol far) | none => 0)
  | _ => plain (match (s.layer ly).cap with
      | some c => (List.range 32).foldl (fun n b => n + accWords (mget (Vector.replicate 4 0) c.accs (32 * t.val + b)) * 2 ^ (192 * b)) 0
      | none => 0)

/-- Read one frame. -/
def State.readFrame (s : State) (errs : List (Nat × Ecc)) (far : Nat) : FrameRead :=
  match farKind far with
  | 5 => s.readPgmFrame errs far
  | 6 => { data := mnum s.fab.io (512 * (farLayer far).val + 256 * farMinor far) ((frameLen far).getD 0), corr := false,
           first := none, after := s }
  | 7 => s.readStateFrame errs far
  | _ => s.readSlotFrame errs far

/-- INVALID of a record header (Table 15-2). -/
def State.frameInvalid (s : State) (far : Nat) : Bool :=
  let ly := farLayer far
  let j := s.tileRegion ly (farTile far)
  if farKind far ≤ 4 then !s.b ⟨Rg.CFG_LR_SLOTV ly.val j.val, (farSlot far).val, 1⟩
  else farKind far == 7 && decide (3 ≤ farMinor far)
    && ((s.layer ly).cap.isNone || s.f (F.CFG_CAP_HI_REGION ly.val) != j.val)

/-- The record of a frame in host memory (R399, Table 15-2). -/
def State.frameRecord (s : State) (far : Nat) (r : FrameRead) : List Byte :=
  let n := (rbLen far).getD 0
  let bit (b : Bool) (i : Nat) : Nat := if b then 2 ^ i else 0
  let live := farKind far == 7 && decide (farMinor far ≤ 2)
  let at_ := if farKind far = 7 then (match farMinor far with
      | 0 => s.tl.at34
      | 1 => s.tl.at34
      | 2 => 0
      | _ => s.f (F.CFG_CAP_LO_AT (farLayer far).val)) else 0
  leBytes 4 far ++ leBytes 4 (n + bit r.first.isSome 20 + bit r.corr 21 + bit (s.frameInvalid far) 22 + bit live 23)
    ++ leBytes 4 (r.first.getD 0xFFFFFFFF) ++ leBytes 4 at_ ++ leBytes ((n + 15) / 16 * 16) r.data

/-! ## READ and its frames (R400) -/

/-- The die that holds a frame, and every die below it, are up. -/
def State.pathUp (s : State) (far : Nat) : Bool := (List.range 9).all (fun d => !onPath d far || s.dieUp d)

/-- Host address of the first record. -/
def State.rbAddr (s : State) : Nat := (s.reg Rg.CFG_RBHADDR_HI).toNat * 2 ^ 32 + (s.reg Rg.CFG_RBHADDR_LO).toNat

/-- A command of CFG_RBCMD that starts an operation: ignored while one runs, without effect for no frames. -/
def State.rbCommand (s : State) (v : Word) (op : Nat) (act : State → State) : State :=
  if nbits v.toNat 28 4 ≠ op then s
  else if s.b F.CFG_RBSTAT_BUSY then s.setF F.CFG_RBSTAT_CMDREJ 1
  else if s.f F.CFG_RBCOUNT_COUNT = 0 then s
  else act (s.setF F.CFG_RBSTAT_FRAMES 0)

/-- An operation runs from here on. -/
def State.rbStart (s : State) : State :=
  { s.setF F.CFG_RBSTAT_BUSY 1 with
      rb := some { far := s.f F.CFG_RBFAR_FAR, left := s.f F.CFG_RBCOUNT_COUNT, addr := s.rbAddr } }

/-- READ (R400): frames of kinds 0 to 6 are refused while the part is DEPLOYED. -/
def execRead (who : Who) (v : Word) (s : State) : Host.Outcome State Fault Refusal :=
  ok (s.onBus who Rg.CFG_RBCMD v (fun t => t.rbCommand v 1 (fun u =>
    if farKind (u.f F.CFG_RBFAR_FAR) ≠ 7 ∧ u.fuse.lcs = 2 then u.endReadback 1 else u.rbStart)))

/-- Words of a frame turn out wrong in bits their code does not tell of (R322). -/
def State.frameWrong (s : State) (far : Nat) (errs : List (Nat × Flaw)) : State :=
  match farKind far with
  | 5 => errs.foldl (fun t e => if e.2.wrong % 2 ^ 64 = 0 then t
      else t.putPgm e.1 (Nat.xor (mget (pgmDefault e.1) t.fab.pgm e.1).toNat (e.2.wrong % 2 ^ 64))) s
  | 6 => s
  | 7 => errs.foldl (fun t e => match mget none t.fab.coef e.1 with
      | some w => t.foundCoef e.1 (w ^^^ BitVec.ofNat 32 e.2.wrong) (mget .clean t.fab.coefErr e.1)
      | none => t) s
  | _ => s.slotWrong errs

/-- Words of a frame, as the code marks of a read are keyed: the program words, coefficients or stored words it covers. -/
def inFrame (far key : Nat) : Bool :=
  match farKind far with
  | 5 => decide (key / 1024 = 64 * (farLayer far).val + farMinor far)
  | 6 => false
  | 7 => decide (farMinor far = 2 ∧ key / 1024 = hornKey (farLayer far) (farTile far) (Fin.ofNat 32 (farCol far)))
  | 0 => decide (key / 2 ^ 16 = ((farLayer far).val * 64 + (farTile far).val) * 32 + (farSlot far).val)
      && (List.range 64).any (fun row => key % 2 ^ 16 / 8 == tineOff (farCol far) row / 128)
  | k => decide (key / 2 ^ 16 = ((farLayer far).val * 64 + (farTile far).val) * 32 + (farSlot far).val
      ∧ routeOff k (farMinor far) / 16 ≤ key % 2 ^ 16 ∧ key % 2 ^ 16 < (routeOff k (farMinor far) + (frameLen far).getD 0 + 15) / 16)

/-- A frame is read through stored-slot ports: those of slots, and of live flop banks and accumulators (R124, R398). -/
def slotPorts (far : Nat) : Bool := decide (farKind far ≤ 4) || (farKind far == 7 && decide (farMinor far ≤ 1))

/-- A frame that is read through stored-slot ports takes those of its tile in the present fc. -/
def State.takeFrame (s : State) (far : Nat) : State := if slotPorts far then s.useTile (farLayer far) (farTile far) else s

/-- A frame may be read in the present fc (R124, R398): the stored-slot ports of its tile are free for a frame of a slot or of flop
banks or accumulators; a coefficient RAM is neither read nor written; program memory, settings and captures wait for no port. -/
def State.frameReady (s : State) (far : Nat) : Bool :=
  let ly := farLayer far
  let t := farTile far
  if slotPorts far then s.tileFree ly t
  else if farKind far = 7 ∧ farMinor far = 2 then
    let b : Fin 32 := Fin.ofNat 32 (farCol far)
    !s.readsPair ly t b && !(s.fab.coefOld.any (fun e => e.1 / 1024 == hornKey ly t b))
  else true

/-- READBACK_FRAME (R398, R399): the next frame of a readback whose address is allowed and whose path is up is read, in an fc
that is free for it, and written to host memory. -/
def execReadbackFrame (errs : List (Nat × Flaw)) (s : State) : Host.Outcome State Fault Refusal :=
  match s.rb with
  | none => ok s
  | some r =>
    let mine := errs.filter (fun e => inFrame r.far e.1)
    if r.left = 0 then ok s
    else if (rbLen r.far).isNone then ok (s.endReadback 2)
    else if s.pathUp r.far = false then ok (s.endReadback 4)
    else onlyIf (s.frameReady r.far = true) s
      (let x := ((s.frameWrong r.far mine).takeFrame r.far).readFrame (codes mine) r.far
       let rec_ := s.frameRecord r.far x
       let t : State := { x.after with rb := some { far := rbNext r.far, left := r.left - 1, addr := r.addr + rec_.length } }
       (t.emit (.hostWrite r.addr rec_ false)).incF F.CFG_RBSTAT_FRAMES)

/-- READBACK_ABORT (R400): a frame is read whole, so none is in progress. -/
def execReadbackAbort (who : Who) (v : Word) (s : State) : Host.Outcome State Fault Refusal :=
  ok (s.onBus who Rg.CFG_RBCMD v (fun t =>
    if nbits v.toNat 28 4 = 3 ∧ t.b F.CFG_RBSTAT_BUSY = true then t.endReadback 4 else t))

/-- CFG_RB_DONE (R400): every frame has been done. -/
def execCfgRbDone (s : State) : Host.Outcome State Fault Refusal :=
  match s.rb with
  | none => ok s
  | some r => onlyIf (r.left = 0) s (s.endReadback 0)

/-! ## RESTORE (R401) -/

/-- Flop banks of one tine column written from a frame. -/
def State.putFlops (s : State) (far x : Nat) : State :=
  let key (row : Nat) : Nat := 2 ^ 18 * (farLayer far).val + 4096 * (farTile far).val + tineOff (farCol far) row / 128
  { s with fab := { s.fab with flops := (List.range 64).foldl (fun m row =>
      mput 0 m (key row) (BitVec.ofNat 16 (x / 2 ^ (16 * row)))) s.fab.flops } }

/-- Accumulators of a tile written from a frame. -/
def State.putAccs (s : State) (far x : Nat) : State :=
  { s with fab := { s.fab with horn := (List.finRange 32).foldl (fun m b =>
      let k := hornKey (farLayer far) (farTile far) b
      mput Horn.reset m k { mget Horn.reset m k with
        acc := Vector.ofFn (fun i : Fin 4 => sgn 48 (x / 2 ^ (192 * b.val + 48 * i.val))) }) s.fab.horn } }

/-- Coefficient RAM of a block written from a frame, every word valid and with a fresh code. -/
def State.putCoefs (s : State) (far x : Nat) : State :=
  let key (i : Nat) : Nat := coefKey (farLayer far) (farTile far) (Fin.ofNat 32 (farCol far)) i
  (List.range 1024).foldl (fun t i => t.writeCoef (key i) (some (BitVec.ofNat 32 (x / 2 ^ (32 * i)))) .clean) s

/-- One restored frame. -/
def State.putState (s : State) (far x : Nat) : State :=
  match farMinor far with
  | 0 => s.putFlops far x
  | 1 => s.putAccs far x
  | _ => s.putCoefs far x

/-- Restore frames from the records that host memory returned, until one may not be; bytes that do not come are an aborted
completion. -/
def State.restoreFrames (s : State) (bad : List Nat) : Nat → Nat → Nat → List Byte → State
  | 0, far, _, _ => { s with rb := some { far := far, left := 0, addr := 0 } }
  | n + 1, far, pos, bytes =>
    match (if farKind far = 7 ∧ farMinor far ≤ 2 then rbLen far else none) with
    | none => s.endReadback 2
    | some len =>
      let size := 16 + (len + 15) / 16 * 16
      if bytes.length < size then s.endReadback 3
      else if bad.any (fun w => decide (pos ≤ 8 * w ∧ 8 * w < pos + size)) then s.endReadback 3
      else if leNat (bytes.take 4) ≠ far then s.endReadback 5
      else restoreFrames ((s.putState far (leNat ((bytes.drop 16).take len))).incF F.CFG_RBSTAT_FRAMES) bad n (rbNext far)
        (pos + size) (bytes.drop size)

/-- RESTORE (R401): in replay mode, with the sequencer of the layer it addresses STOPPED, the frames that the host returns are
written back; CFG_RB_DONE ends it where none stopped it. -/
def execRestore (who : Who) (v : Word) (r : HostRead) (s : State) : Host.Outcome State Fault Refusal :=
  ok (s.onBus who Rg.CFG_RBCMD v (fun t => t.rbCommand v 2 (fun u =>
    let far := u.f F.CFG_RBFAR_FAR
    if u.f F.RPL_STAT_MODE < 2 ∨ (u.seq (farLayer far)).mode ≠ .stopped then u.endReadback 1
    else State.restoreFrames (u.setF F.CFG_RBSTAT_BUSY 1) r.poisoned (u.f F.CFG_RBCOUNT_COUNT) far 0 r.bytes)))

/-! ## The host's capture arm (R402, R403) -/

/-- The target of CFG_CAPAT. -/
def State.capTarget (s : State) : Nat :=
  s.f F.CFG_CAPAT_LO_AT + s.f F.CFG_CAPAT_HI_ATH * 2 ^ 32 + s.f F.CFG_CAPAT_HI_HF * 2 ^ 34

/-- Release the stores a mask names. -/
def State.releaseMask (s : State) (mask : Nat) : State :=
  (List.finRange 4).foldl (fun t k =>
    if nbits mask k.val 1 = 1 then (t.setLayer k { t.layer k with cap := none }).setF ⟨Rg.CFG_CAPSTAT, k.val, 1⟩ 0 else t) s

/-- No arm is pending. -/
def State.disarm (s : State) : State := { s.setF F.CFG_CAPSTAT_ARMED 0 with arm := none }

/-- An arm is judged, and refused or pending. -/
def State.armCapture (s : State) (v : Nat) : State :=
  let ly : Fin 4 := Fin.ofNat 4 (nbits v 28 2)
  let d := distance s.capTarget s.progTime
  if s.tl.released = false ∨ s.arm.isSome ∨ L ≤ s.capTarget % 2 ^ 34 ∨ d < 1 ∨ (L : Int) < d ∨ (s.layer ly).cap.isSome then
    s.setF F.CFG_CAPSTAT_ARMERR 1
  else { s.setF F.CFG_CAPSTAT_ARMED 1 with
           arm := some { layer := ly, region := Fin.ofNat 8 (nbits v 25 3), horn := nbits v 24 1 == 1, due := s.tl.fc + d.toNat } }

/-- A write of CFG_CAPCTL acts: RELEASE, then DISARM, then ARM. -/
def State.capWrite (s : State) (v : Nat) : State :=
  let t := s.releaseMask (nbits v 0 4)
  let u := if nbits v 30 1 = 1 then t.disarm else t
  if nbits v 31 1 = 1 then u.armCapture v else u

/-- ARM (R402). -/
def execArm (who : Who) (v : Word) (s : State) : Host.Outcome State Fault Refusal :=
  ok (s.onBus who Rg.CFG_CAPCTL v (fun t => if v.getLsbD 31 then t.capWrite v.toNat else t))

/-- DISARM (R402). -/
def execDisarm (who : Who) (v : Word) (s : State) : Host.Outcome State Fault Refusal :=
  ok (s.onBus who Rg.CFG_CAPCTL v (fun t => if v.getLsbD 30 then t.capWrite v.toNat else t))

/-- CAPTURE_RELEASE (R403). -/
def execCaptureRelease (who : Who) (v : Word) (s : State) : Host.Outcome State Fault Refusal :=
  ok (s.onBus who Rg.CFG_CAPCTL v (fun t => if nbits v.toNat 0 4 ≠ 0 then t.capWrite v.toNat else t))

/-- ARM_TARGET (R402): in its target fc an arm acts as a CAPTURE; one that meets a CAPTURE of the same fc, or finds the store
held, is missed. -/
def execArmTarget (s : State) : Host.Outcome State Fault Refusal :=
  match s.arm with
  | none => ok s
  | some a => onlyIf (a.due ≤ s.tl.fc) s
      (let t := s.disarm
       if t.regionTiles a.layer a.region = [] then t
       else if (t.layer a.layer).cap.isSome ∨ (t.layer a.layer).capReq.isSome then t.captureMissed a.layer.val a.region.val
       else t.setLayer a.layer { t.layer a.layer with capReq := some { region := a.region, horn := a.horn, host := true } })

end Sys2Proof.Machine
end

