-- ==== Sys2Proof/Machine/Replaying.lean ====
section
/-!
DEFINITION. Sys2Proof/Machine/Replaying.lean: capture and its freeze, snapshot copies, and replay (chapter 24).
-/
namespace Sys2Proof.Machine
open Sys2Proof

/-! ## Capture (R556 to R558, R567) -/

/-- A write of RPL_CMD with an operation. -/
def State.rplWrite (s : State) (who : Who) (v : Word) (op : Nat) (act : State → State) : State :=
  s.onBus who Rg.RPL_CMD v (fun t => if nbits v.toNat 28 4 = op then act t else t)

/-- A command is ignored. -/
def State.rplReject (s : State) : State := s.setF F.RPL_STAT_CMDREJ 1

/-- A CRC period is one that R567 admits. -/
def periodOk (p : Nat) : Bool := decide (4096 ≤ p) && frameFc % p == 0

/-- START may begin: no other mode runs, the CRC period is admitted, the ring lies in populated DRAM. -/
def State.mayCapture (s : State) : Bool :=
  s.f F.RPL_STAT_MODE == 0 && periodOk (s.f F.RPL_CRCCFG_PERIOD) && decide (1 ≤ s.f F.RPL_RING_SZ) && decide (s.f F.RPL_RING_SZ ≤ 64)
    && decide (s.ringBase + s.ringSize ≤ s.dramSize)

/-- Capture begins: an empty ring, no snapshot. -/
def State.startCapture (s : State) : State :=
  let t := ((((s.setF F.RPL_STAT_MODE 1).setF F.RPL_STAT_FROZEN 0).setF F.RPL_STAT_CAUSE 0).setReg (Rg.RPL_SNAP_HI 0) 0).setReg
    (Rg.RPL_SNAP_HI 1) 0
  { t with rpl := { Replay.reset with image := t.rpl.image } }

/-- START_CAPTURE (R556, R565, R567): a write of RPL_CMD. -/
def execStartCapture (who : Who) (v : Word) (s : State) : Host.Outcome State Fault Refusal :=
  ok (s.rplWrite who v 1 (fun t => if t.mayCapture then t.startCapture else t.rplReject))

/-- RPL_FREEZE (R558): a write of RPL_CMD. -/
def execRplFreeze (who : Who) (v : Word) (s : State) : Host.Outcome State Fault Refusal :=
  ok (s.rplWrite who v 2 (fun t => if t.f F.RPL_STAT_MODE = 1 then t.askFreeze 2 else t.rplReject))

/-- RPL_TRIGGER (R558): an occurrence of RPL_TRIG.SRC starts the delay. -/
def execRplTrigger (s : State) : Host.Outcome State Fault Refusal :=
  match s.rpl.trigAt with
  | some a => ok { s with rpl := { s.rpl with trigAt := none, trigDue := some (a + s.f F.RPL_TRIG_DELAY * 4096) } }
  | none => .next s

/-- Why capture is to end: what asked for it first, or the trigger's delay. -/
def State.freezeCause (s : State) : Option Nat :=
  if s.f F.RPL_STAT_MODE ≠ 1 then none
  else match s.rpl.ask, s.rpl.trigDue with
    | some c, _ => some c
    | none, some d => if d ≤ s.tl.fc then some 1 else none
    | none, none => none

/-- Capture ends: what the fc has recorded goes into the ring, and records that a gap lost stay uncovered. -/
def State.freezeRing (s : State) (cause : Nat) : State :=
  let a : State := s.ringFc
  let b : State := match a.rpl.gap with
    | some (t, _, _) => (List.finRange 2).foldl (fun v x => v.uncover x (fun y => decide (y.time ≤ t))) a
    | none => a
  let c := ((b.setF F.RPL_STAT_FROZEN 1).setF F.RPL_STAT_MODE 0).setF F.RPL_STAT_CAUSE cause
  ({ c with rpl := { c.rpl with ask := none, trigAt := none, trigDue := none, gap := none, fill := 0 } } : State).raise Ev.RPL_FROZEN
    [0, cause]

/-- RPL_FROZEN (R558). -/
def execRplFrozen (s : State) : Host.Outcome State Fault Refusal :=
  match s.freezeCause with
  | some c => ok (s.freezeRing c)
  | none => .next s

/-- RPL_GAP (R556, R561): room has returned, and one record covers those lost. -/
def execRplGap (s : State) : Host.Outcome State Fault Refusal :=
  match s.rpl.gap with
  | some (t, n, b) =>
    let r : RingRec := { type := 6, time := t, id := 0, payload := leBytes 4 n ++ leBytes 4 b }
    let u : State := ({ s with rpl := { s.rpl with gap := none, fill := s.rpl.fill + 1536 * r.size } } : State).ringPut r
    let w := (List.finRange 2).foldl (fun v x => v.uncover x (fun y => decide (y.time ≤ t))) u
    onlyIf (s.capturing = true ∧ s.rpl.fill + 1536 * r.size ≤ bufferUnits) s
      ((w.incF F.RPL_GAPS_GAPS).raise Ev.RPL_GAP [s.f F.RPL_STAT_MODE, n, b])
  | none => .next s

/-! ## Reading the ring -/

/-- A 64-bit word of the ring. -/
def State.ringWord (s : State) (pos : Nat) : BitVec 64 := mget 0 s.mem.dram ((s.ringBase + pos % s.ringSize) / 8)

/-- The record at a position of the ring (R557). -/
def State.ringRead (s : State) (pos : Nat) : RingRec :=
  let w0 := (s.ringWord pos).toNat
  let w1 := (s.ringWord (pos + 8)).toNat
  let n := nbits w0 0 24
  { type := nbits w0 24 8, time := nbits w0 32 32 + nbits w1 0 32 * 2 ^ 32, id := nbits w1 32 16,
    payload := ((List.range ((n + 7) / 8)).flatMap (fun i => leBytes 8 (s.ringWord (pos + 16 + 8 * i)).toNat)).take n }

/-- The CRC record of a CRC queue and a fc, from a position on. -/
def State.findCrc (s : State) (n time : Nat) : Nat → Nat → Option RingRec
  | 0, _ => none
  | fuel + 1, pos =>
    if s.rpl.wr ≤ pos then none
    else
      let r := s.ringRead pos
      if r.type = 5 ∧ r.time = time ∧ leNat (r.payload.take 4) = n then some r
      else findCrc s n time fuel (pos + r.size)

/-! ## CRC periods (R567) -/

/-- A mismatch of a CRC queue: MISCNT, MISLAST, RPL_MISMATCH. -/
def State.mismatch (s : State) (n : Nat) : State :=
  let p := s.tl.at34 / s.f F.RPL_CRCCFG_PERIOD
  ((s.incF F.RPL_MISCNT_COUNT).reportLow Rg.RPL_MISLAST n
    [(F.RPL_MISLAST_VALID, 1), (F.RPL_MISLAST_QIDX, n), (F.RPL_MISLAST_PIDX, p)]).raise Ev.RPL_MISMATCH
    [s.f F.RPL_STAT_MODE, s.f (F.RPL_CRCQ_QUEUE n), p]

/-- Enabled CRC queues. -/
def State.crcQueues (s : State) : List Nat := (List.range 16).filter (fun n => s.b (F.RPL_CRCQ_EN n))

/-- The payload of a queue's CRC record: n, entries, CRC-32C, 0 where there were none. -/
def State.crcPayload (s : State) (n : Nat) : List Byte :=
  let c := mget (0, 0xFFFFFFFF) s.rpl.crc n
  leBytes 4 n ++ leBytes 4 c.1 ++ leBytes 4 (if c.1 = 0 then 0 else c.2 ^^^ 0xFFFFFFFF)

/-- The end of a period for one queue: recorded in CAPTURE, compared in REPLAY. -/
def State.crcOne (s : State) (n : Nat) : State :=
  if s.f F.RPL_STAT_MODE = 1 then s.ringNote 5 (s.f (F.RPL_CRCQ_QUEUE n)) (s.crcPayload n)
  else match s.findCrc n s.fullTime (s.ringSize / 16) ((s.rpl.snaps.get (Fin.ofNat 2 (s.f F.RPL_CMD_SNAPSEL))).map (fun x => x.pos) |>.getD s.rpl.rd) with
    | some r => if r.payload = s.crcPayload n then s else s.mismatch n
    | none => s

/-- The present fc is the last of a period that has not been acted on. -/
def State.crcNow (s : State) : Bool :=
  s.b F.RPL_CRCCFG_EN && (s.capturing || s.f F.RPL_STAT_MODE == 3) && s.tl.released && periodOk (s.f F.RPL_CRCCFG_PERIOD)
    && (s.tl.at34 + 1) % s.f F.RPL_CRCCFG_PERIOD == 0 && decide (s.rpl.crcAt ≠ s.tl.fc + 1)

/-- CRC_PERIOD (R567). -/
def execCrcPeriod (s : State) : Host.Outcome State Fault Refusal :=
  let t := s.crcQueues.foldl State.crcOne s
  onlyIf (s.crcNow = true) s { t with rpl := { t.rpl with crc := [], crcAt := t.tl.fc + 1 } }

/-! ## Snapshot copies (R559, R561) -/

/-- The copy has read the capture stores of the scope, and releases them (R403). -/
def State.releaseScope (s : State) : State :=
  s.scopeLayers.foldl (fun t k => (t.setLayer k { t.layer k with cap := none }).setF ⟨Rg.CFG_CAPSTAT, k.val, 1⟩ 0) s

/-- RPL_SNAP_DONE (R561): a copy ends within 10 ms, valid or for a reason of Table 24-2. -/
def execRplSnapDone (fail : Option SnapFault) (s : State) : Host.Outcome State Fault Refusal :=
  match s.rpl.copy with
  | some (b, f) =>
    let t : State := { s with rpl := { s.rpl with copy := none } }
    let done := (t.releaseScope.setF (F.RPL_SNAP_HI_VALID b.val) 1).raise Ev.RPL_SNAP_DONE [s.f F.RPL_STAT_MODE, b.val]
    onlyIf (s.tl.fc < f + frameFc) s
      (match fail with
       | some .cowovf => s.snapFail b 3
       | some .dirty => if s.rpl.dirty then s.snapFail b 4 else done
       | none => done)
  | none => .next s

/-- SNAPSHOT_TIMEOUT (R561): 10 ms after T. -/
def execSnapshotTimeout (s : State) : Host.Outcome State Fault Refusal :=
  match s.rpl.copy with
  | some (b, f) => onlyIf (f + frameFc ≤ s.tl.fc) s (s.snapFail b 5)
  | none => .next s

/-! ## Entering replay (R563) -/

/-- The buffer SNAPSEL names. -/
def State.snapSel (s : State) : Fin 2 := Fin.ofNat 2 (s.f F.RPL_CMD_SNAPSEL)

/-- Why an ENTER is refused; 0 where it is accepted. -/
def State.enterReason (s : State) : Nat :=
  let b := s.snapSel
  if s.f F.RPL_STAT_MODE ≠ 0 ∨ s.b F.CFG_KEY_VALID = false ∨ s.rebaseOk = false then 1
  else match s.rpl.snaps.get b with
    | none => 2
    | some x =>
      if s.b (F.RPL_SNAP_HI_VALID b.val) = false ∨ s.b (F.RPL_SNAP_HI_COVERED b.val) = false then 2
      else if x.image ≠ s.rpl.image ∧ s.b F.RPL_CMD_FORCE = false then 3
      else if x.settings ≠ s.settingsDigest ∧ s.b F.RPL_CMD_FORCE = false then 4
      else 0

/-- REPLAY_ENTER (R563, R565): a write of RPL_CMD. -/
def execReplayEnter (who : Who) (v : Word) (s : State) : Host.Outcome State Fault Refusal :=
  ok (s.rplWrite who v 3 (fun t =>
    if t.f F.RPL_STAT_MODE = 2 then t.rplReject
    else if t.enterReason ≠ 0 then t.setF F.RPL_STAT_REJ t.enterReason
    else
      let pos := match t.rpl.snaps.get t.snapSel with | some x => x.pos | none => 0
      { (t.setF F.RPL_STAT_MODE 2).setF F.RPL_STAT_DONE 0 with
        rpl := { t.rpl with rd := pos, late := false, crc := [], guardRec := t.f F.THERM_STAT_GUARD } }))

/-- A recorded queue as it is allocated anew. -/
def restoredQueue (x : Queue) (fc : Nat) : Queue :=
  { x with room := 0, lent := 0, fresh := (0, 0), ending := false, headAt := fc, hist := [(fc, x.empty, x.full)], was := none,
           gone := [], bells := [] }

/-- Recorded queues and banks are written whole (R563 step 2), borrowed windows in their save buffers (R337). -/
def State.restoreMemory (s : State) (x : Snapshot) : State :=
  let a : State := x.queues.foldl (fun t e => (t.freed e.1).setQueue e.1 (restoredQueue e.2 s.tl.fc)) s
  let b : State := (x.queues.map (fun e => e.1 / 1024)).eraseDups.foldl State.countAlloc a
  let mine (k : Nat) : Bool := decide (k < 2 ^ 25) && s.bankRecorded (k / 2 ^ 20)
  let c : State := b.returnWindows.modMem (fun m => { m with
    words := x.words.foldl (fun l e => mins l e.1 e.2) (m.words.filter (fun e => !mine e.1))
    marks := x.marks.foldl (fun l e => mput .clean l e.1 e.2) (m.marks.filter (fun e => !mine e.1)) })
  b.mem.borrow.foldl (fun t e => t.takeWindow e.1 e.2) c

/-- One scope region: its planes recorded VALID refilled, the current plane and the override set (R563 step 3). -/
def State.restoreRegion (s : State) (ly : Fin 4) (j : Fin 8) (r : Region) : State :=
  let a : State := (List.finRange 4).foldl (fun t p =>
    let x := r.planes.get p
    if x.st = .valid then (t.copySlot ly j x.slot p).setPlane ly j p { x with refillAt := s.tl.fc, bad := false, run := false, ask := none }
    else t.setPlane ly j p Plane.reset) s
  let b := a.modRegion ly j (fun y => { y with cur := r.cur, ovr := r.ovr, nextCur := none, pendSw := none, heldAt := none,
                                               guardAt := none, ovrNext := none, curAt := s.tl.fc + 1 })
  if (r.planes.get r.cur).st = .valid then b else b.holdRegion ly j

/-- A tile of a layer lies in the scope. -/
def State.tileInScope (s : State) (ly : Fin 4) (t : Fin 64) : Bool := s.inScope ly.val && s.tileRegion ly t == s.scopeRegion ly.val

/-- Flop banks, accumulators and coefficient RAM of the scope as recorded; antler and shaft stages 0. -/
def State.restoreFabric (s : State) (x : Snapshot) : State :=
  let hornIn (k : Nat) : Bool := s.tileInScope (Fin.ofNat 4 (k / 2048)) (Fin.ofNat 64 (k / 32))
  let shaftIn (k : Nat) : Bool := s.inScope (k / 256) || s.inScope (k / 256 + 1)
  let flops := x.caps.foldl (fun m c => c.2.flops.foldl (fun m e => mput 0 m e.1 e.2) m)
    (s.fab.flops.filter (fun e => !s.tileInScope (tineAt e.1).ly (tineAt e.1).t))
  let horn := x.caps.foldl (fun m c => c.2.accs.foldl (fun m e =>
      mput Horn.reset m (2048 * c.1.val + e.1) { Horn.reset with acc := e.2 }) m) (s.fab.horn.filter (fun e => !hornIn e.1))
  let coef := x.coef.foldl (fun m e => mput none m e.1 e.2) (s.fab.coef.filter (fun e => !hornIn (e.1 / 1024)))
  { s with fab := { s.fab with
      flops := flops
      horn := horn
      coef := coef
      coefErr := s.fab.coefErr.filter (fun e => !hornIn (e.1 / 1024))
      sh1 := s.fab.sh1.filter (fun e => !shaftIn e.1)
      sh2 := s.fab.sh2.filter (fun e => !shaftIn e.1)
      rx := s.fab.rx.filter (fun e => !shaftIn e.1)
      side := s.fab.side.filter (fun e => !shaftIn e.1)
      layers := Vector.ofFn (fun ly : Fin 4 =>
        if s.inScope ly.val then { s.fab.layers.get ly with tree1 := 0, tree2 := 0 } else s.fab.layers.get ly) } }

/-- A new epoch at full time T + 1 - 4,096 (R563 step 4). -/
def State.replayEpoch (time : Nat) (s : State) : State :=
  s.beginEpoch (((time / 2 ^ 34 * L + time % 2 ^ 34 + 1 + 65536 * L - 4096) % (65536 * L) : Nat) : Int)

/-- A scope sequencer starts at ENTRY; its first issue is in the fc of program time T + 1, 4,096 fc on (R563 step 5). -/
def State.replaySeq (s : State) (k : Fin 4) : State :=
  let t := (s.modSeq k (fun q => if q.mode = .faulted then { q with mode := .stopped } else q)).setF (F.SEQ_STATUS_BADSTART k.val)
    (s.f (F.SEQ_STATUS_BADSTART k.val))
  match t.vector k (2 + s.f F.RPL_CMD_ENTRY) with
  | some e => if t.lineDead k then t else t.modSeq k (fun q => { q with wait := .start e (s.tl.fc + 4088) })
  | none => t.setF (F.SEQ_STATUS_BADSTART k.val) 1

/-- The last record has been injected. -/
def State.replayDone (s : State) : State := (s.setF F.RPL_STAT_DONE 1).raise Ev.RPL_DONE [s.f F.RPL_STAT_MODE]

/-- Restoring ends and REPLAY begins. -/
def State.startReplay (s : State) (x : Snapshot) : State :=
  let a : State := s.restoreMemory x
  let b : State := x.regions.foldl (fun t e => t.restoreRegion e.1 e.2.1 e.2.2) a
  let c : State := (b.restoreFabric x).newEpoch (State.replayEpoch x.time)
  let d : State := c.scopeLayers.foldl State.replaySeq (c.setF F.RPL_STAT_MODE 3)
  if d.rpl.wr ≤ d.rpl.rd then d.replayDone else d

/-- REPLAY_START (R563). -/
def execReplayStart (s : State) : Host.Outcome State Fault Refusal :=
  match s.rpl.snaps.get s.snapSel with
  | some x => onlyIf (s.f F.RPL_STAT_MODE = 2) s (s.startReplay x)
  | none => .next s

/-! ## Injection (R564) -/

/-- The entries a record carries for a queue, with their metadata words. -/
def recordEntries (x : Queue) (payload : List Byte) : List QEntry :=
  let n := x.esz + 4
  (List.range (payload.length / n)).map (fun i =>
    let b := (payload.drop (i * n)).take n
    let m := leNat (b.drop x.esz)
    { words := (List.range x.words).map (fun w => BitVec.ofNat 64 (leNat ((b.drop (8 * w)).take 8))), sof := nbits m 17 1 == 1,
      poison := nbits m 16 1 == 1 })

/-- The next record has been dealt with. -/
def State.advanceRing (s : State) (r : RingRec) : State :=
  let t : State := { s with rpl := { s.rpl with rd := s.rpl.rd + r.size, late := false } }
  if t.rpl.wr ≤ t.rpl.rd then t.replayDone else t

/-- A recorded publication finds room. -/
def State.injectRoom (s : State) (r : RingRec) : Bool :=
  let x := s.queue r.id
  x.en && !s.closed 0 && decide ((recordEntries x r.payload).length ≤ x.free)

/-- A recorded publication: in its fc, or in the next with room, when it counts as a mismatch of every enabled CRC queue. -/
def State.injectEntries (s : State) (r : RingRec) : State :=
  if s.injectRoom r = false then { s with rpl := { s.rpl with late := true } }
  else
    let t := s.pushBatch r.id (recordEntries (s.queue r.id) r.payload) true
    (if s.rpl.late ∨ r.time < s.fullTime then t.crcQueues.foldl State.mismatch t else t).advanceRing r

/-- Recorded event inputs are latched into the scope sequencers. -/
def State.injectInputs (s : State) (r : RingRec) : State :=
  s.scopeLayers.foldl (fun t k => (List.range 32).foldl (fun u i =>
    if nbits (leNat r.payload) (32 * k.val + i) 1 = 1 then u.latchEin k i else u) t) s

/-- The next record of the ring acts. -/
def State.inject (s : State) (r : RingRec) : State :=
  if r.type = 1 ∨ r.type = 2 then s.injectEntries r
  else if r.type = 3 then (s.injectInputs r).advanceRing r
  else if r.type = 4 then (({ s with rpl := { s.rpl with guardRec := leNat r.payload } } : State).takeGuards).advanceRing r
  else s.advanceRing r

/-- INJECTION (R564): the next record, in its fc or, where it has found no room, later. -/
def execInjection (s : State) : Host.Outcome State Fault Refusal :=
  let r := s.ringRead s.rpl.rd
  onlyIf (s.f F.RPL_STAT_MODE = 3 ∧ s.rpl.rd < s.rpl.wr ∧ r.time ≤ s.fullTime) s (s.inject r)

/-- The next record is to act in the present fc: its fc has come, and one that has found no room before finds it now (R564). -/
def State.injectDue (s : State) : Bool :=
  let r := s.ringRead s.rpl.rd
  s.f F.RPL_STAT_MODE == 3 && decide (s.rpl.rd < s.rpl.wr) && decide (r.time ≤ s.fullTime) && (!s.rpl.late || s.injectRoom r)

/-- Capture and replay have something left to do in the present fc: a freeze, the end of a CRC period, a record (R558, R564,
R567). -/
def State.replayDue (s : State) : Bool := s.freezeCause.isSome || s.crcNow || s.injectDue

/-! ## EXIT (R565) -/

/-- REPLAY_EXIT (R565): a write of RPL_CMD; the scope sequencers stop, and AT returns to Rinom's time in the fc after the write. -/
def execReplayExit (who : Who) (v : Word) (s : State) : Host.Outcome State Fault Refusal :=
  ok (s.rplWrite who v 4 (fun t =>
    if t.f F.RPL_STAT_MODE = 3 then ((t.scopeLayers.foldl State.askStop t).setF F.RPL_STAT_MODE 0).askEpoch true else t.rplReject))

end Sys2Proof.Machine
end

