-- ==== Sys2Proof/Machine/SaenoPort.lean ====
section
/-!
DEFINITION. Sys2Proof/Machine/SaenoPort.lean: the instructions of a sequencer's memory port, and what the queue controllers and
banks do for them (R203 to R209).
-/
namespace Sys2Proof.Machine
open Sys2Proof

/-! ## Queues (R203 to R207) -/

/-- Issue cost of a QPUSH and of a QPOP (Table 7-2). -/
def pushCost (k : Fin 4) : Nat := 10 + 4 * k.val
def popCost (k : Fin 4) : Nat := 12 + 4 * k.val

/-- The port takes an access of the instruction that issues; one still under way from before a diversion goes on beside it
(R209). -/
def Seq.access (q : Seq) (op : PortOp) : Seq := { q with ports := q.ports ++ [op] }

/-- A refused push or pop of a queue there is raises QC_PERM (R304). -/
def State.refusedAt (s : State) (q : Nat) : State := if q < 32768 then s.qcPerm q else s

/-- QPUSH (R204, R207): the entry is taken from four registers; a queue the sequencer does not produce is denied. -/
def execQpush (k : Fin 4) (e : Flaw) (a : Fin 32) (o : Opnd) (s : State) : Host.Outcome State Fault Refusal :=
  ok (s.issue k e (.qpush k e a o) (fun t =>
    let q := (t.seq k).opnd o
    if 32768 ≤ q ∨ t.mayPush q (partySeq k.val) = false then (t.refusedAt q).issueFault k 0x0C
    else (t.modSeq k (fun x => x.access (.push q (x.rdAll a.val 4) t.tl.fc x.pc))).doneLong k (pushCost k)))

/-- QPOP (R205, R207). -/
def execQpop (k : Fin 4) (e : Flaw) (d : Fin 32) (o : Opnd) (s : State) : Host.Outcome State Fault Refusal :=
  ok (s.issue k e (.qpop k e d o) (fun t =>
    let q := (t.seq k).opnd o
    if 32768 ≤ q ∨ t.mayPop q (partySeq k.val) = false then (t.refusedAt q).issueFault k 0x0C
    else (t.modSeq k (fun x => x.access (.pop q d.val t.tl.fc x.pc))).doneLong k (popCost k)))

/-- A queue access, or a coefficient load. -/
def PortOp.queueOp : PortOp → Bool
  | .hcoef _ _ _ _ _ _ _ _ => false
  | _ => true

/-- The oldest queue access, or the oldest coefficient load, of a sequencer's port. -/
def Seq.portOp (q : Seq) (queue : Bool) : Option PortOp := q.ports.find? (fun p => p.queueOp == queue)

/-- An access of the port is done. -/
def Seq.portOff (q : Seq) (op : PortOp) : Seq := { q with ports := q.ports.erase op }

/-- Byte of the memory layer an access of a sequencer's port waits for. -/
def PortOp.addr : PortOp → Nat
  | .push q _ _ _ => q / 1024 * 2 ^ 23
  | .pop q _ _ _ => q / 1024 * 2 ^ 23
  | .hcoef _ src _ _ _ written _ _ => src + 64 * written

/-- Fc of issue of an access. -/
def PortOp.issued : PortOp → Nat
  | .push _ _ issue _ => issue
  | .pop _ _ issue _ => issue
  | .hcoef _ _ _ _ _ _ issue _ => issue

/-- What an access of a sequencer's port leaves to be done at its end. -/
def State.portEnd (s : State) (k : Fin 4) (op : PortOp) (r : PortRes) : State :=
  s.modSeq k (fun x => { x.portOff op with res := x.res ++ [r], portAt := s.tl.fc })

/-- A result that only faults, when the next instruction would have issued (R207). -/
def faultRes (due pc cause : Nat) : PortRes :=
  { due := due, pc := pc, d := 0, data := [], z := none, c := none, fault := some cause }

/-- The fenced die that a request of the access meets first on its way down: a draining die lets through what had passed its
upper boundary (R361, R365). -/
def State.seqStopDie (s : State) (k : Fin 4) (op : PortOp) : Option Nat :=
  ((List.range (layerDie k.val)).reverse).find? (fun f => s.closed f && !s.opPassed k op f)

/-- A sequencer's access is answered RESET_ABORT: a fence on its path, or a failed group (R207, R354, R363). -/
def State.seqPathStop (s : State) (k : Fin 4) (op : PortOp) : Option State :=
  match s.failedGroup k.val 32 with
  | some g => some ((s.abortCount k.val (layerDie k.val - 1)).linkReport g.1 6 g.2 0x7F)
  | none => match s.seqStopDie k op with
    | some f => some (s.abortCount k.val f)
    | none => none

/-- 32-bit words as the 64-bit words of an entry. -/
def pairUp : List Word → List (BitVec 64)
  | a :: b :: r => BitVec.ofNat 64 (a.toNat + b.toNat * 2 ^ 32) :: pairUp r
  | _ => []

/-- The first two 64-bit words of an entry as four register words. -/
def splitUp (l : List (BitVec 64)) : List Word :=
  (l.take 2).flatMap (fun w => [BitVec.ofNat 32 w.toNat, BitVec.ofNat 32 (w.toNat / 2 ^ 32)])

/-- The controller performs a QPUSH: refused, full, or taken (R203, R204, R207). -/
def State.seqPush (s : State) (k : Fin 4) (q : Nat) (data : List Word) (issue pc : Nat) : State :=
  let last := issue + pushCost k - 1
  let op : PortOp := .push q data issue pc
  if s.mayPush q (partySeq k.val) = false then (s.qcPerm q).portEnd k op (faultRes (last + 1) pc 0x0C)
  else if (s.queue q).full then
    s.portEnd k op { due := last, pc := pc, d := 0, data := [], z := some true, c := none, fault := none }
  else (s.pushBatch q [{ words := (pairUp data ++ List.replicate 16 0).take (s.queue q).words, sof := true, poison := false }] false).portEnd k op
    { due := last, pc := pc, d := 0, data := [], z := some false, c := none, fault := none }

/-- The controller performs a QPOP (R203, R205, R207). -/
def State.seqPop (s : State) (k : Fin 4) (q d issue pc : Nat) (errs : List (Nat × Flaw)) : State :=
  let last := issue + popCost k - 1
  let op : PortOp := .pop q d issue pc
  if s.mayPop q (partySeq k.val) = false then (s.qcPerm q).portEnd k op (faultRes (last + 1) pc 0x0C)
  else if s.poppable q = 0 then
    s.portEnd k op { due := last, pc := pc, d := 0, data := [], z := some true, c := none, fault := none }
  else
    let p := s.popEntry errs q
    let t := if p.1.poison then p.2.raise (Ev.QUEUE_POISON k) [pc, q] else p.2
    t.portEnd k op { due := last, pc := pc, d := d, data := splitUp p.1.words, z := some false, c := some p.1.poison, fault := none }

/-- Last fc of the issue cost of a port's access. -/
def portFault (k : Fin 4) : PortOp → PortRes
  | .push _ _ issue pc => faultRes (issue + pushCost k) pc 0x0D
  | .pop _ _ issue pc => faultRes (issue + popCost k) pc 0x0D
  | .hcoef _ _ _ _ count _ issue pc => faultRes (issue + 10 + 4 * k.val + count) pc 0x0D

/-- An access whose answer is RESET_ABORT or a bus error, from its path or from the layer, has done nothing; any other is
performed (R207). -/
def State.portAbort (s : State) (k : Fin 4) (abort : Bool) (op : PortOp) (run : State) : State :=
  if abort then s.portEnd k op (portFault k op)
  else match s.seqPathStop k op with
    | some t => t.portEnd k op (portFault k op)
    | none => run

/-- The oldest access of a sequencer's port, where its timer has reached the bound of a vertical transfer (R536). -/
def State.seqLate (s : State) (k : Fin 4) : Option PortOp :=
  match (s.seq k).ports with
  | op :: _ => if max op.issued (s.seq k).portAt + vtBound ≤ s.tl.fc then some op else none
  | [] => none

/-- SEQ_PORT_ACCESS (R203, R207): in fc c + 2k + 5 the controller performs the push or pop issued in fc c; an access that
returns RESET_ABORT or a bus error has done nothing. -/
def execSeqPortAccess (k : Fin 4) (abort : Bool) (entry md : Flaw) (s : State) : Host.Outcome State Fault Refusal :=
  match (s.seq k).portOp true with
  | some (.push q data issue pc) =>
    onlyIf (issue + 2 * k.val + 5 ≤ s.tl.fc) s
      (s.portAbort k abort (.push q data issue pc) (s.seqPush k q data issue pc))
  | some (.pop q d issue pc) =>
    onlyIf (issue + 2 * k.val + 5 ≤ s.tl.fc) s
      (s.portAbort k abort (.pop q d issue pc) (s.seqPop k q d issue pc
        [(entryKey q (s.queue q) (s.queue q).pop, entry), (metaKey q (s.queue q) (s.queue q).pop, md)]))
  | _ => .next s

/-- A queue's EMPTY and FULL as its controller has reported them to sequencer `k` (R206). -/
def State.seenFill (s : State) (k : Fin 4) (q : Nat) : Bool × Bool :=
  match (s.queue q).hist.find? (fun e => decide (e.1 + 3 + 2 * k.val ≤ s.tl.fc)) with
  | some e => e.2
  | none => (true, false)

/-- The condition a QWAIT waits for is seen: not empty, or not full. -/
def State.qwaitMet (s : State) (k : Fin 4) (q : Nat) (full : Bool) : Bool :=
  if full then !(s.seenFill k q).2 else !(s.seenFill k q).1

/-- The report that a queue is no longer the sequencer's to pop has reached it (R207). -/
def State.seenGone (s : State) (k : Fin 4) (q : Nat) : Bool :=
  match (s.queue q).gone.find? (fun e => decide (e.1 + 3 + 2 * k.val ≤ s.tl.fc)) with
  | some e => !e.2.2 || nbits e.2.1 0 10 != partySeq k.val
  | none => false

/-- QWAIT (R206, R207). -/
def execQwait (k : Fin 4) (e : Flaw) (full : Bool) (o : Opnd) (s : State) : Host.Outcome State Fault Refusal :=
  ok (s.issue k e (.qwait k e full o) (fun t =>
    let q := (t.seq k).opnd o
    if 32768 ≤ q ∨ t.mayPop q (partySeq k.val) = false then t.issueFault k 0x0C
    else if t.qwaitMet k q full then t.done k 1
    else t.modSeq k (fun x => { x with mode := .waitQueue, wait := .queue q full t.tl.fc })))

/-- QWAIT_END (R206, R207): the condition is seen, and the next instruction issues in the next fc; or the queue is seen freed. -/
def execQwaitEnd (k : Fin 4) (s : State) : Host.Outcome State Fault Refusal :=
  match (s.seq k).wait with
  | .queue q full _ =>
    if s.seenGone k q then ok (s.seqFault k 0x0C (s.seq k).pc s.tl.fc (s.seq k).wouldIssue)
    else onlyIf (s.qwaitMet k q full = true) s (s.done k 1)
  | _ => .next s

/-! ## Coefficient loads (R208, R209) -/

/-- Every unit of a load lies in a bank the layer owns, no owner change under way (R209). -/
def State.hcoefOk (s : State) (k : Fin 4) (src count : Nat) : Bool :=
  src % 64 == 0 && (List.range count).all (fun i =>
    match bankOf (src + 64 * i) with
    | some n => s.owner n == k.val && !s.b (F.MEM_BANK_STAT_OWNPEND n)
    | none => false)

/-- HCOEF (R208, R209). -/
def execHcoef (k : Fin 4) (e : Flaw) (a b : Fin 32) (tile group : BitVec 6) (count : BitVec 7) (s : State) :
    Host.Outcome State Fault Refusal :=
  ok (s.issue k e (.hcoef k e a b tile group count) (fun t =>
    let src := ((t.seq k).rd b).toNat
    if t.hcoefOk k src count.toNat = false then t.issueFault k 0x0E
    else (t.modSeq k (fun x =>
      x.access (.hcoef (x.rd a).toNat src tile.toNat group.toNat count.toNat 0 t.tl.fc x.pc))).doneLong k
        (10 + 4 * k.val + count.toNat)))

/-- Write a coefficient word into one block: data, valid, and its code or the uncorrectable mark (R145, R209). -/
def State.putCoef (s : State) (k : Fin 4) (tile : Fin 64) (b : Fin 32) (addr : Nat) (w : Word) (bad : Bool) : State :=
  s.writeCoef (coefKey k tile b addr) (some w) (if bad then .uncorr else .clean)

/-- One 64-bit source word becomes two coefficient words in every block of the mask. -/
def State.hcoefWord (s : State) (k : Fin 4) (pc : Nat) (tile : Fin 64) (mask addr : Nat) (w : BitVec 64) (bad : Bool) : State :=
  let t := (List.finRange 32).foldl (fun t b =>
    if nbits mask b.val 1 = 1 then
      (t.putCoef k tile b addr (BitVec.ofNat 32 w.toNat) bad).putCoef k tile b (addr + 1) (BitVec.ofNat 32 (w.toNat / 2 ^ 32)) bad
    else t) s
  if bad then t.raise (Ev.HCOEF_POISON k) [pc, tile.val, addr] else t

/-- HCOEF_GROUP_WRITE (R208, R209): group i is written in fc c + 9 + 4k + i; an abort stops the load. -/
def execHcoefGroupWrite (k : Fin 4) (abort : Bool) (errs : List (Nat × Flaw)) (s : State) : Host.Outcome State Fault Refusal :=
  match (s.seq k).portOp false with
  | some (.hcoef mask src tile group count written issue pc) =>
    let op : PortOp := .hcoef mask src tile group count written issue pc
    let write (t : State) : State :=
      let key := (src + 64 * written) / 8
      let r := t.readBeatA errs key
      let u := ((List.range 8).zip r.1).foldl (fun u e =>
        u.hcoefWord k pc (Fin.ofNat 64 tile) mask (16 * (group + written) + 2 * e.1) e.2 (nbits r.2.1 e.1 1 == 1)) r.2.2
      let v := u.snapDirty (u.inScope k.val && u.tileRegion k (Fin.ofNat 64 tile) == u.scopeRegion k.val)
      v.modSeq k (fun x => { x with ports :=
        if written + 1 < count then x.ports.replace op (.hcoef mask src tile group count (written + 1) issue pc) else x.ports.erase op })
    if count ≤ written then ok (s.modSeq k (fun x => x.portOff op))
    else onlyIf (issue + 9 + 4 * k.val + written ≤ s.tl.fc) s (s.portAbort k abort op (write s))
  | _ => .next s

end Sys2Proof.Machine
end

