-- ==== Sys2Proof/Machine/Boundary.lean ====
section
/-!
DEFINITION. Sys2Proof/Machine/Boundary.lean: fc boundaries. What a rule places in a given fc is done in it: the boundary comes when
nothing of the present fc is left to do (R139, R158 to R160, R165, R564, log 38).
-/
namespace Sys2Proof.Machine
open Sys2Proof

/-- The fc in which an access of a sequencer's port is performed (R203, R208). -/
def PortOp.due (k : Fin 4) : PortOp → Nat
  | .push _ _ issue _ => issue + 2 * k.val + 5
  | .pop _ _ issue _ => issue + 2 * k.val + 5
  | .hcoef _ _ _ _ _ written issue _ => issue + 9 + 4 * k.val + written

/-- The wait of a sequencer ends, or runs out, in the present fc. -/
def State.waitDue (s : State) (k : Fin 4) : Bool :=
  match (s.seq k).wait with
  | .start _ since => s.tl.released && decide (max s.tl.relFc since + 8 ≤ s.tl.fc)
  | .time _ due _ => decide (due ≤ s.tl.fc)
  | .barrier flag mask _ => s.barrierFull flag mask || s.barrierLate k
  | .flag flag _ => s.mayTake k flag || s.waitLate k
  | .queue q full _ => s.seenGone k q || s.qwaitMet k q full || s.waitLate k
  | _ => false

/-- A stalled SWITCH of a layer takes effect, or is refused, in the present fc (R117 to R119). -/
def State.stallDue (s : State) (k : Fin 4) : Bool :=
  match s.stalled k with
  | some (j, q, _) => s.stallOver k j q
  | none => false

/-- A sequencer has something to do in the present fc: an instruction to issue, a wait or stall that ends, a diversion that was
pending, an access of its port (R158, R160, R165, R203, R208). -/
def State.seqDue (s : State) (k : Fin 4) : Bool :=
  (s.seq k).ready s.tl.fc || s.waitDue k || s.stallDue k || ((s.seq k).altDue s.tl.fc).isSome
    || (s.seq k).ports.any (fun op => decide (op.due k ≤ s.tl.fc))

/-- A refill of a region ends in the present fc (R114). -/
def State.refillDue (s : State) (ly : Fin 4) (j : Fin 8) : Bool :=
  (List.finRange 4).any (fun p => (s.plane ly j p).run && decide ((s.plane ly j p).refillAt + 9 ≤ s.tl.fc))

/-- Horn blocks whose current mode word is not all zero. -/
def State.liveBlocks (s : State) : List Nat :=
  ((s.fab.planes.filter (fun e => decide (offHorn ≤ keyOff e.1 ∧ keyOff e.1 < offHorn + 256) && s.inCurrent e.1)).map (fun e =>
    hornKey (keyAt e.1).ly (keyAt e.1).t (Fin.ofNat 32 ((keyOff e.1 - offHorn) / 8)))).eraseDups

/-- A block captures an operand set at the end of the present fc and has not been told of it yet (R138). -/
def State.captureDue (s : State) (n : Nat) : Bool :=
  let ly : Fin 4 := Fin.ofNat 4 (n / 2048)
  let t : Fin 64 := Fin.ofNat 64 (n / 32)
  let b : Fin 32 := Fin.ofNat 32 n
  let a : At := { ly := ly, t := t }
  !(s.hornAt ly t b).took && s.captures a (s.hornMode ly t (s.tilePlane ly t) b) (s.controlBits a b)

/-- A block's result is to be presented in the present fc (R139). -/
def State.resultDue (s : State) (n : Nat) (x : Horn) : Bool :=
  !s.setReset { ly := Fin.ofNat 4 (n / 2048), t := Fin.ofNat 64 (n / 32) } && x.pipe.any (fun o => decide (o.due ≤ s.tl.fc))

/-- The fabric has something left to do in the present fc: the end of a refill, a repair that completes (R69), a stored word's
write-back (R326), a lane swap (R100), an operand set or a result of a horn block, the host's capture (R402). -/
def State.fabricDue (s : State) : Bool :=
  (List.finRange 4).any (fun ly => (List.finRange 8).any (fun j => s.refillDue ly j))
    || s.fab.upsets.any (fun e => (s.repairDue e.1).isSome)
    || s.fab.slotWb.any (fun w => s.wbDue w)
    || s.fab.lanes.any (fun e => (s.swapDue (Fin.ofNat 3 (e.1 / 256)) (e.1 % 256)).isSome)
    || s.vl.groups.any (fun e => (s.vlSwapDue e.2).isSome)
    || s.fab.horn.any (fun e => s.resultDue e.1 e.2)
    || s.liveBlocks.any (fun n => s.captureDue n)
    || (match s.arm with | some a => decide (a.due ≤ s.tl.fc) | none => false)

/-- Bank or slice that is to perform a port's next request by MEM cycle `id`; none where that is still on its way, or waits for a
fence, an owner change or a fill. -/
def PortQ.unit? (p : PortQ) (id : Nat) : Option Nat :=
  match p.head with
  | some r =>
    if r.held.isSome ∨ r.own ∨ r.fill ∨ id < r.base then none
    else (match r.q with
      | some x => some (x.queue / 1024)
      | none => some r.unit)
  | none => none

/-- Bank or slice that a descriptor of the DMA engine goes on at. -/
def State.dmaUnit? (s : State) (c : Nat) (j : DmaJob) : Option Nat :=
  if s.dmaGoes c j = true ∧ j.fill = false then some (if descOp j.desc.toDescHead ≤ 2 then descQueue j.desc.toDescHead / 1024 else (placeOf j.addr).1) else none

/-- Banks and slices with something to perform by MEM cycle `id`: the next requests of the ports, writes of the queue
controllers and of replay, host accesses, descriptors of the DMA engine. -/
def State.busyUnits (s : State) (id : Nat) : List Nat :=
  s.mem.ports.filterMap (fun e => e.2.unit? id) ++ s.mem.writes.map (fun r => r.queue / 1024) ++ s.mem.host.map (fun e => e.1)
    ++ s.dma.filterMap (fun e => s.dmaUnit? e.1 e.2)

/-- A MEM cycle that begins in the present fc has not yet been performed at a unit that has something to perform (R280, R282). -/
def State.cycDue (s : State) : Bool :=
  s.memRuns && (List.range 5).any (fun c => cycPhase c == s.sched % 4 && !(s.slow && c == 0)
    && (s.busyUnits (5 * s.tl.fc + c)).any (fun u => decide ((s.cyc u).id ≤ 5 * s.tl.fc + c)))

/-- A port's oldest response is to be presented in the present fc, and its window has room for it (R276, R279). -/
def State.answerDue (s : State) (key : Nat) : Bool :=
  match (s.portNow key).reqs with
  | r :: _ => (match r.due with
    | some d => decide (d ≤ s.tl.fc ∧ (s.portNow key).resp + r.respBeats ≤ s.windowBeats)
    | none => false)
  | [] => false

/-- The memory layer and the fences have something left to do in the present fc: a MEM cycle, a response, a vertical transfer that
times out (R536), a drain that ends (R361). -/
def State.memDue (s : State) : Bool :=
  s.cycDue || s.mem.ports.any (fun e => s.answerDue e.1 || e.2.late?.isSome) || (List.finRange 4).any (fun k => (s.seqLate k).isSome) || (List.range 9).any (fun d => s.drainDue d)

/-- Everything the present fc brings has been done; a stack whose clocks stand still brings nothing. -/
def State.fcDone (s : State) : Bool :=
  s.stackStopped || !((List.finRange 4).any (fun k => s.seqDue k) || s.fabricDue || s.memDue || s.replayDue)

/-- FC_BOUNDARY: the air-time family's clock passes from one fc to the next while it runs, once all of the present fc is done. -/
def execFcBoundary (s : State) : Host.Outcome State Fault Refusal :=
  onlyIf (s.tl.running = true ∧ s.fcDone = true) s s.fcStep

/-- SFN_CYCLE_WRAP (R217): the fc boundary at which AT returns to 0 and HFN counts. -/
def execSfnCycleWrap (s : State) : Host.Outcome State Fault Refusal :=
  onlyIf (s.tl.running = true ∧ s.fcDone = true ∧ s.tl.released = true ∧ s.tl.at34 + 1 = L) s s.fcStep

end Sys2Proof.Machine
end

