-- ==== Sys2Proof/Machine/Settings.lean ====
section
/-!
DEFINITION. Sys2Proof/Machine/Settings.lean: settings in NVM, keys, signed commands and the lifecycle (chapter 25).
-/
namespace Sys2Proof.Machine
open Sys2Proof

/-! ## Settings (R571, R572) -/

/-- A STORE ends with a RESULT of Table 25-7. -/
def State.endStore (s : State) (result : Nat) : State :=
  let t := ((s.setF F.NVS_STAT_BUSY 0).setF F.NVS_STAT_DONE 1).setF F.NVS_STAT_RESULT result
  { t with nvs := { t.nvs with snap := none } }

/-- Most items of a settings copy (Table 25-2). -/
def maxItems : Nat := 15870

/-- STORE (R572): the shadows that differ from the shipped values are the items of the new copy. -/
def State.storeStart (s : State) : State :=
  if s.b F.NVS_STAT_BUSY then s.setF F.NVS_STAT_CMDREJ 1
  else if maxItems < s.nvs.shadow.length then s.endStore 1
  else
    let t := s.setF F.NVS_STAT_BUSY 1
    { t with nvs := { t.nvs with snap := some t.nvs.shadow } }

/-- STORE: a write of NVS_CMD. -/
def execStore (who : Who) (v : Word) (s : State) : Host.Outcome State Fault Refusal :=
  ok (s.onBus who Rg.NVS_CMD v (fun t => if nbits v.toNat 28 4 = 1 then t.storeStart else t))

/-- The copy not in force takes the items and comes into force. -/
def State.storeDone (s : State) (items : NMap Word) : State :=
  let gen := (s.f F.NVS_GEN_GEN + 1) % 2 ^ 32
  let n : Fin 2 := if s.newerCopy.isSome then Fin.ofNat 2 (s.f F.NVS_STAT_COPY + 1) else 0
  let t : State := { s with nvs := { s.nvs with
    copies := s.nvs.copies.set n.val (some { gen := gen, items := items }) n.isLt
    locked := true } }
  ((((t.setF F.NVS_STAT_COPY n.val).setF F.NVS_STAT_ITEMS items.length).setF F.NVS_GEN_GEN gen).endStore 0).raise Ev.NVS_STORED [gen]

/-- NVS_STORED (R572): a running STORE has written its copy, or ends with an NVM write error. -/
def execNvsStored (written : Bool) (s : State) : Host.Outcome State Fault Refusal :=
  match s.nvs.snap with
  | some items => ok (if written then s.storeDone items else (s.endStore 2).raise Ev.NVS_STORE_FAIL [s.f F.NVS_GEN_GEN])
  | none => ok s

/-- The register NVS_IOFS names. -/
def State.iofs (s : State) : Nat := 4 * s.f F.NVS_IOFS_OFFSET

/-- A write of NVS_IVAL sets the shadow of the register NVS_IOFS names and nothing else (R571). -/
def State.ivalWrite (s : State) (who : Who) (v : Word) : State :=
  match s.stopAccess who Rg.NVS_IVAL with
  | some r => s.refuse who Rg.NVS_IVAL r
  | none => { (if hasSettings s.iofs then s.setShadow s.iofs (nvsMask s.iofs) v else s) with reply := .done }

/-- NVS_IVAL (R571). -/
def execNvsIval (who : Who) (v : Word) (s : State) : Host.Outcome State Fault Refusal := ok (s.ivalWrite who v)

/-! ## The end of a security command (R581) -/

/-- A command ends with a RESULT of Table 25-5, and an event says whether it was performed. -/
def State.endSec (s : State) (code result : Nat) : State :=
  (((s.setF F.SEC_STAT_BUSY 0).setF F.SEC_STAT_DONE 1).setF F.SEC_STAT_RESULT result).raise
    (if result = 0 then Ev.SEC_CMD_DONE else Ev.SEC_CMD_REJ) [code, result]

/-- A write of SEC_CMD: while a command runs it is ignored. -/
def State.secWrite (s : State) (who : Who) (v : Word) (op : Nat) (act : State → State) : State :=
  s.onBus who Rg.SEC_CMD v (fun t =>
    if t.b F.SEC_STAT_BUSY then t.setF F.SEC_STAT_CMDREJ 1
    else if nbits v.toNat 28 4 = op then act t else t)

/-! ## Keys (R574 to R576) -/

/-- Burn the hash and the PROV fuse of a slot (R575). -/
def State.burnProv (s : State) (n : Fin 4) (h : Nat) : State :=
  { s with fuse := { s.fuse with keyHash := s.fuse.keyHash.set n.val h n.isLt, prov := s.fuse.prov.set n.val true n.isLt } }

/-- Burn the REV fuse of a slot (R574). -/
def State.burnRev (s : State) (n : Fin 4) : State :=
  { s with fuse := { s.fuse with rev := s.fuse.rev.set n.val true n.isLt } }

/-- Burn a hash into a slot; where the readback differs, what the fuses hold is free and REV burns as well (R575). -/
def State.burnKey (s : State) (n : Fin 4) (h : Nat) (burned : Bool) : State :=
  if burned then (s.burnProv n h).raise Ev.SEC_KEY_ADDED [n.val]
  else let d := s.draw 512; (d.2.burnProv n d.1.toNat).burnRev n

/-- The hash in SEC_KHASH0 to SEC_KHASH15, byte 0 lowest. -/
def State.khash (s : State) : Nat := leNat ((List.range 16).flatMap (fun w => leBytes 4 (s.reg (Rg.SEC_KHASH w)).toNat))

/-- PROGKEY in force (R575). -/
def State.progKey (s : State) (burned : Bool) : State :=
  let n : Fin 4 := Fin.ofNat 4 (s.f F.SEC_KSLOT_SLOT)
  if s.fuse.lcs ≠ 0 ∨ s.fuse.prov.get n = true then s.endSec n.val 1
  else (s.burnKey n s.khash burned).endSec n.val (if burned then 0 else 0xA)

/-- PROGKEY: a write of SEC_CMD; `burned` tells whether the fuses read back as burned. -/
def execProgkey (who : Who) (v : Word) (burned : Bool) (s : State) : Host.Outcome State Fault Refusal :=
  ok (s.secWrite who v 2 (fun t => t.progKey burned))

/-! ## Lifecycle (R582, R583) -/

/-- A lifecycle state is entered: a readback of kinds 0 to 6 ends with DENIED on entry to DEPLOYED. -/
def State.enterLife (s : State) (n : Fin 4) : State :=
  let t : State := { s with fuse := { s.fuse with lcs := n } }
  let u := match t.rb with
    | some r => if n = 2 ∧ farKind r.far ≠ 7 then t.endReadback 1 else t
    | none => t
  u.raise Ev.SEC_LIFECYCLE [n.val]

/-- Slots that are usable, by bit (R574). -/
def State.usable (s : State) : List Nat := (List.range 4).filter (fun n => s.slotUsable n)

/-- ADVANCE (R582): a write of SEC_CMD. -/
def execAdvance (who : Who) (v : Word) (s : State) : Host.Outcome State Fault Refusal :=
  ok (s.secWrite who v 3 (fun t =>
    if t.fuse.lcs ≠ 0 ∨ t.usable = [] then t.endSec 1 1 else (t.enterLife 1).endSec 1 0))

/-! ## Signed commands (R578 to R581) -/

/-- The opcodes SEC EXEC delivers (Table 25-4). -/
def secOps : List Nat := [3, 4, 5, 6, 7, 8]

/-- EXEC ends for the command of one opcode: the checks of Table 25-5 in their order, then `act`, which gives STATE or PAYLOAD, or
acts on a command whose CSEQ has been taken and gives its result. A token of another opcode that passes its checks is another
row's. `none` is a command that could not be read. -/
def State.execEnds (s : State) (op : Nat) (token : Option Token) (refused : List Byte → Nat)
    (act : List Byte → State → State × Nat) : State :=
  match token with
  | none => s.endSec (s.f F.SEC_STAT_OPCODE) 2
  | some x =>
    let t : Token := { x with bytes := x.bytes.take (s.f F.SEC_CLEN_LEN) }
    let u := s.setF F.SEC_STAT_OPCODE (tokOpcode t)
    let p := tokPayload t
    if t.bytes.length < s.f F.SEC_CLEN_LEN then s.endSec (s.f F.SEC_STAT_OPCODE) 2
    else if s.tokenCheck t secOps ≠ 0 then u.endSec (tokOpcode t) (s.tokenCheck t secOps)
    else if tokOpcode t ≠ op then s
    else if refused p ≠ 0 then u.endSec op (refused p)
    else let r := act p (u.acceptToken t); r.1.endSec op r.2

/-- A command without a payload has none: else PAYLOAD. -/
def noPayload (p : List Byte) : Nat := if p = [] then 0 else 9

/-- SR_CLEAR: the soft-repair table is erased; spares in use stay. -/
def State.clearRepairs (s : State) : State := (s.modMem (fun m => { m with sr := [], srPend := [] })).setF F.ECC_SRRES_USED 0

/-- SR_CLEAR (Table 25-4). -/
def execSrClear (token : Option Token) (s : State) : Host.Outcome State Fault Refusal :=
  onlyIf (s.b F.SEC_STAT_BUSY = true) s (s.execEnds 3 token noPayload (fun _ t => (t.clearRepairs, 0)))

/-- LIFECYCLE (R582): the target must be the next row of Table 25-6. -/
def execLifecycle (token : Option Token) (burned : Bool) (s : State) : Host.Outcome State Fault Refusal :=
  onlyIf (s.b F.SEC_STAT_BUSY = true) s (s.execEnds 4 token
    (fun p => if p.length = 1 ∧ leNat p = s.fuse.lcs.val + 1 ∧ leNat p ≤ 3 then 0 else 9)
    (fun p t => if burned then (t.enterLife (Fin.ofNat 4 (leNat p)), 0) else (t, 0xA)))

/-- The slot that the header of flash slot 0 names in KEYSLOT. -/
def State.goldenSlot (s : State) : Nat := ((s.flashWords 0 6 1).getD 0 0).toNat

/-- What refuses a REVOKE: a load from HEADER to COMMIT, no usable slot left, in DEPLOYED the slot of the golden image (R576). -/
def State.revokeRefused (s : State) (p : List Byte) : Nat :=
  let n := leNat p
  if s.loading then 1
  else if p.length ≠ 1 ∨ 4 ≤ n then 9
  else if s.usable.filter (fun x => x ≠ n) = [] then 9
  else if s.fuse.lcs = 2 ∧ s.goldenSlot = n then 9
  else 0

/-- REVOKE (R576). -/
def execRevoke (token : Option Token) (burned : Bool) (s : State) : Host.Outcome State Fault Refusal :=
  onlyIf (s.b F.SEC_STAT_BUSY = true) s (s.execEnds 5 token s.revokeRefused
    (fun p t => if burned then ((t.burnRev (Fin.ofNat 4 (leNat p))).raise Ev.SEC_REVOKED [leNat p], 0) else (t, 0xA)))

/-- What refuses an ADD_KEY: a slot provisioned already, a payload that is no slot and hash. -/
def State.addRefused (s : State) (p : List Byte) : Nat :=
  let n := leNat (p.take 1)
  if n < 4 ∧ s.fuse.prov.get (Fin.ofNat 4 n) = true then 1 else if p.length ≠ 65 ∨ 4 ≤ n then 9 else 0

/-- ADD_KEY (R575, Table 25-4). -/
def execAddKey (token : Option Token) (burned : Bool) (s : State) : Host.Outcome State Fault Refusal :=
  onlyIf (s.b F.SEC_STAT_BUSY = true) s (s.execEnds 6 token s.addRefused
    (fun p t => (t.burnKey (Fin.ofNat 4 (leNat (p.take 1))) (leNat (p.drop 1)) burned, if burned then 0 else 0xA)))

/-- SETTINGS_DEFAULT: both copies are erased and LK fields unlock (Table 25-4). -/
def State.eraseSettings (s : State) : State :=
  let t : State := { s with nvs := { s.nvs with copies := Vector.replicate 2 none, locked := false } }
  ((t.setF F.NVS_STAT_COPY 0).setF F.NVS_STAT_ITEMS 0).setF F.NVS_GEN_GEN 0

/-- SETTINGS_DEFAULT (Table 25-4). -/
def execSettingsDefault (token : Option Token) (s : State) : Host.Outcome State Fault Refusal :=
  onlyIf (s.b F.SEC_STAT_BUSY = true) s (s.execEnds 7 token noPayload (fun _ t => (t.eraseSettings, 0)))

/-- PATCH (Table 25-4): the package is installed in the patch partition. -/
def execPatch (token : Option Token) (s : State) : Host.Outcome State Fault Refusal :=
  onlyIf (s.b F.SEC_STAT_BUSY = true) s (s.execEnds 8 token (fun _ => 0)
    (fun p t => ({ t with nvs := { t.nvs with patch := p } }, 0)))

end Sys2Proof.Machine
end

