-- ==== Sys2Proof/Machine/Views.lean ====
section
/-!
DEFINITION. Sys2Proof/Machine/Views.lean: what a read of a register returns where the register file does not hold it: the
registers of the sequencers, queues, planes, link groups and event sources, and the identity of the part.
-/
namespace Sys2Proof.Machine
open Sys2Proof

/-- A truth value as a bit at a place of a number. -/
def bitAt (b : Bool) (i : Nat) : Nat := if b then 2 ^ i else 0

/-- Position of an offset in a row of registers `step` bytes apart. -/
def rowAt (base step n off : Nat) : Option Nat :=
  if base ≤ off ∧ (off - base) % step = 0 ∧ (off - base) / step < n then some ((off - base) / step) else none

/-! ## Sequencers (Tables 6-8 to 6-11) -/

/-- Code of a sequencer state (Table 6-4). -/
def seqCode : SeqMode → Nat
  | .stopped => 0 | .running => 1 | .waitTime => 2 | .waitBar => 3 | .waitFlag => 4 | .waitQueue => 5 | .stall => 6 | .faulted => 7

/-- SEQn_STATUS but for BADSTART (Table 6-8). -/
def Seq.status (q : Seq) : Nat :=
  seqCode q.mode * 2 ^ 29 + bitAt q.inAlt 28 + bitAt q.inFault 27 + bitAt q.altPend.isSome 26 + bitAt q.n 24 + bitAt q.z 23
    + bitAt q.c 22 + bitAt q.v 21 + q.calls.length * 2 ^ 16 + q.loops.length * 2 ^ 13

/-- The sequencers whose arrival at a barrier flag is not yet released: a completed barrier's are, 4 fc after it (R171). -/
def State.atBarrier (s : State) (flag : Fin 16) : List (Fin 4) :=
  (List.finRange 4).filter (fun k =>
    match (s.seq k).wait with
    | .barrier f _ _ => f == flag
    | .released f _ due => f == flag && decide (s.tl.fc < due)
    | _ => false)

/-- SEQ0_BARARRn: the sequencers that wait at eight barrier flags (Table 6-11). -/
def State.arrivals (s : State) (n : Nat) : Nat :=
  (List.range 8).foldl (fun x f => (s.atBarrier (Fin.ofNat 16 (8 * n + f))).foldl (fun y k => y + 2 ^ (4 * f + k.val)) x) 0

/-- SEQ0_FLAGS.SET (Table 6-11). -/
def State.flagsSet (s : State) : Nat := (List.finRange 16).foldl (fun x f => x + bitAt (s.flags.get f).set f.val) 0

/-- A register of a sequencer's block, by its offset in it. -/
def State.viewSeq (s : State) (k : Fin 4) (o : Nat) : Option Nat :=
  let q := s.seqs.get k
  if o = 4 then some (q.status + bitAt (s.b (F.SEQ_STATUS_BADSTART k.val)) 25)
  else if o = 8 then some q.pc
  else if o = 0x18 then some q.sp
  else if o = 0x1C then some (q.sp / 2 ^ 32)
  else if o = 0x24 then some (q.inputs s.tl.fc).toNat
  else if o = 0x800 ∧ k = 0 then some (s.arrivals 0)
  else if o = 0x804 ∧ k = 0 then some (s.arrivals 1)
  else if o = 0x808 ∧ k = 0 then some (s.f F.SEQ0_FLAGS_ISBAR * 2 ^ 16 + s.flagsSet)
  else (rowAt 0x100 4 32 o).map (fun i => if i = 0 then 0 else (q.g.get (Fin.ofNat 32 i)).toNat)

/-! ## Queues (Table 11-11) -/

/-- A register of a queue in fc `now`, by its offset in the queue's 32 bytes. -/
def Queue.view (x : Queue) (now o : Nat) : Option Nat :=
  if o = 0 then some (bitAt x.en 31 + (if x.en then x.cfg % 2 ^ 31 else 0))
  else if o = 4 then some (if x.en then x.rbase % 2 ^ 23 else 0)
  else if o = 8 then some (if x.en then x.mbase % 2 ^ 23 else 0)
  else if o = 0xC then some (x.shown now).1
  else if o = 0x10 then some (x.shown now).2
  else none

/-! ## Planes (Table 4-9) -/

/-- Code of a plane state (Table 4-1). -/
def planeCode : PlaneSt → Nat
  | .empty => 0 | .refilling => 1 | .valid => 2 | .invalid => 3

/-- CFG_LkRj_PLN. -/
def State.viewPlanes (s : State) (k : Fin 4) (j : Fin 8) : Nat :=
  let r := s.region k j
  let p (n : Fin 4) : Nat := planeCode (r.planes.get n).st * 2 ^ 5 + (r.planes.get n).slot.val
  bitAt (match r.heldAt with | some f => decide (f ≤ s.tl.fc) | none => false) 31 + r.cur.val * 2 ^ 28 + p 3 * 2 ^ 21
    + p 2 * 2 ^ 14 + p 1 * 2 ^ 7 + p 0

/-! ## Link groups (Tables 13-6, 13-7) -/

/-- VL_GSTAT for the selected group. -/
def State.viewGroup (s : State) : Nat :=
  let j := s.f F.VL_GSEL_JOINT
  let g := s.f F.VL_GSEL_GROUP
  let x := s.vlGroup j g
  if vlExists j g = false then 2 ^ 26
  else bitAt x.failed 31 + bitAt x.pend 30 + x.spares * 2 ^ 27 + x.lanes.faill.getD 0x7F * 2 ^ 17 + x.corrs

/-- VL_GMAP for the selected group. -/
def State.viewGroupMap (s : State) : Nat :=
  if vlExists (s.f F.VL_GSEL_JOINT) (s.f F.VL_GSEL_GROUP) then (s.vlGroup (s.f F.VL_GSEL_JOINT) (s.f F.VL_GSEL_GROUP)).map else 0

/-- VL_Jj_STAT but for CORRCNT. -/
def State.viewJoint (s : State) (j : Nat) : Nat :=
  let l := (s.vl.groups.filter (fun e => e.1 / 4096 == j)).map (fun e => e.2)
  let bad := l.filter (fun x => x.lanes.faill.isSome)
  bitAt (l.any (fun x => x.failed)) 31 + bitAt (bad.any (fun x => x.spare.isNone)) 30 + bad.length * 2 ^ 16

/-! ## Events (Tables 21-4, 21-5) -/

/-- Severity that EVT_ROUTE shows of a source of varying severity: its latest occurrence's. -/
def State.viewSev (s : State) (n : Nat) : Nat :=
  match (s.src n).sev with
  | some v => sevCode v
  | none => 0

/-- EVT_ROUTEs. -/
def State.viewRoute (s : State) (n : Nat) : Word :=
  let w := s.reg (Rg.EVT_ROUTE n)
  if srcKnown n && (srcSev n).isNone then fldPut (F.EVT_ROUTE_SEV n) w (s.viewSev n) else w

/-! ## Time -/

/-- TL_STATUS (Table 8-5). -/
def State.viewTl (s : State) : Word :=
  fldPut F.TL_STATUS_HFN (fldPut F.TL_STATUS_EPOCH (fldPut F.TL_STATUS_RELEASED (s.reg Rg.TL_STATUS)
    (bitAt s.tl.released 0)) s.tl.epochs) s.tl.hfn

/-! ## Keys (Table 25-7) -/

/-- SEC_KRDw: the hash of slot SLOT, 0 while it is not provisioned. -/
def State.viewHash (s : State) (w : Nat) : Nat :=
  let n : Fin 4 := Fin.ofNat 4 (s.f F.SEC_KSLOT_SLOT)
  if s.fuse.prov.get n then s.fuse.keyHash.get n / 2 ^ (32 * w) else 0

/-- Four fuse bits as a number. -/
def fuseBits (v : Vector Bool 4) : Nat := (List.finRange 4).foldl (fun x n => x + bitAt (v.get n) n.val) 0

/-! ## Every register -/

/-- Registers of the block of the fabric's logic layers, by layer 0x20 and region 4 apart. -/
def State.viewCfg (s : State) (off : Nat) : Option Nat :=
  let o := off - Rg.CFG_LR_PLN 0 0
  if Rg.CFG_LR_PLN 0 0 ≤ off ∧ o < 0x80 then some (s.viewPlanes (Fin.ofNat 4 (o / 0x20)) (Fin.ofNat 8 (o % 0x20 / 4))) else none

/-- The value a register shows that the register file does not hold; none where the file holds it. -/
def State.viewOf (s : State) (off : Nat) : Option Word :=
  match regBlock off with
  | 0x0 => if off = Rg.DEV_GRADE then some (BitVec.ofNat 32 (bitAt (!s.fuse.grade1E) 0)) else none
  | 0x4 =>
    if off = Rg.EVT_SCNT then some (BitVec.ofNat 32 (s.src (s.f F.EVT_SEL_SRC)).count)
    else if off = Rg.EVT_STIME_LO then some (BitVec.ofNat 32 (s.src (s.f F.EVT_SEL_SRC)).time)
    else if off = Rg.EVT_STIME_HI then
      let t := (s.src (s.f F.EVT_SEL_SRC)).time
      some (BitVec.ofNat 32 (t / 2 ^ 34 * 2 ^ 16 + t / 2 ^ 32 % 4))
    else (rowAt (Rg.EVT_ROUTE 0) 4 1024 off).map s.viewRoute
  | 0x5 => if off = Rg.REC_STAGE then some (fldPut F.REC_STAGE_DEPTH (s.reg off) s.rcd.staged.length) else none
  | 0x6 => if off = Rg.NVS_IVAL then some (if hasSettings s.iofs then s.shadow s.iofs else 0) else none
  | 0x7 => (s.viewCfg off).map (BitVec.ofNat 32)
  | 0x8 =>
    if off = Rg.TL_STATUS then some s.viewTl
    else (rowAt (Rg.TL_SYSCTL 0) 16 4 off).map (fun i =>
      fldPut (F.TL_SYSCTL_ACTIVE i) (s.reg off) (bitAt (s.sysActive (Fin.ofNat 4 i)) 0))
  | 0x9 =>
    if s.rinomOff then some (regReset off)
    else if s.b F.TK_MBSTAT_BUSY ∧ Rg.TK_MBDATA 0 ≤ off then some 0 else none
  | 0xA => (rowAt (Rg.FH_LAG 0) 4 8 off).map (fun g => fldPut (F.FH_LAG_ACTIVE g) (s.reg off) (s.lagActive g).length)
  | 0xF =>
    if off = Rg.VL_GSTAT then some (BitVec.ofNat 32 s.viewGroup)
    else if off = Rg.VL_GMAP then some (BitVec.ofNat 32 s.viewGroupMap)
    else (rowAt (Rg.VL_J_STAT 0) 4 9 off).map (fun j => BitVec.ofNat 32 (s.viewJoint j + s.f (F.VL_J_STAT_CORRCNT j)))
  | 0x10 => (s.viewSeq (Fin.ofNat 4 ((off - 0x100000) / 0x10000)) (off % 0x10000)).map (BitVec.ofNat 32)
  | 0x20 =>
    if 0x8000 ≤ off % 0x10000 then
      ((s.queue (1024 * ((off - 0x200000) / 0x10000) + (off % 0x10000 - 0x8000) / 0x20)).view s.tl.fc (off % 0x20)).map (BitVec.ofNat 32)
    else none
  | 0x60 =>
    if off = Rg.SEC_STAT then some (fldPut F.SEC_STAT_LCS (s.reg off) s.fuse.lcs.val)
    else if off = Rg.SEC_KEYS then some (BitVec.ofNat 32 (16 * fuseBits s.fuse.rev + fuseBits s.fuse.prov))
    else match rowAt (Rg.SEC_SERIAL 0) 4 2 off, rowAt (Rg.SEC_KRD 0) 4 16 off, rowAt (Rg.SEC_MFGHASH 0) 4 16 off with
    | some i, _, _ => some (BitVec.ofNat 32 (s.fuse.serial / 2 ^ (32 * i)))
    | none, some w, _ => some (BitVec.ofNat 32 (s.viewHash w))
    | none, none, some w => some (BitVec.ofNat 32 (s.fuse.mfgHash / 2 ^ (32 * w)))
    | none, none, none => none
  | _ => none

/-- What a read of a register returns; an unassigned offset reads 0 (R587). -/
def State.view (s : State) (off : Nat) : Word := (s.viewOf off).getD (s.reg off)

/-- The high word of the 64-bit quantity whose low word stands at an offset (R15). -/
def hiOf (off : Nat) : Option Nat :=
  let single := [Rg.THERM_BROKEN_LO, Rg.EVT_STIME_LO, Rg.REC_TADDR_LO, Rg.CFG_HADDR_LO, Rg.CFG_RBHADDR_LO, Rg.CFG_CAPAT_LO,
    Rg.TL_OFFSET_LO, Rg.TK_WALL_LO, Rg.SEC_CADDR_LO, Rg.SEC_SERIAL 0]
  let rows := [(Rg.DEV_DMA_BASE_LO 0, 0x20, 32), (Rg.CFG_CAP_LO 0, 8, 4), (Rg.RPL_SNAP_LO 0, 8, 2), (Rg.SEQ_SP_LO 0, 0x10000, 4)]
  if single.contains off || rows.any (fun r => (rowAt r.1 r.2.1 r.2.2 off).isSome) then some (off + 4) else none

end Sys2Proof.Machine
end

