-- ==== Sys2Proof/Machine/Watchdogs.lean ====
section
/-!
DEFINITION. Sys2Proof/Machine/Watchdogs.lean: the timeouts of vertical transfers, of the register bus and of requests to the host,
and the device watchdog (chapter 23).
-/
namespace Sys2Proof.Machine
open Sys2Proof

/-! ## Vertical transfers (R536, R537) -/

/-- A vertical transfer has timed out: VTTO, DEV_VTLAST, VT_TIMEOUT. -/
def State.vtReport (s : State) (master port addr : Nat) : State :=
  ((s.incF F.DEV_FLTCNT_VTTO).reportLow Rg.DEV_VTLAST (64 * master + port)
    [(F.DEV_VTLAST_MASTER, master), (F.DEV_VTLAST_PORT, port), (F.DEV_VTLAST_ADDR, addr / 2 ^ 20), (F.DEV_VTLAST_VALID, 1)]).raise
    Ev.VT_TIMEOUT [master, port, addr / 2 ^ 20]

/-- A cancelled request is answered TIMEOUT in the present fc. -/
def Req.timeout (r : Req) (fc : Nat) : Req := { r with data := r.zeros, status := .timeout, fill := false, due := some fc }

/-- Byte of the memory layer a descriptor's next entry or beat lies at. -/
def DmaJob.place (j : DmaJob) : Nat := if descOp j.desc.toDescHead ≤ 2 then descQueue j.desc.toDescHead / 1024 * 2 ^ 23 else j.addr

/-- VT_TIMEOUT (R536, R537): a waiting transfer is cancelled. -/
def execVtTimeout (x : VtWaiter) (s : State) : Host.Outcome State Fault Refusal :=
  match x with
  | .port layer port =>
    let key := portKey layer port
    (match (s.port key).late? with
     | some r => ok ((s.vtReport layer.val port.val r.beatAddr).setHeadReq key (r.timeout s.tl.fc))
     | none => .next s)
  | .seq k =>
    (match s.seqLate k with
     | some op => ok ((s.vtReport k.val 32 op.addr).portEnd k op (portFault k op))
     | none => .next s)
  | .dma c =>
    (match mfind s.dma c.val with
     | some j => onlyIf (j.since + vtBound ≤ s.tl.fc) s ((s.vtReport dmaMaster 0 j.place).endJob c.val j dmaAbort)
     | none => .next s)
  | .bar2 bank =>
    (match s.hostWaits bank.val with
     | x :: rest => onlyIf (s.hostOldest x = true ∧ max x.since s.mem.hostAt + vtBound ≤ s.tl.fc) s ((s.vtReport 5 0 x.addr).endHost bank.val x rest)
     | [] => .next s)

/-! ## The register bus (R538) -/

/-- An access reached the bus and no rule has ended it: it is in progress, or held by a stopped clock (R412, R538). -/
def State.onBusStill (s : State) (who : Who) (off : Nat) : Bool :=
  match s.stopAccess who off with | none | some .held => true | some _ => false

/-- BUS_TIMEOUT (R538): an access that no earlier rule ends has not completed after 10 µs. -/
def execBusTimeout (who : Who) (write : Bool) (off : Nat) (s : State) : Host.Outcome State Fault Refusal :=
  let init := match who with | .host => 0 | .mgmt => 1
  let t := ((s.incF F.DEV_FLTCNT_BUSTO).reportLow Rg.DEV_BUSLAST init
    [(F.DEV_BUSLAST_INIT, init), (F.DEV_BUSLAST_WRITE, if write then 1 else 0), (F.DEV_BUSLAST_OFFSET, off / 4),
     (F.DEV_BUSLAST_VALID, 1)]).raise Ev.BUS_TIMEOUT [init, off]
  onlyIf (s.onBusStill who off = true) s { t with reply := if who = .host then .abort else .busError }

/-! ## Requests to the host (R539) -/

/-- PCIE_COMPLETION_TIMEOUT (R539). -/
def execPcieCompletionTimeout (x : HostWaiter) (s : State) : Host.Outcome State Fault Refusal :=
  match x with
  | .dma c d r =>
    ok (s.descriptor c.val d.toDescHead (if descOp d.toDescHead = 1 then 1 else 3) (fun t => t.startJob c.val d { r with failed := true }))
  | .load =>
    (match s.ld with
     | some l => onlyIf (l.flash = false ∧ (s.ldStage = stHeader ∨ s.ldStage = stStream)) s (s.rejectLoad l rHosterr l.pos l.pos)
     | none => .next s)
  | .readback => onlyIf (s.rb.isSome = true) s (s.endReadback 3)

/-! ## The device watchdog (R541, R542) -/

/-- DEV_WDKICK (R541). -/
def execDevWdkick (who : Who) (v : Word) (s : State) : Host.Outcome State Fault Refusal :=
  ok (s.onBus who Rg.DEV_WDKICK v (fun t =>
    if v = 0x4B49434B ∧ t.b F.DEV_WDCFG_HOSTKICK = true ∧ t.wdRuns = true then t.setF F.DEV_WDSTAT_REMAIN t.wdFull else t))

/-- DEV_WDOG (R541, R542): the watchdog expires, `sec` seconds into the present unit of operating time: a fenced fabric restart,
or with the fourth expiry in 3,600 s a system reset that loads flash slot 0 only. Where that has to wait for the end of COMMIT
(R383) the watchdog runs on, with its full time. -/
def execDevWdog (sec : Fin 15) (flushed : Bool) (s : State) : Host.Outcome State Fault Refusal :=
  let now := s.opSeconds sec.val
  let l := (now :: recent now s.pwr.wdTimes).take 4
  let a : State := { s with pwr := { s.pwr with wdTimes := l } }
  let b := (((a.setF F.DEV_WDSTAT_EXPIRED 1).setF F.DEV_WDSTAT_WIN l.length).setF F.DEV_WDSTAT_REMAIN a.wdFull).raise Ev.DEV_WDOG
    [byWatchdog, l.length]
  let c := b.raise Ev.DEV_WDOG_ESCALATE [l.length]
  let d : State := { c with pwr := { c.pwr with golden := true } }
  onlyIf (s.wdLate = true) s
    (if 4 ≤ l.length then (d.systemReset 0 flushed).wdUpdate true else b.askRestart byWatchdog false)

end Sys2Proof.Machine
end

