-- ==== Sys2Proof/Machine/Triggers.lean ====
section
/-! DEFINITION. Sys2Proof/Machine/Triggers.lean: the write-only fields that start something, as a plain write of their
register finds them (Table 0-4). A plain write and the command of its own that the register has act alike. An operation that
brings more than the written word - bytes of host memory, a token, a flush in time - is started by its own command alone.
-/
namespace Sys2Proof.Machine
open Sys2Proof

/-- OP of a command register that has it in its four highest bits. -/
def opOf (v : Word) : Nat := nbits v.toNat 28 4

/-- Command registers of the CFG block (R387, R388, R400 to R403). -/
def State.cfgTrigger (s : State) (who : Who) (off : Nat) (v : Word) : Option (Host.Outcome State Fault Refusal) :=
  if off = Rg.CFG_CMD then some (if opOf v = 2 then execAbort who v s else execLoad who v s)
  else if off = Rg.CFG_FLCMD then some (execErase who v s)
  else if off = Rg.CFG_RBCMD then some (if opOf v = 3 then execReadbackAbort who v s else execRead who v s)
  else if off = Rg.CFG_CAPCTL then some (ok (s.onBus who Rg.CFG_CAPCTL v (fun t => t.capWrite v.toNat)))
  else none

/-- Command registers of power, temperature, settings, security, the recorder and replay (R431, R475, R492 to R502, R530,
R532, R541, R556 to R565, R572, R582). -/
def State.serviceTrigger (s : State) (who : Who) (off : Nat) (v : Word) : Option (Host.Outcome State Fault Refusal) :=
  if off = Rg.PWR_RST then some (if nbits v.toNat 0 3 = 4 then execMgmt who v s else execFabric who v s)
  else if off = Rg.PWR_CMD then some (if nbits v.toNat 30 2 = 2 then execExit who v s else execEnter who v s)
  else if off = Rg.THERM_CTL then some (execRestart who v s)
  else if off = Rg.THERM_CALCTL then some (execSensorRunRequest who v s)
  else if off = Rg.NVS_CMD then some (execStore who v s)
  else if off = Rg.SEC_CMD ∧ opOf v = 3 then some (execAdvance who v s)
  else if off = Rg.DEV_WDKICK then some (execDevWdkick who v s)
  else if off = Rg.REC_CMD then
    (match opOf v with
     | 1 => some (execFreeze who s)
     | 2 => some (execThaw who s)
     | 3 => some (execNonce who s)
     | _ => none)
  else if off = Rg.RPL_CMD then
    some (match opOf v with
     | 2 => execRplFreeze who v s
     | 3 => execReplayEnter who v s
     | 4 => execReplayExit who v s
     | _ => execStartCapture who v s)
  else none

/-- Command registers of air time, the memory layer, the fronthaul and the error counts (R74, R103, R150, R221, R224, R292, R319,
R343). -/
def State.dataTrigger (s : State) (who : Who) (off : Nat) (v : Word) : Option (Host.Outcome State Fault Refusal) :=
  if off = Rg.TL_CTL then some (execRelease who v s)
  else if off = Rg.MEM_CMO then some (ok (s.cmo who v))
  else if off = Rg.FH_FTCMD then some (execFlowTableWrite who v s)
  else if off = Rg.ECC_SRADD then some (execEccSradd who v s)
  else if off = Rg.ECC_PUCLR then some (execEccPuclr who ⟨v, []⟩ s)
  else if off = Rg.ECC_HCCLR then some (execEccHcclr who ⟨v, []⟩ s)
  else if off = Rg.VL_SHCLR then some (execVlShclr who ⟨v, []⟩ s)
  else none

/-- Command registers that come in rows: domains, sequencers, lanes, queue controllers (R178, R179, R299, R300, R414, R475). -/
def State.rowTrigger (s : State) (who : Who) (off : Nat) (v : Word) : Option (Host.Outcome State Fault Refusal) :=
  match rowAt (Rg.CLK_DOM 1) 4 25 off, rowAt (Rg.SEQ_CTL 0) 0x10000 4 off, rowAt (Rg.SDS_LANE_CAL 0) 0x20 32 off,
      rowAt (Rg.QC_ACMD 0) 0x10000 32 off with
  | some d, _, _, _ => some (execPrimary who (Fin.ofNat 26 (d + 1)) v s)
  | none, some k, _, _ => some (execStart who (Fin.ofNat 4 k) v s)
  | none, none, some p, _ => some (execAdaptationRequest who (Fin.ofNat 32 p) v s)
  | none, none, none, some c =>
    (match nbits v.toNat 30 2 with
     | 1 => some (execAlloc who (Fin.ofNat 32 c) s)
     | 2 => some (execFree who (Fin.ofNat 32 c) (Fin.ofNat 1024 (nbits v.toNat 0 10)) s)
     | _ => none)
  | none, none, none, none => none

/-- What a plain write of a register with a trigger field starts; none where the word starts nothing of the register's. -/
def State.trigger (s : State) (who : Who) (off : Nat) (v : Word) : Option State :=
  match (((s.cfgTrigger who off v).or (s.serviceTrigger who off v)).or (s.dataTrigger who off v)).or (s.rowTrigger who off v) with
  | some (.next t) => some t
  | _ => none

end Sys2Proof.Machine
end

