-- ==== Sys2Proof/Machine/Plain.lean ====
section
/-!
DEFINITION. Sys2Proof/Machine/Plain.lean: accesses of BAR0 that have no command of their own: reads, writes of plain fields, the
MSI-X table and PBA, and reads of the doorbell window (R14 to R18, R266, R303, R454 to R456, R587, R588).
-/
namespace Sys2Proof.Machine
open Sys2Proof

/-! ## Reads -/

/-- A register has an RC field that holds a least value: the next sample after a read begins it anew (Tables 13-12, 20-9). -/
def holdsLeast (off : Nat) : Bool := (rowAt (Rg.PWR_RAIL 0) 4 11 off).isSome || (rowAt (Rg.VL_J_PHASE 0) 4 9 off).isSome

/-- A read clears the RC fields of its register to 0 (Table 0-4). -/
def State.clearRc (s : State) (off : Nat) : State :=
  if off = Rg.EVT_SCNT then s.setSrc (s.f F.EVT_SEL_SRC) { s.src (s.f F.EVT_SEL_SRC) with count := 0 }
  else match regRow off with
    | some r =>
      if r.rc = 0 then s
      else
        let t := s.setReg off (s.reg off &&& ~~~r.rc)
        if holdsLeast off then { t with unsampled := off :: t.unsampled.filter (· != off) } else t
    | none => s

/-! ### What hardware does in the register-bus cycle of an access (R20) -/

/-- The field of an access's register that hardware met in its cycle. -/
def meetFld (e : Meet) (off : Nat) : Fld := ⟨off, e.lo, e.w⟩

/-- What the cycle added to a field, of what the field held then. -/
def meetAdded (e : Meet) (off : Nat) (v : Word) : Nat := min e.n (fldGet (meetFld e off) v)

/-- The bits of an RC or W1C field lie under its mask. -/
def meetIn (e : Meet) (m : Word) : Bool := nbits m.toNat e.lo e.w == 2 ^ e.w - 1

/-- RC bits of a register. -/
def rcMask (off : Nat) : Word := if off = Rg.EVT_SCNT then 0xFFFF else match regRow off with | some r => r.rc | none => 0

/-- What a read that clears returns: an RC bit set in its cycle as 1, a count without what its cycle added (R20). -/
def metReply (same : List Meet) (off : Nat) (v : Word) : Word :=
  same.foldl (fun w e =>
    if meetIn e (rcMask off) ∧ e.w ≠ 1 then fldPut (meetFld e off) w (fldGet (meetFld e off) v - meetAdded e off v) else w) v

/-- What a read that clears leaves: an RC bit set in its cycle, and in a count exactly what the cycle added (R20). -/
def State.metAfter (t : State) (same : List Meet) (off : Nat) (v : Word) : State :=
  same.foldl (fun t e =>
    if meetIn e (rcMask off) then
      let n := if e.w = 1 then fldGet (meetFld e off) v else meetAdded e off v
      if off = Rg.EVT_SCNT then t.setSrc (t.f F.EVT_SEL_SRC) { t.src (t.f F.EVT_SEL_SRC) with count := n } else t.setF (meetFld e off) n
    else t) t

/-- A W1C bit that hardware sets in the cycle of a clearing write stays set (R20). -/
def State.metKept (t : State) (same : List Meet) (off : Nat) (v : Word) : State :=
  match regRow off with
  | some r => same.foldl (fun t e => if e.w = 1 ∧ meetIn e r.w1c = true then t.setF (meetFld e off) (fldGet (meetFld e off) v) else t) t
  | none => t

/-- The read of a low word latches its high word (R15). -/
def State.latchHi (s : State) (off : Nat) : State :=
  match hiOf off with
  | some h => { s with shadowHi := mins s.shadowHi h (s.view h) }
  | none => s

/-- The byte of recorder NVM a read of REC_RDDATA starts at. -/
def State.rdOfs (s : State) : Nat := 4 * s.f F.REC_RDPTR_OFS

/-- The read pointer after a read: within the ring, or within the first-fault zone, it wraps (R531). -/
def rdNext (a : Nat) : Nat := if a = 0xFFFFC then 0x10000 else if a = 0xFFFC then 0 else a + 4

/-- A read of REC_RDDATA: 4 bytes of recorder NVM, and the pointer moves on (R531). -/
def State.readNvm (s : State) : State :=
  let a := s.rdOfs
  let w := leNat ((List.range 4).map (fun i => mget 0 s.rcd.nvm (a + i)))
  { s.setF F.REC_RDPTR_OFS (rdNext a / 4) with reply := .data (BitVec.ofNat 32 w) }

/-- A read of a register, in whose cycle hardware met the fields of `same`. -/
def State.readReg (s : State) (off : Nat) (same : List Meet) : State :=
  let v := s.view off
  if off = Rg.TL_AT_LO then s.sampleAt
  else if off = Rg.REC_RDDATA then s.readNvm
  else match mfind s.shadowHi off with
    | some w => { (s.clearRc off).metAfter same off v with shadowHi := mdel s.shadowHi off, reply := .data w }
    | none => { ((s.latchHi off).clearRc off).metAfter same off v with reply := .data (metReply same off v) }

/-! ## MSI-X (R454, R455) -/

/-- A word of an MSI-X table: of Vector Control only Mask exists. -/
def State.tableWrite (s : State) (i : Nat) (v : Word) : State :=
  ({ s.setMsixWord i (if i % 4 = 3 then v &&& 1#32 else v) with reply := .done } : State).unhold

/-- A word of a PBA: the vectors from one on whose messages are withheld. -/
def State.pbaWord (s : State) (vec : Nat) : Word :=
  BitVec.ofNat 32 ((List.range 32).foldl (fun x i => x + bitAt (mget false s.evt.pba (vec + i)) i) 0)

/-- An access of an MSI-X table of `n` vectors and its PBA, each by a byte offset, whose first vector is `vec`; none where it
is neither. -/
def State.msixAccess (s : State) (vec n tbl pba off : Nat) (wr : Option Word) : Option State :=
  match rowAt tbl 4 (4 * n) off, rowAt pba 4 (n / 32) off with
  | some i, _ => some (match wr with
    | some v => s.tableWrite (4 * vec + i) v
    | none => { s with reply := .data (s.msixWord (4 * vec + i)) })
  | none, some i => some { s with reply := match wr with | some _ => .done | none => .data (s.pbaWord (vec + 32 * i)) }
  | none, none => none

/-! ## Writes -/

/-- A write of SEC_CMD with OP = EXEC starts a signed command (R581). -/
def State.secExec (s : State) (who : Who) (v : Word) : State := s.secWrite who v 1 (fun t => t.setF F.SEC_STAT_BUSY 1)

/-- A write of an event register that decides what is deliverable (R509, R513). -/
def evtDecides (off : Nat) : Bool :=
  (decide (Rg.EVT_EN 0 ≤ off) && decide (off < Rg.EVT_PEND 0)) || off == Rg.EVT_CTL || (rowAt (Rg.EVT_ROUTE 0) 4 1024 off).isSome

/-- A write of a register of the block that sends messages, the device watchdog or a port group. -/
def State.writeOther (s : State) (who : Who) (off : Nat) (v : Word) : State :=
  if off = Rg.DEV_WDCFG then s.onBus who off v (fun t => t.wdUpdate s.wdRuns)
  else if off = Rg.SEC_CMD then s.secExec who v
  else if off = Rg.NVS_IVAL then s.ivalWrite who v
  else if off = Rg.TL_DEPCFG then s.depWrite who v
  else if off = Rg.CLK_GATE0 then s.gateWrite who 0 v
  else if off = Rg.CLK_GATE1 then s.gateWrite who 1 v
  else if evtDecides off then s.onBus who off v State.settle
  else if (rowAt (Rg.DEV_VF_CFG 0) 4 32 off).isSome then s.onBus who off v State.unhold
  else if off = Rg.TK_MBCMD then (let d := s.draw 1; d.2.mbWrite who v (d.1 == 1#1))
  else if off / 0x10000 = 9 then s.tkWrite who off (off == Rg.TK_MBCMD || decide (Rg.TK_MBDATA 0 ≤ off)) (s.onBus who off v id)
  else match rowAt (Rg.FH_LAG_MEMBERS 0) 4 8 off with
    | some g => s.onBus who off v (fun t => if s.b (F.FH_LAG_EN g) then s else t)
    | none => s.onBus who off v id

/-- A write of a register that starts nothing. -/
def State.writeFixed (s : State) (who : Who) (off : Nat) (v : Word) : State :=
  match rowAt (Rg.EVT_PEND 0) 4 32 off, rowAt (Rg.FH_PORT_CFG 0) 0x20 32 off, rowAt (Rg.JESD_LINK_CFG 0) 0x10 16 off,
      rowAt (Rg.TL_SYSCTL 0) 0x10 4 off, rowAt (Rg.MEM_BANK_CFG 0) 4 32 off with
  | some w, _, _, _, _ => s.pendWrite who (Fin.ofNat 32 w) v
  | none, some p, _, _, _ => s.portWrite who (Fin.ofNat 32 p) v
  | none, none, some k, _, _ => s.linkWrite who (Fin.ofNat 16 k) v
  | none, none, none, some i, _ => s.sysrefWrite who (Fin.ofNat 4 i) v
  | none, none, none, none, some n => s.bankCfg who (Fin.ofNat 32 n) v
  | none, none, none, none, none => s.writeOther who off v

/-- A write of a register: what its trigger fields start, or what its other fields do. -/
def State.writeReg (s : State) (who : Who) (off : Nat) (v : Word) : State := (s.trigger who off v).getD (s.writeFixed who off v)

/-! ## Accesses -/

/-- An access that gets no further than the PCIe controller or the bus. -/
def State.aborts (s : State) : State := { s with reply := .abort }

/-- An access of the PF's BAR0, or of the management firmware. -/
def State.access0 (s : State) (who : Who) (off : Nat) (wr : Option Word) (same : List Meet) : State :=
  match s.stopAccess who off with
  | some r => s.refuse who off r
  | none =>
    match s.msixAccess 0 1024 0x48000 0x4C000 off wr with
    | some t => t
    | none => match wr with
      | some v => (s.writeReg who off v).metKept same off (s.reg off)
      | none => s.readReg off same

/-- An access of a VF's BAR0: its MSI-X table and PBA, while EN is 1 (R455). -/
def State.accessVf (s : State) (v : Fin 32) (off : Nat) (wr : Option Word) : State :=
  if s.b (F.DEV_VF_CFG_EN v.val) = false ∨ s.pwr.stable = false then s.aborts
  else (s.msixAccess (1024 + 32 * v.val) 32 0 0x2000 off wr).getD s.aborts

/-- Queue that an offset of BAR4 belongs to: of a VF, a local queue of its controller (R303, R455). -/
def State.bar4Queue (s : State) (vf : Option (Fin 32)) (off : Nat) : Nat :=
  match vf with
  | none => off / 0x40
  | some v => 1024 * s.f (F.DEV_VF_CFG_QC v.val) + off / 0x40

/-- An access of BAR4 that is no doorbell: PTR and STAT read (Table 11-5); while M is fenced a read completes with a Completer
Abort (R364). -/
def State.accessBar4 (s : State) (vf : Option (Fin 32)) (off : Nat) (wr : Option Word) : State :=
  let q := s.bar4Queue vf off
  if s.bar4Stop vf q then s.aborts
  else match wr with
    | some _ => { s with reply := .done }
    | none =>
      if s.closed 0 then s.aborts
      else { s with reply := .data (BitVec.ofNat 32
        (if off % 0x40 = 8 then ((s.queue q).shown s.tl.fc).2 else if off % 0x40 = 0xC then ((s.queue q).shown s.tl.fc).1 else 0)) }

/-- PLAIN_WRITE (R14, R17): only aligned 32-bit accesses; a poisoned write is discarded and reported through
AER (R456). -/
def execPlainWrite (a : Access) (s : State) : Host.Outcome State Fault Refusal :=
  ok (if a.size ≠ 4 ∨ a.off % 4 ≠ 0 then s.aborts
    else if a.poisoned ∧ a.wr.isSome = true then
      { s.raise Ev.PCIE_AER_UNCORR [match a.vf with | some v => 1 + v.val | none => 0] with reply := .done }
    else if a.bar4 then s.accessBar4 a.vf a.off a.wr
    else match a.vf with
      | some v => s.accessVf v a.off a.wr
      | none => s.access0 a.who a.off a.wr a.same)

/-- REC_RDDATA (R531). -/
def execRecRddata (who : Who) (s : State) : Host.Outcome State Fault Refusal :=
  ok (match s.stopAccess who Rg.REC_RDDATA with
    | some r => s.refuse who Rg.REC_RDDATA r
    | none => s.readNvm)

end Sys2Proof.Machine
end

