-- ==== Sys2Proof/Machine/TestPorts.lean ====
section
/-!
DEFINITION. Sys2Proof/Machine/TestPorts.lean: the JTAG test access port (R463) and the SMBus target (R464).
-/
namespace Sys2Proof.Machine
open Sys2Proof

/-! ## JTAG -/

/-- The TAP after its reset: IEEE 1149.1 selects IDCODE. -/
def Tap.start (t : Tap) (low : Bool) : Tap := { t with reset := low, inst := .idcode, cells := [] }

/-- TRST_N (R463, R488): low, the test reset, which reaches the TAP only. -/
def execTrstN (high : Bool) (s : State) : Host.Outcome State Fault Refusal :=
  ok { s with tap := if high then { s.tap with reset := false } else s.tap.start true }

/-- An instruction takes effect while TRST_N is high. -/
def State.tapDo (s : State) (i : TapInst) : State := if s.tap.reset then s else { s with tap := { s.tap with inst := i } }

/-- BYPASS (R463). -/
def execBypass (s : State) : Host.Outcome State Fault Refusal := ok (s.tapDo .bypass)

/-- IDCODE (R463): CFG_IDCODE is shifted out. -/
def execIdcode (s : State) : Host.Outcome State Fault Refusal :=
  ok (if s.tap.reset then s else (s.tapDo .idcode).emit (.tdo (s.reg Rg.CFG_IDCODE)))

/-- SAMPLE/PRELOAD (R463): the boundary cells take what is shifted in. -/
def execSamplePreload (cells : List Bool) (s : State) : Host.Outcome State Fault Refusal :=
  ok (if s.tap.reset then s else { s with tap := { s.tap with inst := .samplePreload, cells := cells } })

/-- EXTEST (R463): the preloaded cells drive the pins. -/
def execExtest (s : State) : Host.Outcome State Fault Refusal := ok (s.tapDo .extest)

/-- CLAMP (R463): the preloaded cells hold the pins, with the bypass register selected. -/
def execClamp (s : State) : Host.Outcome State Fault Refusal := ok (s.tapDo .clamp)

/-- HIGHZ (R463): the pins are not driven. -/
def execHighz (s : State) : Host.Outcome State Fault Refusal := ok (s.tapDo .highz)

/-! ## SMBus -/

/-- The target acknowledges: management firmware runs (Table 20-4, R464). -/
def State.smbUp (s : State) : Bool := s.pwr.booted && !s.pwr.mgmtRst

/-- A command of Table 18-3 is answered, or not acknowledged. -/
def State.smb (s : State) (code : Nat) (data : List Byte) : State :=
  if s.smbUp then s.emit (.smb code data) else s.emit (.smbNack code)

/-- SMB_DEV_ID (Table 18-3). -/
def execSmbDevId (s : State) : Host.Outcome State Fault Refusal := ok (s.smb 0 (leBytes 4 (s.reg Rg.DEV_ID).toNat))

/-- SMB_THERM_BAND (Table 18-3). -/
def execSmbThermBand (s : State) : Host.Outcome State Fault Refusal := ok (s.smb 1 (leBytes 4 (s.reg Rg.THERM_BAND).toNat))

/-- The hottest sound on-die reading; with none, it is not stated. -/
def State.hottestAll (s : State) : Nat × State :=
  match s.hottest ((List.range 10).flatMap s.sound) with
  | some m => (unsgn 16 m, s)
  | none => let r := s.draw 16; (r.1.toNat, r.2)

/-- SMB_TEMPERATURE (Table 18-3). -/
def execSmbTemperature (s : State) : Host.Outcome State Fault Refusal :=
  let r := s.hottestAll
  ok (r.2.smb 2 (leBytes 2 r.1))

/-- FAULT_N is asserted: while FAULT is 1, and until step 3 of start-up ends (R519). -/
def State.faultLow (s : State) : Bool := s.b F.EVT_STAT_FAULT || !s.pwr.booted

/-- The status byte of Table 18-3. -/
def State.smbByte (s : State) : Nat :=
  s.f F.CFG_STATUS_DONE + 2 * s.f F.EVT_STAT_ALERT + 4 * (if s.faultLow then 1 else 0) + 8 * s.f F.THERM_STAT_TRIPPED
    + 16 * s.f F.TL_STATUS_TKSTATE

/-- SMB_STATUS (Table 18-3). -/
def execSmbStatus (s : State) : Host.Outcome State Fault Refusal := ok (s.smb 3 (leBytes 1 s.smbByte))

/-- SMB_TL_TEE (Table 18-3). -/
def execSmbTlTee (s : State) : Host.Outcome State Fault Refusal := ok (s.smb 4 (leBytes 4 (s.reg Rg.TL_TEE).toNat))

end Sys2Proof.Machine
end

