-- ==== Sys2Proof/Machine/Dispatch.lean ====
section
/-!
DEFINITION. Sys2Proof/Machine/Dispatch.lean: one arm per command.
-/
namespace Sys2Proof.Machine
open Sys2Proof

/-- The effect of a command on everything but the queue of commands that wait. -/
def exec (i : Instr) (s : State) : Host.Outcome State Fault Refusal :=
  match i with
  | .plainWrite a => Sys2Proof.Machine.execPlainWrite a s
  | .tlAtLo who => Sys2Proof.Machine.execTlAtLo who s
  | .recRddata who => Sys2Proof.Machine.execRecRddata who s
  | .sfnCycleWrap => Sys2Proof.Machine.execSfnCycleWrap s
  | .frameBoundary ref => Sys2Proof.Machine.execFrameBoundary ref s
  | .upset layer plane tile group flip => Sys2Proof.Machine.execUpset layer plane tile group flip s
  | .planeUpset layer plane tile group found => Sys2Proof.Machine.execPlaneUpset layer plane tile group found s
  | .setResetRelease => Sys2Proof.Machine.execSetResetRelease s
  | .regionalSetResetRelease layer region => Sys2Proof.Machine.execRegionalSetResetRelease layer region s
  | .shaftCorr b g syndrome => Sys2Proof.Machine.execShaftCorr b g syndrome s
  | .shaftSwap b g => Sys2Proof.Machine.execShaftSwap b g s
  | .correctionWindow => Sys2Proof.Machine.execCorrectionWindow s
  | .vlShclr who v => Sys2Proof.Machine.execVlShclr who v s
  | .eccPuclr who v => Sys2Proof.Machine.execEccPuclr who v s
  | .eccHcclr who v => Sys2Proof.Machine.execEccHcclr who v s
  | .waitat k e target => Sys2Proof.Machine.execWaitat k e target s
  | .waitatr k e a b => Sys2Proof.Machine.execWaitatr k e a b s
  | .waitrel k e o => Sys2Proof.Machine.execWaitrel k e o s
  | .align k e a period => Sys2Proof.Machine.execAlign k e a period s
  | .timelineWaitEnd k => Sys2Proof.Machine.execTimelineWaitEnd k s
  | .prefetch k e o => Sys2Proof.Machine.execPrefetch k e o s
  | .refillComplete layer region plane errs => Sys2Proof.Machine.execRefillComplete layer region plane errs s
  | .switch k e o => Sys2Proof.Machine.execSwitch k e o s
  | .switchStall k => Sys2Proof.Machine.execSwitchStall k s
  | .pendingAlt k => Sys2Proof.Machine.execPendingAlt k s
  | .flopsel k e o => Sys2Proof.Machine.execFlopsel k e o s
  | .capture k e o => Sys2Proof.Machine.execCapture k e o s
  | .br k e target => Sys2Proof.Machine.execBr k e target s
  | .brc k e cond target => Sys2Proof.Machine.execBrc k e cond target s
  | .call k e target => Sys2Proof.Machine.execCall k e target s
  | .ret k e => Sys2Proof.Machine.execRet k e s
  | .loop k e last o => Sys2Proof.Machine.execLoop k e last o s
  | .halt k e => Sys2Proof.Machine.execHalt k e s
  | .nop k e => Sys2Proof.Machine.execNop k e s
  | .programWriteBack k addr => Sys2Proof.Machine.execProgramWriteBack k addr s
  | .movi k e d v => Sys2Proof.Machine.execMovi k e d v s
  | .add k e d a o => Sys2Proof.Machine.execAdd k e d a o s
  | .sub k e d a o => Sys2Proof.Machine.execSub k e d a o s
  | .and k e d a o => Sys2Proof.Machine.execAnd k e d a o s
  | .or k e d a o => Sys2Proof.Machine.execOr k e d a o s
  | .xor k e d a o => Sys2Proof.Machine.execXor k e d a o s
  | .shl k e d a o => Sys2Proof.Machine.execShl k e d a o s
  | .shr k e d a arith o => Sys2Proof.Machine.execShr k e d a arith o s
  | .cmp k e a o => Sys2Proof.Machine.execCmp k e a o s
  | .movs k e d sel => Sys2Proof.Machine.execMovs k e d sel s
  | .qpush k e a o => Sys2Proof.Machine.execQpush k e a o s
  | .qpop k e d o => Sys2Proof.Machine.execQpop k e d o s
  | .seqPortAccess k abort entry md => Sys2Proof.Machine.execSeqPortAccess k abort entry md s
  | .qwait k e full o => Sys2Proof.Machine.execQwait k e full o s
  | .qwaitEnd k => Sys2Proof.Machine.execQwaitEnd k s
  | .hcoef k e a b tile group count => Sys2Proof.Machine.execHcoef k e a b tile group count s
  | .hcoefGroupWrite k abort errs => Sys2Proof.Machine.execHcoefGroupWrite k abort errs s
  | .raise k e sev event a => Sys2Proof.Machine.execRaise k e sev event a s
  | .log k e a count type sev => Sys2Proof.Machine.execLog k e a count type sev s
  | .evclr k e o => Sys2Proof.Machine.execEvclr k e o s
  | .barrier k e mask flag => Sys2Proof.Machine.execBarrier k e mask flag s
  | .barrierComplete flag => Sys2Proof.Machine.execBarrierComplete flag s
  | .barrierTimeout flag => Sys2Proof.Machine.execBarrierTimeout flag s
  | .signal k e flag => Sys2Proof.Machine.execSignal k e flag s
  | .wait k e flag => Sys2Proof.Machine.execWait k e flag s
  | .flagWaitEnd k => Sys2Proof.Machine.execFlagWaitEnd k s
  | .waitTimeout k => Sys2Proof.Machine.execWaitTimeout k s
  | .start who k v => Sys2Proof.Machine.execStart who k v s
  | .seqStarted k => Sys2Proof.Machine.execSeqStarted k s
  | .stop who k v => Sys2Proof.Machine.execStop who k v s
  | .operandSet layer tile block e0 e1 => Sys2Proof.Machine.execOperandSet layer tile block e0 e1 s
  | .hornResult layer tile block => Sys2Proof.Machine.execHornResult layer tile block s
  | .coefficientWriteBack layer tile block addr => Sys2Proof.Machine.execCoefficientWriteBack layer tile block addr s
  | .release who v => Sys2Proof.Machine.execRelease who v s
  | .reltoTimeout => Sys2Proof.Machine.execReltoTimeout s
  | .rebase who v => Sys2Proof.Machine.execRebase who v s
  | .atCopyCorr copy flips => Sys2Proof.Machine.execAtCopyCorr copy flips s
  | .departure port q errs => Sys2Proof.Machine.execDeparture port q errs s
  | .tlDepcfg who v => Sys2Proof.Machine.execTlDepcfg who v s
  | .tlSysctl who n v => Sys2Proof.Machine.execTlSysctl who n v s
  | .sysrefPulse n => Sys2Proof.Machine.execSysrefPulse n s
  | .ppsPulse => Sys2Proof.Machine.execPpsPulse s
  | .rinomTick m => Sys2Proof.Machine.execRinomTick m s
  | .modelSample sample temp => Sys2Proof.Machine.execModelSample sample temp s
  | .tkModelRefit => Sys2Proof.Machine.execTkModelRefit s
  | .modelLogWrite => Sys2Proof.Machine.execModelLogWrite s
  | .leapSecond => Sys2Proof.Machine.execLeapSecond s
  | .rinomReset => Sys2Proof.Machine.execRinomReset s
  | .rinomWatchdog => Sys2Proof.Machine.execRinomWatchdog s
  | .ppsIn gap => Sys2Proof.Machine.execPpsIn gap s
  | .zda utc endMs => Sys2Proof.Machine.execZda utc endMs s
  | .info who len => Sys2Proof.Machine.execInfo who len s
  | .attest who len => Sys2Proof.Machine.execAttest who len s
  | .getKey who len => Sys2Proof.Machine.execGetKey who len s
  | .setRef who len => Sys2Proof.Machine.execSetRef who len s
  | .setLock who len => Sys2Proof.Machine.execSetLock who len s
  | .setAsym who len => Sys2Proof.Machine.execSetAsym who len s
  | .setLeap who len => Sys2Proof.Machine.execSetLeap who len s
  | .force who len => Sys2Proof.Machine.execForce who len s
  | .setTime who len sigOk => Sys2Proof.Machine.execSetTime who len sigOk s
  | .setModel who len => Sys2Proof.Machine.execSetModel who len s
  | .modelRead who len => Sys2Proof.Machine.execModelRead who len s
  | .modelReset who len => Sys2Proof.Machine.execModelReset who len s
  | .logRead who len => Sys2Proof.Machine.execLogRead who len s
  | .setTod who len => Sys2Proof.Machine.execSetTod who len s
  | .tkMbDone => Sys2Proof.Machine.execTkMbDone s
  | .portRequest layer port r => Sys2Proof.Machine.execPortRequest layer port r s
  | .performCycle unit cyc errs => Sys2Proof.Machine.execPerformCycle unit cyc errs s
  | .portResponse layer port => Sys2Proof.Machine.execPortResponse layer port s
  | .bar2Read vf off len errs => Sys2Proof.Machine.execBar2Read vf off len errs s
  | .bar2Write vf off data poisoned errs => Sys2Proof.Machine.execBar2Write vf off data poisoned errs s
  | .collidedRewrite bank => Sys2Proof.Machine.execCollidedRewrite bank s
  | .owner who n v => Sys2Proof.Machine.execOwner who n v s
  | .memOwnerDone n => Sys2Proof.Machine.execMemOwnerDone n s
  | .bankClear who n v => Sys2Proof.Machine.execBankClear who n v s
  | .lineFill line errs => Sys2Proof.Machine.execLineFill line errs s
  | .flush who => Sys2Proof.Machine.execFlush who s
  | .flushinv who => Sys2Proof.Machine.execFlushinv who s
  | .invalidate who => Sys2Proof.Machine.execInvalidate who s
  | .memCmoDone => Sys2Proof.Machine.execMemCmoDone s
  | .rotationReset => Sys2Proof.Machine.execRotationReset s
  | .alloc who c => Sys2Proof.Machine.execAlloc who c s
  | .free who c queue => Sys2Proof.Machine.execFree who c queue s
  | .push vf q v => Sys2Proof.Machine.execPush vf q v s
  | .publish q => Sys2Proof.Machine.execPublish q s
  | .pop vf q v => Sys2Proof.Machine.execPop vf q v s
  | .queueRequest layer port q op => Sys2Proof.Machine.execQueueRequest layer port q op s
  | .frame port x => Sys2Proof.Machine.execFrame port x s
  | .flowTableWrite who v => Sys2Proof.Machine.execFlowTableWrite who v s
  | .flowTableRead who v => Sys2Proof.Machine.execFlowTableRead who v s
  | .qcHol q errs => Sys2Proof.Machine.execQcHol q errs s
  | .writeBack unit => Sys2Proof.Machine.execWriteBack unit s
  | .slotWriteBack word => Sys2Proof.Machine.execSlotWriteBack word s
  | .browseRead at_ found => Sys2Proof.Machine.execBrowseRead at_ found s
  | .browsePass e => Sys2Proof.Machine.execBrowsePass e s
  | .browseLate e => Sys2Proof.Machine.execBrowseLate e s
  | .borrow unit errs => Sys2Proof.Machine.execBorrow unit errs s
  | .grazeWriteBack unit failed => Sys2Proof.Machine.execGrazeWriteBack unit failed s
  | .eccSradd who v => Sys2Proof.Machine.execEccSradd who v s
  | .vlCorr joint g syndrome => Sys2Proof.Machine.execVlCorr joint g syndrome s
  | .vlSwap joint g => Sys2Proof.Machine.execVlSwap joint g s
  | .vlPhaseWarn joint offset => Sys2Proof.Machine.execVlPhaseWarn joint offset s
  | .vlFifoSlip joint => Sys2Proof.Machine.execVlFifoSlip joint s
  | .vlRetry link again => Sys2Proof.Machine.execVlRetry link again s
  | .powerUpLaneTest bad shaft bond => Sys2Proof.Machine.execPowerUpLaneTest bad shaft bond s
  | .drainEnd die => Sys2Proof.Machine.execDrainEnd die s
  | .vlFenceDone die => Sys2Proof.Machine.execVlFenceDone die s
  | .load who v => Sys2Proof.Machine.execLoad who v s
  | .abort who v => Sys2Proof.Machine.execAbort who v s
  | .boot => Sys2Proof.Machine.execBoot s
  | .header r => Sys2Proof.Machine.execHeader r s
  | .registerWrite r => Sys2Proof.Machine.execRegisterWrite r s
  | .frameBlock r => Sys2Proof.Machine.execFrameBlock r s
  | .noOp r => Sys2Proof.Machine.execNoOp r s
  | .fill r => Sys2Proof.Machine.execFill r s
  | .endPacket r => Sys2Proof.Machine.execEndPacket r s
  | .verify r keyOk sigOk => Sys2Proof.Machine.execVerify r keyOk sigOk s
  | .check link => Sys2Proof.Machine.execCheck link s
  | .stageTimeout => Sys2Proof.Machine.execStageTimeout s
  | .erase who v => Sys2Proof.Machine.execErase who v s
  | .program who v data => Sys2Proof.Machine.execProgram who v data s
  | .cfgFlashDone ok => Sys2Proof.Machine.execCfgFlashDone ok s
  | .read who v => Sys2Proof.Machine.execRead who v s
  | .restore who v r => Sys2Proof.Machine.execRestore who v r s
  | .readbackAbort who v => Sys2Proof.Machine.execReadbackAbort who v s
  | .readbackFrame errs => Sys2Proof.Machine.execReadbackFrame errs s
  | .cfgRbDone => Sys2Proof.Machine.execCfgRbDone s
  | .arm who v => Sys2Proof.Machine.execArm who v s
  | .disarm who v => Sys2Proof.Machine.execDisarm who v s
  | .captureRelease who v => Sys2Proof.Machine.execCaptureRelease who v s
  | .armTarget => Sys2Proof.Machine.execArmTarget s
  | .clkTrip src => Sys2Proof.Machine.execClkTrip src s
  | .foscReady => Sys2Proof.Machine.execFoscReady s
  | .clkDegraded => Sys2Proof.Machine.execClkDegraded s
  | .sourceGood src => Sys2Proof.Machine.execSourceGood src s
  | .dividerRampStep d => Sys2Proof.Machine.execDividerRampStep d s
  | .primary who d v => Sys2Proof.Machine.execPrimary who d v s
  | .gateOpen who r v => Sys2Proof.Machine.execGateOpen who r v s
  | .gateRequest who r v => Sys2Proof.Machine.execGateRequest who r v s
  | .gateClose bit => Sys2Proof.Machine.execGateClose bit s
  | .clkGateForced bit => Sys2Proof.Machine.execClkGateForced bit s
  | .sensorSample l => Sys2Proof.Machine.execSensorSample l s
  | .thermGradient n => Sys2Proof.Machine.execThermGradient n s
  | .restart who v => Sys2Proof.Machine.execRestart who v s
  | .portEnable who p v => Sys2Proof.Machine.execPortEnable who p v s
  | .fhLinkUp p => Sys2Proof.Machine.execFhLinkUp p s
  | .fhLinkDown p leaving => Sys2Proof.Machine.execFhLinkDown p leaving s
  | .lagMemberActive p => Sys2Proof.Machine.execLagMemberActive p s
  | .jesdEnable who k v => Sys2Proof.Machine.execJesdEnable who k v s
  | .jesdLinkUp k => Sys2Proof.Machine.execJesdLinkUp k s
  | .jesdLinkDown k => Sys2Proof.Machine.execJesdLinkDown k s
  | .receiveMultiblock k samples crc => Sys2Proof.Machine.execReceiveMultiblock k samples crc s
  | .transmitMultiblock k errs => Sys2Proof.Machine.execTransmitMultiblock k errs s
  | .perstN high => Sys2Proof.Machine.execPerstN high s
  | .pcieLinkUp => Sys2Proof.Machine.execPcieLinkUp s
  | .pcieLinkDown => Sys2Proof.Machine.execPcieLinkDown s
  | .flr v => Sys2Proof.Machine.execFlr v s
  | .devDmaTail who c v => Sys2Proof.Machine.execDevDmaTail who c v s
  | .hostToQueue c d r => Sys2Proof.Machine.execHostToQueue c d r s
  | .queueToHost c d haddr => Sys2Proof.Machine.execQueueToHost c d haddr s
  | .hostToMla c d r mla => Sys2Proof.Machine.execHostToMla c d r mla s
  | .mlaToHost c d addr => Sys2Proof.Machine.execMlaToHost c d addr s
  | .ddrTraining failed => Sys2Proof.Machine.execDdrTraining failed s
  | .refreshRateRead rates => Sys2Proof.Machine.execRefreshRateRead rates s
  | .ddrRetrain n passed => Sys2Proof.Machine.execDdrRetrain n passed s
  | .trstN high => Sys2Proof.Machine.execTrstN high s
  | .bypass => Sys2Proof.Machine.execBypass s
  | .idcode => Sys2Proof.Machine.execIdcode s
  | .samplePreload cells => Sys2Proof.Machine.execSamplePreload cells s
  | .extest => Sys2Proof.Machine.execExtest s
  | .clamp => Sys2Proof.Machine.execClamp s
  | .highz => Sys2Proof.Machine.execHighz s
  | .smbDevId => Sys2Proof.Machine.execSmbDevId s
  | .smbThermBand => Sys2Proof.Machine.execSmbThermBand s
  | .smbTemperature => Sys2Proof.Machine.execSmbTemperature s
  | .smbStatus => Sys2Proof.Machine.execSmbStatus s
  | .smbTlTee => Sys2Proof.Machine.execSmbTlTee s
  | .adaptationRequest who p v => Sys2Proof.Machine.execAdaptationRequest who p v s
  | .adaptationRun p width height => Sys2Proof.Machine.execAdaptationRun p width height s
  | .eyeUpdate p width height => Sys2Proof.Machine.execEyeUpdate p width height s
  | .sensorRunRequest who v => Sys2Proof.Machine.execSensorRunRequest who v s
  | .sensorRunStart die quiet => Sys2Proof.Machine.execSensorRunStart die quiet s
  | .sensorRun die done bad => Sys2Proof.Machine.execSensorRun die done bad s
  | .porN rail => Sys2Proof.Machine.execPorN rail s
  | .srstN flushed => Sys2Proof.Machine.execSrstN flushed s
  | .brownoutStart rail mv => Sys2Proof.Machine.execBrownoutStart rail mv s
  | .brownoutWarn rail mn mv dur => Sys2Proof.Machine.execBrownoutWarn rail mn mv dur s
  | .railReset rail mv => Sys2Proof.Machine.execRailReset rail mv s
  | .railAboveReset rail mv => Sys2Proof.Machine.execRailAboveReset rail mv s
  | .sys who v flushed => Sys2Proof.Machine.execSys who v flushed s
  | .fabric who v => Sys2Proof.Machine.execFabric who v s
  | .mgmt who v => Sys2Proof.Machine.execMgmt who v s
  | .mgmtWdog sec flushed => Sys2Proof.Machine.execMgmtWdog sec flushed s
  | .enter who v => Sys2Proof.Machine.execEnter who v s
  | .pwrReady => Sys2Proof.Machine.execPwrReady s
  | .exit who v => Sys2Proof.Machine.execExit who v s
  | .wake => Sys2Proof.Machine.execWake s
  | .pwrWake => Sys2Proof.Machine.execPwrWake s
  | .pwrBoot => Sys2Proof.Machine.execPwrBoot s
  | .stackStart => Sys2Proof.Machine.execStackStart s
  | .optimeStore => Sys2Proof.Machine.execOptimeStore s
  | .eventCycle => Sys2Proof.Machine.execEventCycle s
  | .eventInputLatch src => Sys2Proof.Machine.execEventInputLatch src s
  | .evtPend who w v => Sys2Proof.Machine.execEvtPend who w v s
  | .recordWrite => Sys2Proof.Machine.execRecordWrite s
  | .freeze who => Sys2Proof.Machine.execFreeze who s
  | .thaw who => Sys2Proof.Machine.execThaw who s
  | .recFreezeEnd => Sys2Proof.Machine.execRecFreezeEnd s
  | .nonce who => Sys2Proof.Machine.execNonce who s
  | .nonceExpiry => Sys2Proof.Machine.execNonceExpiry s
  | .clear who token => Sys2Proof.Machine.execClear who token s
  | .recCleared => Sys2Proof.Machine.execRecCleared s
  | .vtTimeout x => Sys2Proof.Machine.execVtTimeout x s
  | .busTimeout who write off => Sys2Proof.Machine.execBusTimeout who write off s
  | .pcieCompletionTimeout x => Sys2Proof.Machine.execPcieCompletionTimeout x s
  | .devWdkick who v => Sys2Proof.Machine.execDevWdkick who v s
  | .devWdog sec flushed => Sys2Proof.Machine.execDevWdog sec flushed s
  | .startCapture who v => Sys2Proof.Machine.execStartCapture who v s
  | .rplFreeze who v => Sys2Proof.Machine.execRplFreeze who v s
  | .rplTrigger => Sys2Proof.Machine.execRplTrigger s
  | .rplFrozen => Sys2Proof.Machine.execRplFrozen s
  | .rplGap => Sys2Proof.Machine.execRplGap s
  | .crcPeriod => Sys2Proof.Machine.execCrcPeriod s
  | .rplSnapDone fail => Sys2Proof.Machine.execRplSnapDone fail s
  | .replayEnter who v => Sys2Proof.Machine.execReplayEnter who v s
  | .replayStart => Sys2Proof.Machine.execReplayStart s
  | .injection => Sys2Proof.Machine.execInjection s
  | .replayExit who v => Sys2Proof.Machine.execReplayExit who v s
  | .store who v => Sys2Proof.Machine.execStore who v s
  | .nvsStored written => Sys2Proof.Machine.execNvsStored written s
  | .nvsIval who v => Sys2Proof.Machine.execNvsIval who v s
  | .progkey who v burned => Sys2Proof.Machine.execProgkey who v burned s
  | .advance who v => Sys2Proof.Machine.execAdvance who v s
  | .srClear token => Sys2Proof.Machine.execSrClear token s
  | .lifecycle token burned => Sys2Proof.Machine.execLifecycle token burned s
  | .revoke token burned => Sys2Proof.Machine.execRevoke token burned s
  | .addKey token burned => Sys2Proof.Machine.execAddKey token burned s
  | .settingsDefault token => Sys2Proof.Machine.execSettingsDefault token s
  | .patch token => Sys2Proof.Machine.execPatch token s
  | .fcBoundary => Sys2Proof.Machine.execFcBoundary s
  | .illegal k e w => Sys2Proof.Machine.execIllegal k e w s
  | .snapshotTimeout => Sys2Proof.Machine.execSnapshotTimeout s
  | .msixUnmask u => Sys2Proof.Machine.execMsixUnmask u s

end Sys2Proof.Machine
end

