-- ==== Sys2Proof/Safety.lean ====
section
/-!
DEFINITION. Sys2Proof/Safety.lean: the terms in which claims are made: a run that goes on, what two states have in common,
what stands before a command, and the fuses' order.
-/
namespace Sys2Proof.Machine
open Sys2Proof

/-- A state from which the next `n` steps all go on. -/
def Goes : Nat → State → Prop
  | 0, _ => True
  | n + 1, s => ∃ t, step s = .next t ∧ Goes n t

/-! ## What two states have in common -/

/-- Registers that raising an event may touch beside the event controller: the fault latch, the watchdog a KSRC occurrence kicks,
the count of records lost (R512, R519, R529, R541). -/
def noteRegs : List Nat := [Rg.EVT_STAT, Rg.DEV_WDSTAT, Rg.REC_STAGE]

/-- `t` is `s` but for registers, settings shadows and the answer: what a register write may touch. -/
def OnlyRegs (s t : State) : Prop := { t with regs := s.regs, nvs := s.nvs, reply := s.reply } = s

/-- `t` is `s` but for registers, events, records and capture: what raising events may touch. -/
def OnlyNotes (s t : State) : Prop := { t with regs := s.regs, evt := s.evt, rcd := s.rcd, rpl := s.rpl } = s

/-- Every register but those of a list reads as before. -/
def RegsBut (l : List Nat) (s t : State) : Prop := ∀ off, off ∉ l → t.reg off = s.reg off

/-- Source `n` has occurred once from `s` to `t`: its count, which saturates, has counted (R515). -/
def Raised (n : Nat) (s t : State) : Prop := (t.src n).count = satAdd 16 (s.src n).count 1

/-- A saturating count has counted once from `s` to `t`. -/
def Counted (x : Fld) (s t : State) : Prop := t.f x = satAdd x.w (s.f x) 1

/-- A fenced fabric restart has begun by a trigger (R544, steps 1 and 2): set-reset is asserted, DONE is low, every sequencer is
STOPPED, its dies fence, and it is recorded and counted. -/
def Restarting (trigger dies : Nat) (s t : State) : Prop :=
  t.fab.gsr = true ∧ t.fab.relAt = none ∧ t.pwr.restart = some trigger ∧ t.pwr.rstDies = dies ∧ t.b F.CFG_STATUS_DONE = false ∧
  (∀ k : Fin 4, (t.seq k).mode = .stopped) ∧ (∀ d, d < 9 → nbits dies d 1 = 1 → s.phase d = 0 → t.phase d = 1) ∧
  Raised Ev.FAB_RESTART s t ∧ Counted F.DEV_FLTCNT_RESTARTS s t

/-- Nothing stands in the way of a fenced fabric restart (R543, R545, R387). -/
def State.mayRestart (s : State) : Prop :=
  s.pwr.restart = none ∧ s.ldStage ≠ stCommit ∧ s.fullLoadTorn = false ∧ s.stackDown = false ∧ s.b F.CFG_KEY_VALID = true

/-- A load has ended rejected (R381): FAILED, its reason, ERRINFO and ERRWORD shown, reported; no load runs. -/
def Rejected (reason info word : Nat) (s t : State) : Prop :=
  t.ld = none ∧ t.ldStage = stFailed ∧ t.f F.CFG_STATUS_REASON = reason ∧ t.reg Rg.CFG_ERRINFO = BitVec.ofNat 32 info ∧
  t.reg Rg.CFG_ERRWORD = BitVec.ofNat 32 word ∧ Raised Ev.CFG_REJECT s t

/-- A load that is rejected is not followed by another attempt (R386, R387). -/
def State.lastTry (s : State) (l : Load) : Prop := l.auto = false ∧ s.b F.CFG_BOOT_FALLBACK = false

/-- A register whose write does more than put its plain fields: a command's own field, or what reading a change of it takes. -/
def hasAct (off : Nat) : Bool :=
  [Rg.DEV_WDCFG, Rg.SEC_CMD, Rg.NVS_IVAL, Rg.TL_DEPCFG, Rg.CLK_GATE0, Rg.CLK_GATE1, Rg.CFG_CMD, Rg.CFG_FLCMD, Rg.CFG_RBCMD,
      Rg.CFG_CAPCTL, Rg.PWR_RST, Rg.PWR_CMD, Rg.THERM_CTL, Rg.THERM_CALCTL, Rg.NVS_CMD, Rg.DEV_WDKICK, Rg.REC_CMD, Rg.RPL_CMD, Rg.TL_CTL,
      Rg.MEM_CMO, Rg.FH_FTCMD, Rg.ECC_SRADD, Rg.ECC_PUCLR, Rg.ECC_HCCLR, Rg.VL_SHCLR].contains off || evtDecides off
    || off / 0x10000 == 9
    || [(Rg.EVT_PEND 0, 4, 32), (Rg.FH_PORT_CFG 0, 0x20, 32), (Rg.JESD_LINK_CFG 0, 0x10, 16), (Rg.TL_SYSCTL 0, 0x10, 4),
        (Rg.MEM_BANK_CFG 0, 4, 32), (Rg.DEV_VF_CFG 0, 4, 32), (Rg.FH_LAG_MEMBERS 0, 4, 8),
        (Rg.CLK_DOM 1, 4, 25), (Rg.SEQ_CTL 0, 0x10000, 4), (Rg.SDS_LANE_CAL 0, 0x20, 32), (Rg.QC_ACMD 0, 0x10000, 32)].any
          (fun r => (rowAt r.1 r.2.1 r.2.2 off).isSome)

/-- An offset of the PF's MSI-X table or PBA (R454). -/
def inMsix (off : Nat) : Bool := (rowAt 0x48000 4 4096 off).isSome || (rowAt 0x4C000 4 32 off).isSome

/-- A command of Rinom's mailbox: who writes GO, the command's code, the request's length, the outcome of a signature check
(Table 9-4). -/
def mailbox : Instr → Option (Who × Nat × BitVec 12 × Bool)
  | .info w n => some (w, 1, n, false) | .attest w n => some (w, 2, n, false) | .getKey w n => some (w, 3, n, false)
  | .setRef w n => some (w, 4, n, false) | .setLock w n => some (w, 5, n, false) | .setAsym w n => some (w, 6, n, false)
  | .setLeap w n => some (w, 7, n, false) | .force w n => some (w, 8, n, false) | .setTime w n ok => some (w, 9, n, ok)
  | .setModel w n => some (w, 10, n, false) | .modelRead w n => some (w, 11, n, false)
  | .modelReset w n => some (w, 12, n, false) | .logRead w n => some (w, 13, n, false) | .setTod w n => some (w, 14, n, false)
  | _ => none

/-! ## Sequencers -/

/-- Sequencer `k` issues instruction `i` in the present fc: it is the one that the word at its next address spells, and that word is
free of errors (R156, R158, R185). -/
def State.canIssue (s : State) (k : Fin 4) (i : Instr) : Prop :=
  (s.seq k).ready s.tl.fc = true ∧ mget Ecc.clean s.fab.pgmErr (65536 * k.val + (s.seq k).next) = .clean ∧
  saenoInstr k .clean (s.pgmWord k (s.seq k).next) = i

/-- Where sequencer `k` may issue `i`, it does so: the issue answers a next state, of which `P` holds. -/
def State.issues (s : State) (k : Fin 4) (i : Instr) (P : State → Prop) : Prop :=
  s.canIssue k i → ∃ t, exec i s = .next t ∧ P t

/-- The state in which an instruction that has issued acts: its address is the PC (R156, R165, R168). -/
def State.issued (s : State) (k : Fin 4) : State :=
  s.modSeq k (fun q => q.begin s.tl.fc)

/-- `t` is `s` but for sequencer `k`. -/
def OnlySeq (k : Fin 4) (s t : State) : Prop := { t with seqs := s.seqs } = s ∧ ∀ j, j ≠ k → t.seq j = s.seq j

/-- Sequencer state `u` goes on from `q` behind an instruction that issued in `fc` and took `cost` fc: the instruction's address is
the PC, its successor issues next, `cost` fc later (R158, R198). -/
def Seq.wentOn (q u : Seq) (fc cost : Nat) : Prop :=
  u.pc = q.next ∧ u.next = ({ q with pc := q.next } : Seq).peek ∧ u.due = fc + cost ∧ u.mode = .running ∧ u.wait = .none

/-- `u` is `q` but for general registers, flags, and where it runs: PC, next, due, state, loop stack, handler bits, the fc
of its issue. -/
def Seq.onlyRun (q u : Seq) : Prop :=
  { u with g := q.g, n := q.n, z := q.z, c := q.c, v := q.v, pc := q.pc, next := q.next, due := q.due, mode := q.mode,
           wait := q.wait, loops := q.loops, inAlt := q.inAlt, inFault := q.inFault, clrAlt := q.clrAlt,
           clrFault := q.clrFault, quiet := q.quiet, issuedAt := q.issuedAt } = q

/-- What an instruction of one fc that writes register `d` and the flags does: the register takes `w` unless it is g0, every
other one and the rest of the sequencer stay, and nothing else of the part changes. -/
def Wrote (k : Fin 4) (s t : State) (d : Fin 32) (w : Word) (n z c v : Bool) : Prop :=
  OnlySeq k s t ∧ (s.seq k).wentOn (t.seq k) s.tl.fc 1 ∧ (s.seq k).onlyRun (t.seq k) ∧
  (∀ r, (t.seq k).rd r = if r = d ∧ r ≠ 0 then w else (s.seq k).rd r) ∧
  (t.seq k).n = n ∧ (t.seq k).z = z ∧ (t.seq k).c = c ∧ (t.seq k).v = v

/-- Control has gone to an address, which issues 2 fc after the transfer (R196, R197). -/
def Jumped (k : Fin 4) (s t : State) (target : Nat) : Prop :=
  OnlySeq k s t ∧ (t.seq k).pc = (s.seq k).next ∧ (t.seq k).next = target ∧ (t.seq k).due = s.tl.fc + 2 ∧
  (t.seq k).mode = .running ∧ (t.seq k).wait = .none ∧ (t.seq k).g = (s.seq k).g

/-- A timeline wait on target `T` has begun: SP is the target and the next instruction issues in fc `due` (R160, R161). -/
def WaitsFor (k : Fin 4) (s t : State) (T due : Nat) : Prop :=
  OnlySeq k s t ∧ (t.seq k).pc = (s.seq k).next ∧ (t.seq k).mode = .waitTime ∧ (t.seq k).wait = .time T due true ∧
  (t.seq k).sp = T ∧ (t.seq k).g = (s.seq k).g

/-- `t` is `s` but for sequencer `k`, registers, events, records and capture. -/
def OnlySeqNotes (k : Fin 4) (s t : State) : Prop :=
  { t with seqs := s.seqs, regs := s.regs, evt := s.evt, rcd := s.rcd, rpl := s.rpl } = s ∧ ∀ j, j ≠ k → t.seq j = s.seq j

/-- `t` is `s` but for sequencer `k`, the fabric, registers, events, records and capture. -/
def OnlyFabSeq (k : Fin 4) (s t : State) : Prop :=
  { t with fab := s.fab, seqs := s.seqs, regs := s.regs, evt := s.evt, rcd := s.rcd, rpl := s.rpl } = s ∧
  ∀ j, j ≠ k → t.seq j = s.seq j

/-- A fault of a cause at an address, with the address that would have issued next: SEQn_FAULT, the event, and the diversion to
the fault entry or FAULTED (R167, R168). -/
def TookFault (k : Fin 4) (s t : State) (cause fpc nxt : Nat) : Prop :=
  t.reg (Rg.SEQ_FAULT k) = BitVec.ofNat 32 (cause * 2 ^ 24 + fpc % 2 ^ 16) ∧ Raised (Ev.SEQ_FAULT k) s t ∧
  (∀ e, s.vector k 0 = some e → (s.seq k).inFault = false →
    (t.seq k).mode = .running ∧ (t.seq k).next = e ∧ (t.seq k).due = s.tl.fc + 2 ∧ (t.seq k).inFault = true ∧
    (t.seq k).rd 30 = t.reg (Rg.SEQ_FAULT k) ∧ (t.seq k).rd 31 = BitVec.ofNat 32 (nxt % 2 ^ 16)) ∧
  (s.vector k 0 = none → (t.seq k).mode = .faulted)

/-! ## Queues -/

/-- A push of `k` entries to queue `q` has been accepted: they have their places in the ring (R302); where port B of the bank
carries them whole at once they are published, else they are on their way (R280, R298). -/
def Pushed (q k : Nat) (s t : State) : Prop :=
  (t.queue q).pop = (s.queue q).pop ∧ (∀ q', q' ≠ q → t.queue q' = s.queue q') ∧
  (t.queue q).count + (t.queue q).room = (s.queue q).count + (s.queue q).room + k ∧
  (s.portBFree (q / 1024) = true → k * (s.queue q).beats = 1 →
    (t.queue q).count = (s.queue q).count + 1 ∧ (t.queue q).push = ((s.queue q).push + 1) % 65536) ∧
  (s.portBFree (q / 1024) = false ∨ 1 < k * (s.queue q).beats →
    (t.queue q).count = (s.queue q).count ∧ (t.queue q).push = (s.queue q).push ∧
    ∃ r ∈ t.mem.writes, r.queue = q ∧ r.batch.length = k ∧ r.again = false)

/-- Nothing goes before a push to queue `q`, and port A touches no bank in this MEM cycle. -/
def State.clearWay (s : State) (q : Nat) : Prop := s.nextWrite (q / 1024) = none ∧ ∀ b, s.portA b = none

/-! ## Fuses -/

/-- Fuses only burn: what `a` has burned `b` has, with the same hash in a provisioned slot, the lifecycle no earlier, and the
identity of the part unchanged (R574, R582, chapter 25). -/
def Fuses.le (a b : Fuses) : Prop :=
  (∀ n : Fin 4, a.prov.get n = true → b.prov.get n = true ∧ b.keyHash.get n = a.keyHash.get n) ∧
  (∀ n : Fin 4, a.rev.get n = true → b.rev.get n = true) ∧ a.lcs ≤ b.lcs ∧
  b.grade1E = a.grade1E ∧ b.serial = a.serial ∧ b.mfgHash = a.mfgHash ∧ b.modulus = a.modulus

end Sys2Proof.Machine
end

