-- ==== Sys2Proof/Certificates/Slice0/Obligations.lean ====
section
/-!
DEFINITION. Sys2Proof/Certificates/Slice0/Obligations.lean: the statements about this model, for every state and operands.
-/
open Sys2Proof Sys2Proof.Machine

/-! ## Steps, the queue, the fuses -/

/-- A step takes the command at the front of the queue and runs it with the queue's rest (the model's queue of commands; no rule
of the spec). -/
def Obligations.StepTakesTheFrontCommand : Prop :=
  ∀ (c : Instr) (rest : List Instr) (s : State), s.pending = c :: rest →
    step s = exec c { s with pending := rest }

/-- With no command waiting a step changes nothing (log 1, a choice of the model). -/
def Obligations.AnEmptyQueueIdles : Prop :=
  ∀ s : State, s.pending = [] → step s = .next s

/-- No command touches the queue: what a step leaves of it is all but its front.
Readings and choices of this model it rests on: log 1. -/
def Obligations.EveryStepTakesOneCommand : Prop :=
  (∀ (c : Instr) (s t : State), exec c s = .next t → t.pending = s.pending) ∧
  ∀ s t : State, step s = .next t → t.pending = s.pending.tail

/-- Fuses only burn: whatever a state's fuses were above stays below them in the state a step leaves (R574, R576, R582).
Readings and choices of this model it rests on: log 90. -/
def Obligations.FusesOnlyBurn : Prop :=
  ∀ (a : Fuses) (s t : State), Fuses.le a s.fuse → step s = .next t → Fuses.le a t.fuse

/-- What power-on leaves: no epoch released, global set-reset asserted, nothing configured, every sequencer STOPPED with its
registers and flags clear, no event pending, no record staged, no register written.
Right after power-on no fuse is burned, so every later state's fuses lie above.
Readings and choices of this model it rests on: log 7, 20. -/
def Obligations.ResetState : Prop :=
  (State.reset.tl.released = false ∧ State.reset.fab.gsr = true ∧ State.reset.fab.torn = true ∧ State.reset.pending = [] ∧
   (∀ k : Fin 4, (State.reset.seq k).mode = .stopped ∧ ∀ r : Fin 32, (State.reset.seq k).rd r = 0) ∧
   (∀ f : Fin 16, State.reset.flags.get f = { set := false, due := none }) ∧
   (∀ (ly : Fin 4) (j : Fin 8) (p : Fin 4), (State.reset.plane ly j p).st = .empty) ∧
   (∀ n : Nat, (State.reset.src n).count = 0 ∧ (State.reset.src n).wait = []) ∧ State.reset.rcd.staged = [] ∧
   (∀ off : Nat, State.reset.reg off = regReset off)) ∧
  (Fuses.le State.reset.fuse State.reset.fuse ∧
   (∀ n : Fin 4, State.reset.fuse.prov.get n = false ∧ State.reset.fuse.rev.get n = false) ∧ State.reset.fuse.lcs = 0)

/-! ## Saeno instructions -/

/-- Arithmetic (R154, R186, R201, R202, Table 7-5): the destination takes the result modulo 2^32, g0 takes nothing; N and Z
follow the result, C and V the carry and the signed overflow, or the last bit shifted out; nothing else changes. A reserved
selector of MOVS faults.
Readings and choices of this model it rests on: log 6, 38. -/
def Obligations.ArithmeticWritesOneRegisterAndTheFlags : Prop :=
  ∀ (s : State) (k : Fin 4) (d a : Fin 32) (o : Opnd) (v : Word) (sel : BitVec 4) (w : Word),
    let q := s.seq k
    let x := q.rd a
    let y := q.opw o
    let n := q.opnd o % 32
    s.issues k (.movi k .clean d v) (fun t => Wrote k s t d v q.n q.z q.c q.v) ∧
    s.issues k (.add k .clean d a o) (fun t => Wrote k s t d (x + y) (x + y).msb (x + y == 0)
      (decide (2 ^ 32 ≤ x.toNat + y.toNat)) (decide ((x + y).toInt ≠ x.toInt + y.toInt))) ∧
    s.issues k (.sub k .clean d a o) (fun t => Wrote k s t d (x - y) (x - y).msb (x - y == 0)
      (decide (y.toNat ≤ x.toNat)) (decide ((x - y).toInt ≠ x.toInt - y.toInt))) ∧
    s.issues k (.cmp k .clean a o) (fun t => Wrote k s t 0 (x - y) (x - y).msb (x - y == 0)
      (decide (y.toNat ≤ x.toNat)) (decide ((x - y).toInt ≠ x.toInt - y.toInt))) ∧
    s.issues k (.and k .clean d a o) (fun t => Wrote k s t d (x &&& y) (x &&& y).msb (x &&& y == 0) q.c q.v) ∧
    s.issues k (.or k .clean d a o) (fun t => Wrote k s t d (x ||| y) (x ||| y).msb (x ||| y == 0) q.c q.v) ∧
    s.issues k (.xor k .clean d a o) (fun t => Wrote k s t d (x ^^^ y) (x ^^^ y).msb (x ^^^ y == 0) q.c q.v) ∧
    s.issues k (.shl k .clean d a o) (fun t => Wrote k s t d (x <<< n) (x <<< n).msb (x <<< n == 0)
      (if n = 0 then q.c else x.getLsbD (32 - n)) q.v) ∧
    s.issues k (.shr k .clean d a false o) (fun t => Wrote k s t d (x >>> n) (x >>> n).msb (x >>> n == 0)
      (if n = 0 then q.c else x.getLsbD (n - 1)) q.v) ∧
    s.issues k (.shr k .clean d a true o) (fun t =>
      Wrote k s t d (x.sshiftRight n) (x.sshiftRight n).msb (x.sshiftRight n == 0)
        (if n = 0 then q.c else x.getLsbD (n - 1)) q.v) ∧
    (s.movsVal k sel.toNat = some w → s.issues k (.movs k .clean d sel) (fun t => Wrote k s t d w q.n q.z q.c q.v)) ∧
    (7 ≤ sel.toNat → s.issues k (.movs k .clean d sel) (fun t =>
      TookFault k s t 0x02 q.next ({ q with pc := q.next } : Seq).peek))

/-- Control flow (R167, R168, R185, R187, R196 to R200): a taken branch, a call and a return issue their target 2 fc later
and keep the stacks as their rules say; a loop with a count pushes its entry; HALT asks for the stop; an undefined word, a
reserved condition, a full stack and an empty one fault; a word that spells another instruction issues nothing of this one.
Readings and choices of this model it rests on: log 6, 34, 36, 38. -/
def Obligations.ControlFlowGoesWhereItNames : Prop :=
  ∀ (s : State) (k : Fin 4) (target last : BitVec 16) (cond : BitVec 8) (o : Opnd) (w : BitVec 64),
    let q := s.seq k
    let a := (q.next + 1) % 65536
    let nxt := ({ q with pc := q.next } : Seq).peek
    s.issues k (.br k .clean target) (fun t => Jumped k s t target.toNat ∧
      (t.seq k).loops = leaveLoops q.calls.length target.toNat q.loops ∧ (t.seq k).calls = q.calls) ∧
    (q.holds s.tl.fc cond.toNat = some true → s.issues k (.brc k .clean cond target) (fun t => Jumped k s t target.toNat ∧
      (t.seq k).loops = leaveLoops q.calls.length target.toNat q.loops ∧ (t.seq k).calls = q.calls)) ∧
    (q.holds s.tl.fc cond.toNat = some false →
      s.issues k (.brc k .clean cond target) (fun t => Wrote k s t 0 0 q.n q.z q.c q.v)) ∧
    (q.holds s.tl.fc cond.toNat = none → s.issues k (.brc k .clean cond target) (fun t => TookFault k s t 0x02 q.next nxt)) ∧
    (q.calls.length < 16 → s.issues k (.call k .clean target) (fun t => Jumped k s t target.toNat ∧
      (t.seq k).calls = a :: q.calls ∧ (t.seq k).loops = q.loops)) ∧
    (∀ x r, q.calls = x :: r → s.issues k (.ret k .clean) (fun t => Jumped k s t x ∧ (t.seq k).calls = r ∧
      (t.seq k).loops = q.loops.dropWhile (fun l => l.depth == q.calls.length))) ∧
    (q.loops.length < 4 → q.opnd o % 65536 ≠ 0 → s.issues k (.loop k .clean last o) (fun t => OnlySeq k s t ∧
      (t.seq k).pc = q.next ∧ (t.seq k).next = a ∧ (t.seq k).due = s.tl.fc + 1 ∧ (t.seq k).mode = .running ∧
      (t.seq k).loops = { start := a, last := last.toNat, remaining := q.opnd o % 65536, depth := q.calls.length } :: q.loops)) ∧
    (q.loops.length < 4 → q.opnd o % 65536 = 0 → s.issues k (.loop k .clean last o) (fun t =>
      Jumped k s t ((last.toNat + 1) % 65536) ∧ (t.seq k).loops = q.loops)) ∧
    s.issues k (.halt k .clean) (fun t => OnlySeq k s t ∧ q.wentOn (t.seq k) s.tl.fc 1 ∧ (t.seq k).stopReq = some s.tl.fc) ∧
    s.issues k (.nop k .clean) (fun t => Wrote k s t 0 0 q.n q.z q.c q.v) ∧
    s.issues k (.illegal k .clean w) (fun t => TookFault k s t 0x02 q.next nxt) ∧
    (16 ≤ q.calls.length → s.issues k (.call k .clean target) (fun t => TookFault k s t 0x03 q.next nxt)) ∧
    (q.calls = [] → s.issues k (.ret k .clean) (fun t => TookFault k s t 0x04 q.next nxt)) ∧
    (4 ≤ q.loops.length → s.issues k (.loop k .clean last o) (fun t => TookFault k s t 0x03 q.next nxt)) ∧
    (saenoInstr k .clean (s.pgmWord k q.next) ≠ .nop k .clean →
      mget Ecc.clean s.fab.pgmErr (65536 * k.val + q.next) = .clean → exec (.nop k .clean) s = .next s)

/-- Timeline waits (R160 to R162, R189 to R191): the distance of a target; a target ahead, one SFN cycle at most, is waited
for, with SP set to it, and the next instruction issues in its fc; a target passed is a deadline miss, counted, with its
lateness, after which the next instruction issues in the next fc, or, under MISSFAULT, the fault entry in the one after; a
target that is no program time or lies too far ahead faults with WAIT_RANGE; ALIGN finds the next fc of its grid. -/
def Obligations.TimelineWaitsMeetTheirTargets : Prop :=
  (∀ T N : Nat, T < 2 ^ 41 → N < 2 ^ 41 →
    let d : Int := ((T / 2 ^ 34 : Nat) - (N / 2 ^ 34 : Nat) : Int) % 128 * (L : Nat) + (T % 2 ^ 34 : Nat) - (N % 2 ^ 34 : Nat)
    distance T N = if 64 * (L : Nat) ≤ d then d - 128 * (L : Nat) else d) ∧
  (∀ (s : State) (k : Fin 4) (target : BitVec 41) (a b : Fin 32) (o : Opnd) (period : BitVec 34),
    let q := s.seq k
    let nxt := ({ q with pc := q.next } : Seq).peek
    let D := fun T : Nat => distance T (s.seqTime k)
    let names := fun (i : Instr) (T : Nat) => (i = .waitat k .clean target ∧ T = target.toNat) ∨
      (i = .waitatr k .clean a b ∧ (q.rd b).toNat < 512 ∧ T = (q.rd a).toNat + (q.rd b).toNat * 2 ^ 32) ∨
      (i = .waitrel k .clean o ∧ q.opnd o ≤ L ∧ T = advance q.sp (q.opnd o))
    (∀ i T, names i T →
      (L ≤ T % 2 ^ 34 ∨ (L : Nat) < D T → s.issues k i (fun t => TookFault k s t 0x05 q.next nxt)) ∧
      (T % 2 ^ 34 < L → 1 ≤ D T → D T ≤ (L : Nat) → s.issues k i (fun t => WaitsFor k s t T (s.tl.fc + (D T).toNat))) ∧
      (T % 2 ^ 34 < L → D T ≤ 0 → s.issues k i (fun t => Raised (Ev.DEADLINE_MISS k) s t ∧
        t.f (F.SEQ_MISS_COUNT k) = satAdd 16 (s.f (F.SEQ_MISS_COUNT k)) 1 ∧
        t.f (F.SEQ_MISS_LATE k) = min (1 - D T).toNat 0xFFFF ∧
        (s.b (F.SEQ_CTL_MISSFAULT k) = false → OnlySeqNotes k s t ∧ q.wentOn (t.seq k) s.tl.fc 1 ∧ (t.seq k).sp = T ∧
          (t.seq k).g = q.g) ∧
        (s.b (F.SEQ_CTL_MISSFAULT k) = true → TookFault k s t 0x09 q.next nxt)))) ∧
    (512 ≤ (q.rd b).toNat → s.issues k (.waitatr k .clean a b) (fun t => TookFault k s t 0x05 q.next nxt)) ∧
    (L < q.opnd o → s.issues k (.waitrel k .clean o) (fun t => TookFault k s t 0x05 q.next nxt)) ∧
    (period.toNat ≤ (q.rd a).toNat → s.issues k (.align k .clean a period) (fun t => TookFault k s t 0x05 q.next nxt)) ∧
    ((q.rd a).toNat < period.toNat → L % period.toNat = 0 → s.seqTime k % 2 ^ 34 < L →
      s.issues k (.align k .clean a period) (fun t => ∃ T, WaitsFor k s t T (s.tl.fc + (D T).toNat) ∧
        T % 2 ^ 34 % period.toNat = (q.rd a).toNat ∧ 1 ≤ D T ∧ D T ≤ period.toNat))) ∧
  (∀ (s : State) (k : Fin 4), s.tl.copies.get (Fin.castSucc k) = Vector.replicate 3 0 → s.seqTime k = s.progTime % 2 ^ 41) ∧
  ∀ (s : State) (k : Fin 4) (T due : Nat) (met : Bool), (s.seq k).wait = .time T due met →
    (due ≤ s.tl.fc → ∃ t, exec (.timelineWaitEnd k) s = .next t ∧ OnlySeq k s t ∧ (t.seq k).mode = .running ∧
      (t.seq k).wait = .none ∧ (t.seq k).due = due ∧ (t.seq k).next = (s.seq k).peek ∧ (t.seq k).sp = (s.seq k).sp) ∧
    (s.tl.fc < due → exec (.timelineWaitEnd k) s = .next s)

/-- Contexts (R109, R114 to R119, R164 to R166, R192 to R195): what a PREFETCH, a SWITCH, a FLOPSEL and a CAPTURE do, what ends a
refill and a stall, and how a pending ALT condition is taken.
Readings and choices of this model it rests on: log 33, 34, 39, 40, 98, 104. -/
def Obligations.ContextInstructions : Prop :=
  (∀ (s : State) (k : Fin 4) (o : Opnd),
    let q := s.seq k
    let f := q.opnd o
    let j : Fin 8 := Fin.ofNat 8 f
    let p : Fin 4 := Fin.ofNat 4 (f / 8)
    let slot : Fin 32 := Fin.ofNat 32 (f / 32)
    let goesOn := fun t : State => q.wentOn (t.seq k) s.tl.fc 1 ∧ (t.seq k).g = q.g
    (s.regionTiles k j ≠ [] → s.planeBusy k j p = false → s.slotOk k j slot = true →
      s.issues k (.prefetch k .clean o) (fun t => OnlyFabSeq k s t ∧ goesOn t ∧ t.regs = s.regs ∧
        t.plane k j p = { s.plane k j p with ask := some slot } ∧
        (∀ p', p' ≠ p → t.plane k j p' = s.plane k j p') ∧
        (∀ ly j', (ly, j') ≠ (k, j) → t.region ly j' = s.region ly j'))) ∧
    (s.regionTiles k j ≠ [] → s.planeBusy k j p = true →
      s.issues k (.prefetch k .clean o) (fun t => OnlySeqNotes k s t ∧ goesOn t ∧ Raised (Ev.PLANE_BUSY k) s t)) ∧
    (s.regionTiles k j ≠ [] → s.planeBusy k j p = false → s.slotOk k j slot = false →
      s.issues k (.prefetch k .clean o) (fun t => OnlySeqNotes k s t ∧ goesOn t ∧ Raised (Ev.SLOT_INVALID k) s t)) ∧
    (s.regionTiles k j = [] →
      s.issues k (.prefetch k .clean o) (fun t => OnlySeqNotes k s t ∧ goesOn t ∧ Raised (Ev.SWITCH_REFUSED k) s t) ∧
      s.issues k (.switch k .clean o) (fun t => OnlySeqNotes k s t ∧ goesOn t ∧ Raised (Ev.SWITCH_REFUSED k) s t) ∧
      s.issues k (.flopsel k .clean o) (fun t => OnlySeq k s t ∧ goesOn t) ∧
      s.issues k (.capture k .clean o) (fun t => OnlySeq k s t ∧ goesOn t)) ∧
    (s.regionTiles k j ≠ [] → (s.region k j).cur = p →
      s.issues k (.switch k .clean o) (fun t => OnlySeq k s t ∧ goesOn t ∧
        ((t.seq k).clrAlt = true ↔ (t.seq k).inAlt = true))) ∧
    (s.regionTiles k j ≠ [] → (s.region k j).cur ≠ p → (s.plane k j p).st = .valid →
      s.issues k (.switch k .clean o) (fun t => OnlyFabSeq k s t ∧ goesOn t ∧ t.regs = s.regs ∧
        t.region k j = { s.region k j with nextCur := some p })) ∧
    (s.regionTiles k j ≠ [] → (s.region k j).cur ≠ p → (s.plane k j p).st = .refilling →
      s.issues k (.switch k .clean o) (fun t => OnlyFabSeq k s t ∧
        (t.seq k).mode = (if (s.plane k j p).refillAt + 8 ≤ s.tl.fc then .running else .stall) ∧
        (t.seq k).wait = .stall j p s.tl.fc ∧ t.region k j = { s.region k j with pendSw := some p })) ∧
    (s.regionTiles k j ≠ [] → (s.region k j).cur ≠ p → ((s.plane k j p).st = .empty ∨ (s.plane k j p).st = .invalid) →
      s.issues k (.switch k .clean o) (fun t => t.fab = s.fab ∧ Raised (Ev.SWITCH_REFUSED k) s t)) ∧
    (s.regionTiles k j ≠ [] → f / 32 % 4 = 0 → s.issues k (.flopsel k .clean o) (fun t => OnlyFabSeq k s t ∧ goesOn t ∧
        t.region k j = { s.region k j with ovrNext := some (some p) })) ∧
    (s.regionTiles k j ≠ [] → f / 32 % 4 = 2 → s.issues k (.flopsel k .clean o) (fun t => OnlyFabSeq k s t ∧ goesOn t ∧
        t.region k j = { s.region k j with ovrNext := some none })) ∧
    (s.regionTiles k j ≠ [] → (s.layer k).cap = none → (s.layer k).capReq = none →
      s.issues k (.capture k .clean o) (fun t => OnlyFabSeq k s t ∧ goesOn t ∧ t.regs = s.regs ∧
        (t.layer k).capReq = some { region := j, horn := f / 8 % 2 == 1, host := false })) ∧
    (s.regionTiles k j ≠ [] → (s.layer k).cap ≠ none →
      s.issues k (.capture k .clean o) (fun t => OnlySeqNotes k s t ∧ goesOn t ∧ Raised (Ev.CAPTURE_BUSY k) s t))) ∧
  (∀ (s : State) (ly : Fin 4) (j : Fin 8) (p : Fin 4),
    let x := s.plane ly j p
    x.run = true → s.fab.slotErr = [] → s.vl.bond = [] → s.fab.oddPar = [] →
    (x.refillAt + 9 ≤ s.tl.fc → ∃ t, exec (.refillComplete ly j p []) s = .next t ∧
        (t.plane ly j p).st = (if x.st = .invalid then .invalid else .valid) ∧
        (t.plane ly j p).slot = x.slot ∧ (t.plane ly j p).run = false ∧ t.seqs = s.seqs ∧ t.regs = s.regs ∧ t.evt = s.evt) ∧
    (s.tl.fc < x.refillAt + 9 → exec (.refillComplete ly j p []) s = .next s)) ∧
  (∀ (s : State) (ly : Fin 4) (j : Fin 8) (p : Fin 4) (slot : Fin 32), (s.plane ly j p).ask = some slot → s.slotOk ly j slot = true →
    let x := (s.refillsBegin ly j).plane ly j p
    x.st = .refilling ∧ x.slot = slot ∧ x.refillAt = s.tl.fc - 1 ∧ x.run = true ∧ x.ask = none) ∧
  (∀ (s : State) (k : Fin 4) (j : Fin 8) (p : Fin 4) (since : Nat), (s.seq k).wait = .stall j p since →
    (s.plane k j p).run = false → (s.plane k j p).refillAt + 9 ≤ s.tl.fc → (s.seq k).stopReq = none →
    ((s.plane k j p).st = .valid → ∃ t, exec (.switchStall k) s = .next t ∧ (t.region k j).cur = p ∧
      (t.region k j).pendSw = none ∧ (t.seq k).mode = .running ∧ (t.seq k).due = s.tl.fc ∧
      (since ≠ (s.plane k j p).refillAt + 8 → Raised (Ev.SWITCH_STALL k) s t) ∧
      (since = (s.plane k j p).refillAt + 8 → t.evt = s.evt)) ∧
    ((s.plane k j p).st = .empty ∨ (s.plane k j p).st = .invalid → ∃ t, exec (.switchStall k) s = .next t ∧
      (t.region k j).cur = (s.region k j).cur ∧ (t.region k j).pendSw = none ∧ Raised (Ev.SWITCH_REFUSED k) s t)) ∧
  ∀ (s : State) (k : Fin 4) (reason region entry : Nat), (s.seq k).mode = .running → (s.seq k).inAlt = false →
    (s.seq k).inFault = false → (s.seq k).stallCond = none → (s.seq k).altPend = some (reason, region) →
    (s.seq k).quiet + 1 ≤ s.tl.fc → s.vector k 1 = some entry →
    ∃ t, exec (.pendingAlt k) s = .next t ∧ (t.seq k).inAlt = true ∧ (t.seq k).altPend = none ∧ (t.seq k).next = entry ∧
      (t.seq k).due = s.tl.fc + 2 ∧ (t.seq k).calls = (s.seq k).calls ∧ (t.seq k).sp = (s.seq k).sp ∧
      Raised (Ev.ALT_TAKEN k) s t ∧ (t.seq k).rd 30 = t.reg (Rg.SEQ_ALT k) ∧
      t.reg (Rg.SEQ_ALT k) = BitVec.ofNat 32 (reason * 2 ^ 24 + region * 2 ^ 16 + (s.seq k).wouldIssue % 2 ^ 16)

/-- Barriers (R171 to R173, R213): an arrival waits; one whose mask differs from a waiting one's faults them all with
BARRIER_MISMATCH; the last arrival of a mask releases every participant 4 fc on; a timeout faults every waiter.
Readings and choices of this model it rests on: log 35, 106. -/
def Obligations.BarriersJoinTheirMask : Prop :=
  (∀ (s : State) (k : Fin 4) (mask : BitVec 4) (flag : Fin 16),
    ((∀ j m, s.arrival j flag = some m → m = mask.toNat) →
      s.issues k (.barrier k .clean mask flag) (fun t => OnlySeq k s t ∧ (t.seq k).pc = (s.seq k).next ∧
        (t.seq k).mode = .waitBar ∧ (t.seq k).wait = .barrier flag mask.toNat s.tl.fc)) ∧
    (∀ j m, s.arrival j flag = some m → m ≠ mask.toNat → (∀ i, (s.seq i).stopReq = none) →
      s.issues k (.barrier k .clean mask flag) (fun t =>
        ∀ i, i = k ∨ (s.arrival i flag).isSome → t.f (F.SEQ_FAULT_CAUSE i) = 0x07 ∧ t.arrival i flag = none))) ∧
  (∀ (s : State) (flag : Fin 16) (mask : Nat), mask < 16 → s.barrierFull flag mask = true →
    (∀ j m, s.arrival j flag = some m → m = mask) →
    ∃ t, exec (.barrierComplete flag) s = .next t ∧ { t with seqs := s.seqs } = s ∧
      (∀ j : Fin 4, mask.testBit j → (t.seq j).wait = .released flag s.tl.fc (s.tl.fc + 4) ∧ (t.seq j).mode = .waitBar ∧
        (t.seq j).loops = (s.seq j).loops) ∧
      (∀ j : Fin 4, ¬ mask.testBit j → t.seq j = s.seq j)) ∧
  (∀ (q : Seq) (flag : Fin 16) (c due fc : Nat), q.wait = .released flag c due →
    (due ≤ fc → (q.unbar fc).wait = .none ∧ (q.unbar fc).mode = .running ∧ (q.unbar fc).due = due ∧ (q.unbar fc).next = q.peek) ∧
    (fc < due → q.unbar fc = q)) ∧
  ∀ (s : State) (flag : Fin 16) (k : Fin 4), s.arrival k flag ≠ none → s.barrierLate k = true →
    (∀ j m, s.arrival j flag = some m → s.barrierFull flag m = false) → (∀ i, (s.seq i).stopReq = none) →
    ∃ t, exec (.barrierTimeout flag) s = .next t ∧
      ∀ i, s.arrival i flag ≠ none → t.f (F.SEQ_FAULT_CAUSE i) = 0x06 ∧ t.arrival i flag = none ∧ Raised (Ev.BARRIER_TIMEOUT i) s t

/-- Signal flags (R174, R175, R213): a signal is visible 4 fc on, or is lost onto a flag set or about to be and FLAG_OVERRUN raised;
a wait takes a flag visible as set, and the next instruction issues in the next fc, or it waits; of several waiters the
lowest-numbered takes it; a flag taken reads as clear; a wait of WAITTO units of 4,096 fc faults with WAIT_TIMEOUT, unless
WAITTO is 0. -/
def Obligations.FlagsAreSetTakenAndTimedOut : Prop :=
  (∀ (s : State) (k : Fin 4) (flag : Fin 16),
    let q := s.seq k
    let f := s.flags.get flag
    (f.set = false → f.due = none → s.issues k (.signal k .clean flag) (fun t => q.wentOn (t.seq k) s.tl.fc 1 ∧
      { t with seqs := s.seqs, flags := s.flags } = s ∧ t.flags.get flag = { set := false, due := some (s.tl.fc + 4) } ∧
      ∀ g, g ≠ flag → t.flags.get g = s.flags.get g)) ∧
    (f.set = true ∨ f.due ≠ none → s.issues k (.signal k .clean flag) (fun t => OnlySeqNotes k s t ∧
      q.wentOn (t.seq k) s.tl.fc 1 ∧ Raised (Ev.FLAG_OVERRUN k) s t)) ∧
    (s.mayTake k flag = true → s.issues k (.wait k .clean flag) (fun t =>
      q.wentOn (t.seq k) s.tl.fc 1 ∧ { t with seqs := s.seqs, flags := s.flags } = s ∧ t.flags.get flag = { f with set := false } ∧
      ∀ g, g ≠ flag → t.flags.get g = s.flags.get g)) ∧
    (s.mayTake k flag = false → s.issues k (.wait k .clean flag) (fun t => OnlySeq k s t ∧
      (t.seq k).mode = .waitFlag ∧ (t.seq k).wait = .flag flag s.tl.fc ∧ (t.seq k).pc = q.next))) ∧
  (∀ (s : State) (k : Fin 4) (flag : Fin 16), s.mayTake k flag = true ↔
    (s.flags.get flag).set = true ∧ ∀ j, j < k → s.waitsFlag j flag = false ∧ (s.seq j).ready s.tl.fc = false) ∧
  (∀ (s : State) (k : Fin 4) (flag : Fin 16) (since : Nat), (s.seq k).wait = .flag flag since →
    (s.mayTake k flag = true →
      ∃ t, exec (.flagWaitEnd k) s = .next t ∧ { t with seqs := s.seqs, flags := s.flags } = s ∧
        (t.flags.get flag).set = false ∧ (t.seq k).mode = .running ∧ (t.seq k).wait = .none ∧
        (t.seq k).next = (s.seq k).peek ∧ (t.seq k).due = s.tl.fc + 1) ∧
    (s.mayTake k flag = false → exec (.flagWaitEnd k) s = .next s)) ∧
  (∀ (s : State) (g : Fin 16) (d : Nat), s.tl.running = true → s.fcDone = true → s.flags.get g = { set := false, due := some d } →
    ∃ t, exec .fcBoundary s = .next t ∧ ((t.flags.get g).set = true ↔ d ≤ t.tl.fc)) ∧
  (∀ (s : State) (k : Fin 4) (flag : Fin 16) (since : Nat), (s.seq k).wait = .flag flag since →
    (s.waitLate k = true ↔ s.f (F.SEQ_CFG_WAITTO k) ≠ 0 ∧ since + s.f (F.SEQ_CFG_WAITTO k) * 4096 ≤ s.tl.fc)) ∧
  ∀ (s : State) (k : Fin 4), s.waitLate k = true →
    ∃ t, exec (.waitTimeout k) s = .next t ∧ TookFault k s t 0x08 (s.seq k).pc (s.seq k).wouldIssue ∧
      Raised (Ev.WAIT_TIMEOUT k) s t

/-- Start and stop (R123, R178 to R180, R222): START names an entry and waits, or reports a bad one, is kept while a load
checks and commits, and does nothing to a sequencer that runs or waits to start; 8 fc after the later of start and release
the sequencer runs from it with everything clear, or takes the ALT entry where a region is held; STOP asks for the stop, and
ends a start that waits.
Readings and choices of this model it rests on: log 32, 40, 105, 107. -/
def Obligations.SequencersStartAndStop : Prop :=
  (∀ (s : State) (who : Who) (k : Fin 4) (v : Word), s.stopAccess who (Rg.SEQ_CTL k) = none →
    let u := s.writeFields (Rg.SEQ_CTL k) v
    let entry := s.vector k (2 + u.f (F.SEQ_CTL_ENTRY k))
    (v.getLsbD 17 = false → v.getLsbD 16 = true → s.startHeld k = false → s.lineDead k = false →
      ((s.seq k).mode = .stopped ∨ (s.seq k).mode = .faulted) → (s.seq k).wait = .none →
      (∀ e, entry = some e → ∃ t, exec (.start who k v) s = .next t ∧ (t.seq k).wait = .start e s.tl.fc ∧
        (∀ j, j ≠ k → t.seq j = s.seq j) ∧ RegsBut [Rg.SEQ_CTL k] s t ∧ t.reply = .done) ∧
      (entry = none → ∃ t, exec (.start who k v) s = .next t ∧ t.f (F.SEQ_STATUS_BADSTART k) = 1 ∧ t.seqs = s.seqs)) ∧
    (v.getLsbD 17 = false → v.getLsbD 16 = true → s.startHeld k = true →
      ∃ t, exec (.start who k v) s = .next t ∧ t.seqs = s.seqs ∧ t.heldStart.testBit k = true) ∧
    (v.getLsbD 17 = false → v.getLsbD 16 = true → s.startHeld k = false →
      (s.lineDead k = true ∨ ((s.seq k).mode ≠ .stopped ∧ (s.seq k).mode ≠ .faulted) ∨ (s.seq k).wait ≠ .none) →
      ∃ t, exec (.start who k v) s = .next t ∧ t.seqs = s.seqs ∧ RegsBut [Rg.SEQ_CTL k] s t) ∧
    (v.getLsbD 17 = true → (s.seq k).mode ≠ .stopped →
      ∃ t, exec (.stop who k v) s = .next t ∧ (t.seq k).stopReq = some s.tl.fc ∧ (∀ j, j ≠ k → t.seq j = s.seq j) ∧
        (t.seq k).g = (s.seq k).g ∧ t.reply = .done) ∧
    (v.getLsbD 17 = true → (s.seq k).mode = .stopped →
      ∃ t, exec (.stop who k v) s = .next t ∧ (t.seq k).wait = .none ∧ (t.seq k).mode = .stopped ∧ t.evt = s.evt)) ∧
  ∀ (s : State) (k : Fin 4) (e since : Nat), (s.seq k).wait = .start e since →
    (s.tl.released = true → max s.tl.relFc since + 8 ≤ s.tl.fc → s.heldAtStart k = none →
      ∃ t, exec (.seqStarted k) s = .next t ∧ OnlySeqNotes k s t ∧ Raised (Ev.SEQ_STARTED k) s t ∧
        (t.seq k).mode = .running ∧ (t.seq k).next = e ∧ (t.seq k).due = s.tl.fc ∧ (∀ r, (t.seq k).rd r = 0) ∧
        (t.seq k).calls = [] ∧ (t.seq k).loops = [] ∧ (t.seq k).inputs s.tl.fc = 0 ∧ (t.seq k).sp = s.seqTime k ∧
        (t.seq k).inAlt = false ∧ (t.seq k).inFault = false ∧ (t.seq k).altPend = none ∧
        (t.seq k).n = false ∧ (t.seq k).z = false ∧ (t.seq k).c = false ∧ (t.seq k).v = false ∧
        t.reg (Rg.SEQ_FAULT k) = 0 ∧ t.reg (Rg.SEQ_ALT k) = 0) ∧
    (∀ j a, s.tl.released = true → max s.tl.relFc since + 8 ≤ s.tl.fc → s.heldAtStart k = some j → s.vector k 1 = some a →
      ∃ t, exec (.seqStarted k) s = .next t ∧ Raised (Ev.SEQ_STARTED k) s t ∧ Raised (Ev.ALT_TAKEN k) s t ∧
        (t.seq k).inAlt = true ∧ (t.seq k).next = a ∧ (t.seq k).due = s.tl.fc + 1 ∧
        t.reg (Rg.SEQ_ALT k) = BitVec.ofNat 32 (2 * 2 ^ 24 + j * 2 ^ 16 + e % 2 ^ 16)) ∧
    (s.tl.released = false ∨ s.tl.fc < max s.tl.relFc since + 8 → exec (.seqStarted k) s = .next s)

/-- RAISE, LOG, EVCLR, and words fetched with errors (R156, R210 to R212): RAISE signals its source once; LOG hands the
recorder a record of the registers it names and raises nothing; EVCLR clears the inputs of its mask, but for those latched in its
own fc; a correctable word issues corrected and owes its write-back, an uncorrectable one faults in its place; a word written back
loses its mark.
Readings and choices of this model it rests on: log 6, 81, 82. -/
def Obligations.EventAndRecordInstructions : Prop :=
  (∀ (s : State) (k : Fin 4) (sev event : BitVec 3) (a : Fin 32) (o : Opnd) (count : BitVec 4) (type : Byte) (v : Sev),
    let q := s.seq k
    let nxt := ({ q with pc := q.next } : Seq).peek
    (progSev sev.toNat = some v → s.issues k (.raise k .clean sev event a) (fun t => OnlySeqNotes k s t ∧
      q.wentOn (t.seq k) s.tl.fc 1 ∧ RegsBut noteRegs s t ∧ Raised (Ev.USER k event.toNat) s t ∧
      (t.src (Ev.USER k event.toNat)).sev = some v)) ∧
    (progSev sev.toNat = some v → s.rcd.staged = [] → s.issues k (.log k .clean a count type sev) (fun t =>
      OnlySeqNotes k s t ∧ q.wentOn (t.seq k) s.tl.fc 1 ∧ t.regs = s.regs ∧ t.evt = s.evt ∧
      ∃ r, t.rcd.staged = [r] ∧ r.type = 0xF00 + type.toNat ∧ r.sev = v ∧ r.src = k ∧
        r.payload = q.rdAll a.val (min 8 count.toNat))) ∧
    (progSev sev.toNat = none → s.issues k (.raise k .clean sev event a) (fun t => TookFault k s t 0x02 q.next nxt) ∧
      s.issues k (.log k .clean a count type sev) (fun t => TookFault k s t 0x02 q.next nxt)) ∧
    s.issues k (.evclr k .clean o) (fun t => OnlySeq k s t ∧ q.wentOn (t.seq k) s.tl.fc 1 ∧ (t.seq k).g = q.g ∧
      (t.seq k).inputs s.tl.fc = q.inputs s.tl.fc &&& ~~~(q.opw o) ∧
      (q.evNewAt = s.tl.fc + 1 → (t.seq k).evNew = q.evNew))) ∧
  (∀ (s : State) (k : Fin 4), (s.seq k).ready s.tl.fc = true →
    let q := s.seq k
    let key := 65536 * k.val + q.next
    mget Ecc.clean s.fab.pgmErr key = .clean →
    (saenoInstr k .corr (s.pgmWord k q.next) = .nop k .corr → mfind s.fab.pgmWb key = none →
      ∃ t, exec (.nop k .corr) s = .next t ∧ q.wentOn (t.seq k) s.tl.fc 1 ∧ Counted (F.SEQ_PMERR_CORR k) s t ∧
        Raised (Ev.PGM_CORR k) s t ∧ t.fab.pgm = s.fab.pgm ∧ mget Ecc.clean t.fab.pgmErr key = .corr ∧
        mfind t.fab.pgmWb key = some (s.tl.fc + 16)) ∧
    ∃ t, exec (.nop k .uncorr) s = .next t ∧ TookFault k s t 0x01 q.next q.next ∧ Raised (Ev.PGM_UNCORR k) s t ∧
      Counted (F.SEQ_PMERR_UNCORR k) s t ∧ mget Ecc.clean t.fab.pgmErr key = .uncorr) ∧
  ∀ (s : State) (k : Fin 4) (addr : BitVec 16),
    let key := 65536 * k.val + addr.toNat
    ((mfind s.fab.pgmWb key).isSome = true → ∃ t, exec (.programWriteBack k addr) s = .next t ∧
      mget Ecc.clean t.fab.pgmErr key =
        (if mget Ecc.clean s.fab.pgmErr key = .corr then .clean else mget Ecc.clean s.fab.pgmErr key) ∧
      mfind t.fab.pgmWb key = none ∧ t.fab.pgm = s.fab.pgm ∧
      (∀ x, x ≠ key → mget Ecc.clean t.fab.pgmErr x = mget Ecc.clean s.fab.pgmErr x ∧ mfind t.fab.pgmWb x = mfind s.fab.pgmWb x) ∧
      { t with fab := { t.fab with pgmErr := s.fab.pgmErr, pgmWb := s.fab.pgmWb } } = s) ∧
    ((mfind s.fab.pgmWb key).isSome = false → exec (.programWriteBack k addr) s = .next s)

/-- The sequencer's memory port (R203 to R209, R304, Table 7-2): QPUSH, QPOP and HCOEF hand their access over and go on when their
cost is over; the controller's answer sets Z, and C and the registers; QWAIT waits for its condition; a group of a coefficient load
is written in its fc; a queue that is not the sequencer's, and a source that is not its layer's, fault.
Readings and choices of this model it rests on: log 49, 114. -/
def Obligations.SequencerPortAccesses : Prop :=
  (∀ (s : State) (k : Fin 4) (a b d : Fin 32) (o : Opnd) (full : Bool) (tile group : BitVec 6) (count : BitVec 7),
    let q := s.seq k
    let n := q.opnd o
    let nxt := ({ q with pc := q.next } : Seq).peek
    let hands := fun (t : State) (cost : Nat) (op : PortOp) => OnlySeq k s t ∧ q.wentOn (t.seq k) s.tl.fc cost ∧
      (t.seq k).g = q.g ∧ (t.seq k).loops = q.loops ∧ (t.seq k).ports = q.ports ++ [op]
    (n < 32768 → s.mayPush n (partySeq k) = true → s.issues k (.qpush k .clean a o) (fun t =>
      hands t (10 + 4 * k) (.push n (q.rdAll a 4) s.tl.fc q.next))) ∧
    (n < 32768 → s.mayPop n (partySeq k) = true →
      s.issues k (.qpop k .clean d o) (fun t => hands t (12 + 4 * k) (.pop n d s.tl.fc q.next)) ∧
      (s.qwaitMet k n full = true → s.issues k (.qwait k .clean full o) (fun t => OnlySeq k s t ∧
        q.wentOn (t.seq k) s.tl.fc 1 ∧ (t.seq k).g = q.g)) ∧
      (s.qwaitMet k n full = false → s.issues k (.qwait k .clean full o) (fun t => OnlySeq k s t ∧
        (t.seq k).mode = .waitQueue ∧ (t.seq k).wait = .queue n full s.tl.fc))) ∧
    (s.hcoefOk k (q.rd b).toNat count.toNat = true → s.issues k (.hcoef k .clean a b tile group count) (fun t =>
      hands t (10 + 4 * k + count.toNat)
        (.hcoef (q.rd a).toNat (q.rd b).toNat tile.toNat group.toNat count.toNat 0 s.tl.fc q.next))) ∧
    (32768 ≤ n ∨ s.mayPush n (partySeq k) = false → s.issues k (.qpush k .clean a o) (fun t =>
      TookFault k s t 0x0C q.next nxt ∧ (n < 32768 → Raised (qcEv n 3) s t))) ∧
    (32768 ≤ n ∨ s.mayPop n (partySeq k) = false → s.issues k (.qpop k .clean d o) (fun t =>
        TookFault k s t 0x0C q.next nxt ∧ (n < 32768 → Raised (qcEv n 3) s t)) ∧
      s.issues k (.qwait k .clean full o) (fun t => TookFault k s t 0x0C q.next nxt)) ∧
    (s.hcoefOk k (q.rd b).toNat count.toNat = false → s.issues k (.hcoef k .clean a b tile group count) (fun t =>
      TookFault k s t 0x0E q.next nxt))) ∧
  (∀ (s : State) (k : Fin 4) (n issue pc : Nat) (data : List Word) (d : Nat), n < 32768 →
    issue + 2 * k.val + 5 ≤ s.tl.fc →
    let q := s.seq k
    let ends := fun (t : State) (op : PortOp) (r : PortRes) => (t.seq k).ports = q.ports.erase op ∧ (t.seq k).res = q.res ++ [r]
    let push : PortOp := .push n data issue pc
    let pop : PortOp := .pop n d issue pc
    (q.portOp true = some push → s.seqPathStop k push = none → s.mayPush n (partySeq k) = true → (s.queue n).full = true →
      ∃ t, exec (.seqPortAccess k false .clean .clean) s = .next t ∧ OnlySeq k s t ∧
        ends t push { due := issue + 9 + 4 * k, pc := pc, d := 0, data := [], z := some true, c := none, fault := none }) ∧
    (q.portOp true = some push → s.seqPathStop k push = none → s.mayPush n (partySeq k) = true → (s.queue n).full = false →
      ∃ t, exec (.seqPortAccess k false .clean .clean) s = .next t ∧
        ends t push { due := issue + 9 + 4 * k, pc := pc, d := 0, data := [], z := some false, c := none, fault := none } ∧
        ((s.queue n).esz ≤ 64 → s.mem.writes = [] → s.mem.cyc = [] →
          (t.queue n).push = ((s.queue n).push + 1) % 65536 ∧ (t.queue n).count = (s.queue n).count + 1)) ∧
    (q.portOp true = some push → s.seqPathStop k push = none → s.mayPush n (partySeq k) = false →
      ∃ t, exec (.seqPortAccess k false .clean .clean) s = .next t ∧ t.qs = s.qs ∧ t.mem = s.mem ∧ Raised (qcEv n 3) s t ∧
        ends t push { due := issue + 10 + 4 * k, pc := pc, d := 0, data := [], z := none, c := none, fault := some 0x0C }) ∧
    (q.portOp true = some pop → s.seqPathStop k pop = none → s.mayPop n (partySeq k) = true → s.poppable n = 0 →
      ∃ t, exec (.seqPortAccess k false .clean .clean) s = .next t ∧ OnlySeq k s t ∧
        ends t pop { due := issue + 11 + 4 * k, pc := pc, d := 0, data := [], z := some true, c := none, fault := none }) ∧
    (q.portOp true = some pop → s.seqPathStop k pop = none → s.mayPop n (partySeq k) = true → s.poppable n ≠ 0 →
      s.mem.marks = [] → s.mem.cyc = [] →
      let x := s.queue n
      let data := splitUp ((List.range x.words).map (fun w => s.word (entryKey n x ((x.pop + x.lent) % 65536) + w)))
      ∃ t c, exec (.seqPortAccess k false .clean .clean) s = .next t ∧
        (t.queue n).pop = (x.pop + 1) % 65536 ∧ (t.queue n).count = x.count - 1 ∧
        ends t pop { due := issue + 11 + 4 * k, pc := pc, d := d, data := data, z := some false, c := some c, fault := none }) ∧
    (q.portOp true = some push → ∃ t, exec (.seqPortAccess k true .clean .clean) s = .next t ∧ OnlySeq k s t ∧
        ends t push { due := issue + 10 + 4 * k, pc := pc, d := 0, data := [], z := none, c := none, fault := some 0x0D })) ∧
  (∀ (s : State) (k : Fin 4) (n since : Nat) (full : Bool), (s.seq k).wait = .queue n full since →
    (s.seenGone k n = false → s.qwaitMet k n full = true → ∃ t, exec (.qwaitEnd k) s = .next t ∧ OnlySeq k s t ∧
      (t.seq k).mode = .running ∧ (t.seq k).due = s.tl.fc + 1 ∧ (t.seq k).next = (s.seq k).peek) ∧
    (s.seenGone k n = false → s.qwaitMet k n full = false → exec (.qwaitEnd k) s = .next s) ∧
    (s.seenGone k n = true → ∃ t, exec (.qwaitEnd k) s = .next t ∧
      TookFault k s t 0x0C (s.seq k).pc (s.seq k).wouldIssue)) ∧
  ∀ (s : State) (k : Fin 4) (mask src group count written issue pc : Nat) (tile : Fin 64),
    written < count → issue + 9 + 4 * k.val + written ≤ s.tl.fc → group + written < 64 →
    let op : PortOp := .hcoef mask src tile group count written issue pc
    let key := (src + 64 * written) / 8
    s.seqPathStop k op = none → (s.seq k).portOp false = some op → (s.cyc (key / 2 ^ 20)).bOld = [] → (∀ i : Fin 8, s.foundAt [] (key + i) = .clean) →
    ∃ t, exec (.hcoefGroupWrite k false []) s = .next t ∧ t.mem = s.mem ∧ t.regs = s.regs ∧ t.evt = s.evt ∧
      ((t.seq k).ports = if written + 1 < count then
          (s.seq k).ports.replace op (.hcoef mask src tile group count (written + 1) issue pc) else (s.seq k).ports.erase op) ∧
      ∀ (b : Fin 32), (mask.testBit b → ∀ i : Fin 8,
          let w := s.word (key + i)
          mget none t.fab.coef (coefKey k tile b (16 * (group + written) + 2 * i)) = some (BitVec.ofNat 32 w.toNat) ∧
          mget none t.fab.coef (coefKey k tile b (16 * (group + written) + 2 * i + 1)) =
            some (BitVec.ofNat 32 (w.toNat / 2 ^ 32))) ∧
        (¬ mask.testBit b → ∀ a, a < 1024 → mget none t.fab.coef (coefKey k tile b a) = mget none s.fab.coef (coefKey k tile b a))

/-! ## Fabric -/

/-- Upsets (R20, R67 to R72, R74, R75, R142, R147, R150): an upset flips its bits and parity notes an odd one in an armed
group, its plane current or not in that fc; each path reads one group of those that wait in an fc; a repair writes the group
it has read back, counts and reports, or, where the stored word is not correctable, leaves the plane INVALID; a corrected
coefficient loses its mark in an fc in which its block reads none; the count clears clear the layers of their bits, down to
what the same cycle brought.
Readings and choices of this model it rests on: log 41. -/
def Obligations.UpsetsAreFoundRepairedAndCounted : Prop :=
  (∀ (s : State) (layer plane : Fin 4) (tile : Fin 64) (group : Nat) (flip : BitVec 65),
    let key := groupKey layer tile plane group
    let g := groupOf key
    let x := s.plane layer (s.tileRegion layer tile) plane
    let odd := ones 65 flip.toNat % 2 = 1
    ∃ t, exec (.upset layer plane tile group flip) s = .next t ∧
      { t with fab := { t.fab with planes := s.fab.planes, oddPar := s.fab.oddPar, upsets := s.fab.upsets, horn := s.fab.horn } } = s ∧
      mnum t.fab.planes key 8 = Nat.xor (mnum s.fab.planes key 8) (flip.toNat % 2 ^ 64) % 2 ^ 64 ∧
      (odd → mget false t.fab.oddPar g = !mget false s.fab.oddPar g) ∧ (¬ odd → t.fab.oddPar = s.fab.oddPar) ∧
      (x.armed = true → odd → mget false s.fab.oddPar g = false → mfind s.fab.upsets g = none →
        mfind t.fab.upsets g = some { since := s.tl.fc, act := s.tilePlane layer tile == plane, read := none }) ∧
      (x.armed = false ∨ (¬ odd ∧ mget false s.fab.oddPar g = false ∧ mfind s.fab.upsets g = none) →
        t.fab.upsets = s.fab.upsets)) ∧
  (∀ (s : State) (g : Nat) (u : Upset), s.fab.upsets = [(g, u)] → u.read = none → u.since < s.tl.fc →
    let a := keyAt (8 * g)
    let p : Fin 4 := Fin.ofNat 4 (8 * g / 2 ^ 20 % 32)
    s.repairReads.fab.upsets = [(g, { u with read := some (s.tl.fc, (s.plane a.ly (s.tileRegion a.ly a.t) p).slot) })]) ∧
  (∀ (s : State) (g h : Nat) (u v : Upset), s.fab.upsets = [(g, u), (h, v)] → g < h → repairUnit g = repairUnit h →
    u.read = none → v.read = none → u.since = v.since → u.since < s.tl.fc →
    ∃ r, s.repairReads.fab.upsets = [(g, { u with read := some (s.tl.fc, r) }), (h, v)]) ∧
  (∀ (s : State) (layer plane : Fin 4) (tile : Fin 64) (group : Nat) (u : Upset) (slot : Fin 32),
    let key := groupKey layer tile plane group
    let g := groupOf key
    let x := s.plane layer (s.tileRegion layer tile) plane
    let src := ckey layer tile slot.val 0 + 8 * group
    mget Ecc.clean s.fab.slotErr (wordKey src) = .clean →
    (s.repairDue g = some (u, slot) → (∃ t, exec (.planeUpset layer plane tile group .clean) s = .next t ∧
        mnum t.fab.planes key 8 = mnum s.fab.slots src 8 % 2 ^ 64 ∧ mfind t.fab.upsets g = none ∧
        mget false t.fab.oddPar g = false ∧ Raised (Ev.PLANE_UPSET layer) s t ∧
        { t with fab := s.fab, regs := s.regs, evt := s.evt, rcd := s.rcd, rpl := s.rpl, lastAt := s.lastAt } = s ∧
        Counted (F.ECC_PUPSET_COUNT layer) s t ∧
        (8 * group < offCluster → (mget (0, 0) s.lastAt Rg.ECC_PULAST).1 ≠ s.tl.fc + 1 →
          t.b F.ECC_PULAST_ACTIVE = u.act ∧ t.b F.ECC_PULAST_UNCORR = false)) ∧
      (x.st ≠ .refilling → ∃ t, exec (.planeUpset layer plane tile group .uncorr) s = .next t ∧
        (t.plane layer (s.tileRegion layer tile) plane).st = .invalid ∧ t.fab.planes = s.fab.planes ∧
        Raised (Ev.PLANE_UNCORR layer) s t)) ∧
    (s.repairDue g = none → exec (.planeUpset layer plane tile group .clean) s = .next s)) ∧
  (∀ (s : State) (ly : Fin 4) (tile : Fin 64) (b : Fin 32) (addr : BitVec 10),
    let key := coefKey ly tile b addr.toNat
    (mget Ecc.clean s.fab.coefErr key = .corr → s.readsPair ly tile b = false →
      ∃ t, exec (.coefficientWriteBack ly tile b addr) s = .next t ∧
      mget Ecc.clean t.fab.coefErr key = .clean ∧ { t with fab := { t.fab with coefErr := s.fab.coefErr } } = s ∧
      ∀ a, a ≠ key → mget Ecc.clean t.fab.coefErr a = mget Ecc.clean s.fab.coefErr a) ∧
    (mget Ecc.clean s.fab.coefErr key ≠ .corr ∨ s.readsPair ly tile b = true →
      exec (.coefficientWriteBack ly tile b addr) s = .next s)) ∧
  ∀ (s : State) (who : Who) (v : CountClear) (n : Fin 4),
    (s.stopAccess who Rg.ECC_PUCLR = none → ∃ t, exec (.eccPuclr who v) s = .next t ∧ t.reply = .done ∧ OnlyRegs s t ∧
      t.f (F.ECC_PUPSET_COUNT n) =
        if v.word.getLsbD n then min (metAt v.same n) (s.f (F.ECC_PUPSET_COUNT n)) else s.f (F.ECC_PUPSET_COUNT n)) ∧
    (s.stopAccess who Rg.ECC_HCCLR = none → ∃ t, exec (.eccHcclr who v) s = .next t ∧ t.reply = .done ∧ OnlyRegs s t ∧
      t.f (F.ECC_HCCOR_COUNT n) =
        if v.word.getLsbD n then min (metAt v.same n) (s.f (F.ECC_HCCOR_COUNT n)) else s.f (F.ECC_HCCOR_COUNT n))

/-- Shaft lanes (R97 to R103, Table 3-7): the code names any one failed lane, and the receiver presents what was sent; a
correction is counted and, at the threshold, the lane is declared and a spare asked for; a syndrome that names none fails the
group; a swap moves the lane to the next spare, from which the receivers take it 3 fc later; a window starts with no
correction in it; VL_SHCLR clears the counts of its boundaries, down to what the same cycle brought.
Readings and choices of this model it rests on: log 57, 100, 101, 102, 103. -/
def Obligations.ShaftLanesAreCountedAndSwapped : Prop :=
  ((∀ i, i < 64 → syndromePos (laneColumn i) = some i) ∧ (∀ j, j < 7 → syndromePos (2 ^ j) = some (64 + j)) ∧
    syndromePos 0 = none) ∧
  (∀ (w : ShaftWord) (i : Nat), i < 71 → w.check = checkLanes w.data →
    let r := w.flipped (1#71 <<< i)
    syndromePos r.syndrome.toNat = some i ∧ r.corrected = w.data) ∧
  (∀ (s : State) (b : Fin 3) (g : Fin 256) (flip : BitVec 71),
    let r := (s.shaftWord (shKey b g)).flipped flip
    let x := r.syndrome
    (s.b (F.VL_BG_STAT_FAILED b g) = true → exec (.shaftCorr b g flip) s = .next s) ∧
    (s.b (F.VL_BG_STAT_FAILED b g) = false →
      (∃ t, exec (.shaftCorr b g flip) s = .next t ∧ (t.shaftWord (shKey b g)).data = r.corrected) ∧
      (∀ pos, syndromePos x.toNat = some pos → s.onOldLane b g pos = false →
        mget 0 (s.lanes b g).win pos + 1 < s.shaftThresh →
        ∃ t, exec (.shaftCorr b g flip) s = .next t ∧ Raised (Ev.SHAFT_CORR b) s t ∧
          t.f (F.VL_BG_STAT_CORRCNT b g) = satAdd 16 (s.f (F.VL_BG_STAT_CORRCNT b g)) 1 ∧
          mget 0 (t.lanes b g).win pos = mget 0 (s.lanes b g).win pos + 1 ∧ (t.lanes b g).faill = (s.lanes b g).faill ∧
          RegsBut (Rg.VL_BG_STAT b g :: noteRegs) s t) ∧
      (∀ pos, syndromePos x.toNat = some pos → s.onOldLane b g pos = true →
        ∃ t, exec (.shaftCorr b g flip) s = .next t ∧ Raised (Ev.SHAFT_CORR b) s t ∧ t.fab.lanes = s.fab.lanes) ∧
      (∀ pos i, syndromePos x.toNat = some pos → s.onOldLane b g pos = false →
        s.shaftThresh ≤ mget 0 (s.lanes b g).win pos + 1 → (s.lanes b g).faill = none → s.nextSpare b g = some i →
        ∃ t, exec (.shaftCorr b g flip) s = .next t ∧ (t.lanes b g).faill = some pos ∧
          t.f (F.VL_BG_STAT_FAILLANE b g) = pos ∧ t.b (F.VL_BG_STAT_SWAPPEND b g) = true ∧ Raised (Ev.SHAFT_CORR b) s t) ∧
      (x ≠ 0 → syndromePos x.toNat = none → ∃ t, exec (.shaftCorr b g flip) s = .next t ∧
        t.b (F.VL_BG_STAT_FAILED b g) = true ∧ Raised (Ev.SHAFT_FAILED b) s t))) ∧
  (∀ (s : State) (b : Fin 3) (g : Fin 256) (pos i : Nat), pos < 128 → (s.lanes b g).faill = some pos → s.nextSpare b g = some i →
    (s.b (F.VL_BG_STAT_SWAPPEND b g) = true → s.swapFc b g = true → ∃ t, exec (.shaftSwap b g) s = .next t ∧
      t.f (spareFld b g i) = 128 + pos ∧ t.b (F.VL_BG_STAT_SWAPPEND b g) = false ∧
      t.f (F.VL_BG_STAT_SPARES b g) = s.f (F.VL_BG_STAT_SPARES b g) - 1 ∧ (t.lanes b g).faill = none ∧
      (t.lanes b g).old = some (pos, s.tl.fc + 3) ∧ Raised (Ev.SHAFT_SWAP b) s t) ∧
    (s.swapFc b g = false → exec (.shaftSwap b g) s = .next s)) ∧
  (∀ (s : State) (b : Fin 3) (g : Fin 256) (pos f : Nat),
    let x := s.lanes b g
    x.old = some (pos, f) → x.faill = none → s.f (F.VL_BG_STAT_FAILLANE b g) = pos →
    (f ≤ s.tl.fc → (s.laneSwapped (shKey b g) x).f (F.VL_BG_STAT_FAILLANE b g) = 0x7F ∧
      ((s.laneSwapped (shKey b g) x).lanes b g).old = none) ∧
    (s.tl.fc < f → s.laneSwapped (shKey b g) x = s)) ∧
  (∀ s : State, s.sched % 4096 = 0 → ∃ t, exec .correctionWindow s = .next t ∧
    { t with fab := { t.fab with lanes := s.fab.lanes }, vl := { t.vl with groups := s.vl.groups } } = s ∧
    (∀ b g, (t.lanes b g).win = []) ∧
    (mwf lanes0 s.fab.lanes = true → ∀ b g, (t.lanes b g).faill = (s.lanes b g).faill ∧
      (t.lanes b g).badSpares = (s.lanes b g).badSpares ∧ (t.lanes b g).old = (s.lanes b g).old)) ∧
  ∀ (s : State) (who : Who) (v : CountClear) (b : Fin 3) (g : Fin 256), s.stopAccess who Rg.VL_SHCLR = none →
    ∃ t, exec (.vlShclr who v) s = .next t ∧ t.reply = .done ∧ OnlyRegs s t ∧
      t.f (F.VL_BG_STAT_CORRCNT b g) =
        if v.word.getLsbD b then min (metAt v.same (shKey b g)) (s.f (F.VL_BG_STAT_CORRCNT b g)) else s.f (F.VL_BG_STAT_CORRCNT b g)

/-- Horn blocks (R133, R136 to R144, Table 5-4): a block that captures a MAC or CMUL set has its two products in the
pipeline, due 4 fc on, of fabric operands or of the coefficient pair its mode word names; one that captures nothing, or has
captured its set of the fc, keeps its state; a due result reaches the bus, and a MAC's the accumulators, saturated.
Set-reset is released (R58, R383, R393, R544): globally where it is due and no refill runs, DONE rises; regionally 16 fc
after it was asserted.
Readings and choices of this model it rests on: log 43, 66. -/
def Obligations.HornBlocksAndSetReset : Prop :=
  ((∀ (s : State) (ly : Fin 4) (tile : Fin 64) (b : Fin 32) (e0 e1 : Flaw),
     let a : At := { ly := ly, t := tile }
     let m := s.hornMode ly tile (s.tilePlane ly tile) b
     let c := s.controlBits a b
     let w := s.operandWord a b
     let x := s.hornAt ly tile b
     let one := fun (vals : List Int) =>
       let op : HornOp := { due := s.tl.fc + 4, taken := s.tl.fc, mode := m, start := nbits c 1 1 == 1, vals := vals, err := false, broke := false }
       x.pipe ++ [op]
     (s.captures a m c = false ∨ x.took = true → exec (.operandSet ly tile b e0 e1) s = .next s) ∧
     (s.captures a m c = true → x.took = false → (hmMode m = 1 ∨ hmMode m = 2) →
       (hmBsrc m = false → ∃ t, exec (.operandSet ly tile b e0 e1) s = .next t ∧
         { t with fab := { t.fab with horn := s.fab.horn } } = s ∧ (t.hornAt ly tile b).acc = x.acc ∧
         (t.hornAt ly tile b).took = true ∧
         (t.hornAt ly tile b).pipe = one (parts [(opAt w 0).mul (opAt w 1) (hmConjb m), (opAt w 2).mul (opAt w 3) (hmConjb m)]) ∧
         ∀ b', b' ≠ b → t.hornAt ly tile b' = s.hornAt ly tile b') ∧
       (∀ w0 w1 : Word, hmBsrc m = true →
         let pr := pairAddr m c (x.under m).ctr
         s.coefSeen (coefKey ly tile b (2 * pr)) = (some w0, .clean) →
         s.coefSeen (coefKey ly tile b (2 * pr + 1)) = (some w1, .clean) →
         ∃ t, exec (.operandSet ly tile b .clean .clean) s = .next t ∧ (t.hornAt ly tile b).acc = x.acc ∧
           (t.hornAt ly tile b).ctr = nextCtr m c (x.under m).ctr ∧ t.regs = s.regs ∧ t.evt = s.evt ∧
           (t.hornAt ly tile b).pipe = one (parts [(opAt w 0).mul (cxOf w0.toNat) (hmConjb m), (opAt w 1).mul (cxOf w1.toNat) (hmConjb m)])))) ∧
   ∀ (s : State) (ly : Fin 4) (tile : Fin 64) (b : Fin 32) (o : HornOp),
     let x := s.hornAt ly tile b
     (s.setReset { ly := ly, t := tile } = true → exec (.hornResult ly tile b) s = .next s) ∧
     (s.setReset { ly := ly, t := tile } = false → x.pipe = [o] → o.broke = false →
     (o.due ≤ s.tl.fc → ∃ t, exec (.hornResult ly tile b) s = .next t ∧
       { t with fab := { t.fab with horn := s.fab.horn } } = s ∧
       (t.hornAt ly tile b).pipe = [] ∧ (t.hornAt ly tile b).newAt = s.tl.fc + 1 ∧
       (hmMode o.mode = 2 → (t.hornAt ly tile b).acc = x.acc ∧
         (t.hornAt ly tile b).bus = resultBits o.mode [⟨o.vals.getD 0 0, o.vals.getD 1 0⟩, ⟨o.vals.getD 2 0, o.vals.getD 3 0⟩] o.err false) ∧
       (hmMode o.mode = 1 → ∀ i : Fin 4, (t.hornAt ly tile b).acc.get i =
         max (-(2 ^ 47)) (min (2 ^ 47 - 1) ((if o.start then 0 else x.acc.get i) + o.vals.getD i 0)))) ∧
     (s.tl.fc < o.due → ∃ t, exec (.hornResult ly tile b) s = .next t ∧ t.hornAt ly tile b = x))) ∧
  ((∀ s : State, s.ld = none → s.pwr.pend = [] →
     (s.fab.gsr = true → s.noRefill = true → (∀ a, s.fab.relAt = some a → a ≤ s.tl.fc) → s.fab.relAt ≠ none →
       ∃ t, exec .setResetRelease s = .next t ∧ t.fab.gsr = false ∧ t.fab.relAt = none ∧ t.b F.CFG_STATUS_DONE = true ∧
         t.pwr.restart = none ∧ t.mem = s.mem ∧ t.qs = s.qs) ∧
     (s.fab.gsr = false ∨ s.noRefill = false ∨ s.fab.relAt = none ∨ (∃ a, s.fab.relAt = some a ∧ s.tl.fc < a) →
       exec .setResetRelease s = .next s)) ∧
   ∀ (s : State) (ly : Fin 4) (j : Fin 8) (c : Nat), s.ld = none → (s.region ly j).rsr = some c →
     (c + 16 ≤ s.tl.fc → ∃ t, exec (.regionalSetResetRelease ly j) s = .next t ∧
       t.region ly j = { s.region ly j with rsr := none } ∧ { t with fab := s.fab } = s ∧
       ∀ ly' j', (ly', j') ≠ (ly, j) → t.region ly' j' = s.region ly' j') ∧
     (s.tl.fc < c + 16 → exec (.regionalSetResetRelease ly j) s = .next s))

/-! ## Air time -/

/-- The fc boundary (R12, R50, R174, R217, R223, R231, R251): once all of the present fc is done the running number, AT and
HFN or the pre-release count advance by one fc, AT returning to 0 at the end of the SFN cycle; Rinom's time advances by an
fc, on a fallback by none; a signal due becomes visible; a copy of AT whose third counter stands alone is rewritten.
Release and rebase (R220 to R224): RELEASE and an accepted REBASE act in the fc after their write; a release takes AT and HFN
from Rinom's time less the offset, and leaves to Rinom what AT is then away from that time; REBASE begins another epoch where
it is accepted, is otherwise reported as refused, and a RELEASE written with a refused one still counts.
Readings and choices of this model it rests on: log 9, 21, 38. -/
def Obligations.AirTimeAdvancesAndBegins : Prop :=
  ((∀ s : State, s.tl.running = true → s.fcDone = true → ∃ t, exec .fcBoundary s = .next t ∧ t.tl.fc = s.tl.fc + 1 ∧
     (s.tl.ask = none →
       (s.tl.released = true → s.tl.at34 + 1 < L → t.tl.at34 = s.tl.at34 + 1 ∧ t.tl.hfn = s.tl.hfn) ∧
       (s.tl.released = true → ¬ s.tl.at34 + 1 < L → t.tl.at34 = 0 ∧ t.tl.hfn = (s.tl.hfn + 1) % 2 ^ 16) ∧
       (s.tl.released = false → t.tl.released = false ∧ t.tl.at34 = s.tl.at34 ∧
         t.tl.pre = if s.tl.pre + 1 < L then s.tl.pre + 1 else 0) ∧
       ∀ c : Fin 5, t.tl.copies.get c = settled (s.tl.copies.get c)) ∧
     (s.tl.ask = some true ∨ s.tl.ask = some false ∧ s.tl.released = false →
       t.tl.released = true ∧ t.tl.relFc = s.tl.fc + 1 ∧ t.tl.epochs = satAdd 8 s.tl.epochs 1 ∧ t.tl.ask = none ∧
       ∀ c : Fin 5, t.tl.copies.get c = Vector.replicate 3 0) ∧
     t.rin.tai = (if s.b F.TL_STATUS_DEGRADED = true then s.rin.tai else s.rin.tai + 3125) ∧
     ∀ g : Fin 16, t.flags.get g = (s.flags.get g).tick (s.tl.fc + 1)) ∧
   (∀ s : State, s.tl.running = false ∨ s.fcDone = false → exec .fcBoundary s = .next s) ∧
   (∀ s : State, s.tl.running = true → s.fcDone = true → s.tl.ask = none → s.tl.released = true → s.tl.at34 + 1 = L →
     ∃ t, exec .sfnCycleWrap s = .next t ∧ t.tl.at34 = 0 ∧ t.tl.hfn = (s.tl.hfn + 1) % 2 ^ 16 ∧ t.tl.fc = s.tl.fc + 1) ∧
   ∀ s : State, s.tl.at34 + 1 ≠ L → exec .sfnCycleWrap s = .next s) ∧
  ((∀ s : State, s.tl.ask = some true → s.tl.released = true → Raised Ev.AT_EPOCH_END s s.askedEpoch ∧
     Raised Ev.AT_RELEASED s s.askedEpoch) ∧
   (∀ s : State, s.tl.running = true → s.tl.released = false → s.f F.TL_CTL_RELMODE % 2 = 1 →
     let n : Int := (2 * s.gps + 3125) / 6250
     let e : Int := n - (s.tlOffset : Int)
     ∃ t, exec .reltoTimeout s = .next t ∧ t.tl.released = true ∧ t.tl.relFc = s.tl.fc ∧
       t.tl.at34 = (e % (L : Int)).toNat ∧ t.tl.hfn = (e / (L : Int) % 65536).toNat ∧
       t.tl.epochs = satAdd 8 s.tl.epochs 1 ∧ t.rin.owed = (3125 * n - s.gps) / 12 ∧ t.rin.tai = s.rin.tai ∧
       Raised Ev.AT_RELEASED s t ∧ t.seqs = s.seqs ∧ { t.fab with lanes := s.fab.lanes } = s.fab) ∧
   (∀ s : State, s.tl.released = true → exec .reltoTimeout s = .next s) ∧
   ∀ (s : State) (who : Who) (v : Word), s.stopAccess who Rg.TL_CTL = none →
     (v.getLsbD 1 = false → v.getLsbD 0 = true → s.tl.running = true → s.tl.released = false → s.tl.ask = none →
       ∃ t, exec (.release who v) s = .next t ∧ t.tl = { s.tl with ask := some false } ∧ t.reply = .done ∧
         OnlyRegs { s with tl := t.tl } t) ∧
     (v.getLsbD 1 = false → s.tl.released = true → ∃ t, exec (.release who v) s = .next t ∧ t.tl = s.tl ∧ OnlyRegs s t) ∧
     (v.getLsbD 1 = true → s.tl.running = true → s.rebaseOk = true →
       ∃ t, exec (.rebase who v) s = .next t ∧ t.tl = { s.tl with ask := some true } ∧ t.reply = .done ∧
         OnlyRegs { s with tl := t.tl } t) ∧
     (v.getLsbD 1 = true → s.rebaseOk = false →
       ∃ t, exec (.rebase who v) s = .next t ∧ t.b F.TL_STATUS_REBASEREJ = true ∧ OnlyRegs { s with tl := t.tl } t ∧
         (v.getLsbD 0 = false ∨ s.tl.released = true → t.tl = s.tl) ∧
         (v.getLsbD 0 = true → s.tl.running = true → s.tl.released = false → s.tl.ask = none →
           t.tl = { s.tl with ask := some false })))

/-- Frames, SYSREF, PPS_OUT, copies of AT and TL_AT_LO (R12, R15, R225, R231, R232, R236 to R239, R245): settings committed with
TL_SYSCTL take effect at the first frame boundary 8 fc on, each commit in its turn; Rinom changes the fc's length there by at most
1 ppb, and without supply by nothing; a pulse rises and is counted; a bad commit is reported; the three counters of a copy are
compared, and one that stands alone is rewritten, three that differ fail; the read of the low word samples both.
Readings and choices of this model it rests on: log 15, 27, 28, 29. -/
def Obligations.FramesPulsesAndCopiesOfAt : Prop :=
  (∀ (s : State) (ref : Int), s.frameNow = true → ∃ t, exec (.frameBoundary ref) s = .next t ∧ t.tl.frameAt = s.tl.fc + 1 ∧
    t.frameNow = false ∧ (∀ i : Fin 4, t.tl.sysref.get i = (s.tl.sysref.get i).frame s.tl.fc) ∧ t.seqs = s.seqs ∧ t.fab = s.fab ∧
    (t.rin.fofs - s.rin.fofs).natAbs ≤ 1024000 ∧ (s.rinomOff = true → t.rin = s.rin)) ∧
  (∀ (g : Sysref) (fc : Nat),
    ((∀ p ∈ g.pend, fc < p.2 + 8) → g.frame fc = g) ∧
    (∀ l c w later, g.pend = l ++ (c, w) :: later → w + 8 ≤ fc → (∀ p ∈ later, fc < p.2 + 8) →
      (g.frame fc).cfg = c ∧ (g.frame fc).left = c.shots ∧ (g.frame fc).lowAt = g.lowAt ∧
      ∀ p ∈ later, p ∈ (g.frame fc).pend)) ∧
  (∀ (s : State) (who : Who) (i : Fin 4) (v : Word), s.stopAccess who (Rg.TL_SYSCTL i) = none →
    let period := s.f (F.TL_SYSPER_PERIOD i)
    let offset := s.f (F.TL_SYSOFS_OFFSET i)
    (badSysref period offset = true → ∃ t, exec (.tlSysctl who i v) s = .next t ∧ t.tl = s.tl ∧
      t.b (F.TL_SYSCTL_CFGERR i) = true ∧ Raised Ev.SYSREF_CFGERR s t) ∧
    (badSysref period offset = false → ∃ t, exec (.tlSysctl who i v) s = .next t ∧ t.reply = .done ∧
      (t.tl.sysref.get i).pend = (s.tl.sysref.get i).pend ++
        [(⟨v.getLsbD 31, v.getLsbD 30, nbits v.toNat 16 8, nbits v.toNat 0 16, period, offset⟩, s.tl.fc)] ∧
      (t.tl.sysref.get i).cfg = (s.tl.sysref.get i).cfg ∧ ∀ j, j ≠ i → t.tl.sysref.get j = s.tl.sysref.get j)) ∧
  (∀ (s : State) (i : Fin 4), (s.sysrefNow i = true → ∃ t, exec (.sysrefPulse i) s = .next t ∧ t.out = .sysref i :: s.out ∧
      t.sysrefNow i = false ∧ { t with tl := s.tl, out := s.out } = s ∧
      (t.tl.sysref.get i).lowAt = max (s.tl.sysref.get i).lowAt (s.tl.fc + (s.tl.sysref.get i).cfg.high) ∧
      (t.tl.sysref.get i).left = if (s.tl.sysref.get i).cfg.nshot then (s.tl.sysref.get i).left - 1 else (s.tl.sysref.get i).left) ∧
    (s.sysrefNow i = false → exec (.sysrefPulse i) s = .next s) ∧
    (s.pwr.dark ≠ 0 ∨ s.fab.torn = true → s.sysrefNow i = false ∧ s.sysActive i = false)) ∧
  (∀ s : State, s.ppsNow = true →
    (¬ (s.b F.TL_PPSCFG_QUAL = true ∧ s.f F.TL_STATUS_TKSTATE = 3) → s.f F.RPL_STAT_MODE < 2 → s.rin.cfg.tod = false →
      ∃ t, exec .ppsPulse s = .next t ∧ t.out = .pps :: s.out ∧
        t.tl.ppsLow = max s.tl.ppsLow (s.tl.fc + max 1 (s.f F.TL_PPSCFG_WIDTH)) ∧ { t with tl := s.tl, out := s.out } = s) ∧
    (s.b F.TL_PPSCFG_QUAL = true → s.f F.TL_STATUS_TKSTATE = 3 → ∃ t, exec .ppsPulse s = .next t ∧ t.out = s.out ∧
      Raised Ev.PPS_SUPPRESSED s t)) ∧
  (∀ (s : State) (c : Fin 5) (flips : BitVec 50 × BitVec 50 × BitVec 50), s.copyRuns c = true →
    let v := s.upsetCopy c flips
    ∃ t, exec (.atCopyCorr c flips) s = .next t ∧ t.tl.copies.get c = v ∧
      (v.get 0 = v.get 1 → v.get 1 = v.get 2 → { t with tl := s.tl } = s) ∧
      (¬ (v.get 0 = v.get 1 ∧ v.get 1 = v.get 2) → (v.get 0 = v.get 1 ∨ v.get 0 = v.get 2 ∨ v.get 1 = v.get 2) →
        t.f F.TL_COPY_CORR = satAdd 16 (s.f F.TL_COPY_CORR) 1 ∧ Raised Ev.AT_COPY_CORR s t ∧ t.seqs = s.seqs) ∧
      (v.get 0 ≠ v.get 1 → v.get 0 ≠ v.get 2 → v.get 1 ≠ v.get 2 →
        t.b ⟨Rg.TL_COPY, 16 + c.val, 1⟩ = true ∧ Raised Ev.AT_COPY_FAIL s t ∧
        (∀ k : Fin 4, k.val = c.val → (t.seq k).mode = .stopped) ∧ (c = 4 → t.b F.TL_DEPCFG_EN = false))) ∧
  ∀ (s : State) (who : Who) (v : Word),
    (s.stopAccess who Rg.TL_AT_LO = none → ∃ t, exec (.tlAtLo who) s = .next t ∧
      t.reply = .data (BitVec.ofNat 32 s.tl.at34) ∧ t.reg Rg.TL_AT_HI = BitVec.ofNat 32 (s.tl.hfn * 65536 + s.tl.at34 / 2 ^ 32) ∧
      RegsBut [Rg.TL_AT_HI] s t ∧ OnlyRegs s t) ∧
    (s.stopAccess who Rg.TL_DEPCFG = none → s.b F.TL_DEPCFG_EN = false → ∃ t, exec (.tlDepcfg who v) s = .next t ∧
      t.tl = { s.tl with depAt := s.tl.fc + 1 } ∧ t.b F.TL_DEPCFG_EN = v.getLsbD 31 ∧ t.reply = .done)

/-! ## Plain accesses -/

/-- Plain accesses of BAR0 (R14, R15, R17, R20, R455, R456, R531, R587): one that is no aligned 32-bit access, or names a virtual
function that is not enabled, aborts; a poisoned write is dropped and reported; a write sets the writable fields of its one
register and clears the W1C bits written 1, but for one that hardware sets in that cycle; a read answers the register, that of
a low word latches its high word, and a count that the read clears keeps what was added in its cycle; the recorder's window
reads its NVM and moves on; MSI-X table words read as written.
Readings and choices of this model it rests on: log 14, 15, 16, 17, 18, 127. -/
def Obligations.PlainAccessesReadAndWriteOneRegister : Prop :=
  (∀ (s : State) (a : Access), a.size ≠ 4 ∨ a.off % 4 ≠ 0 → exec (.plainWrite a) s = .next { s with reply := .abort }) ∧
  (∀ (s : State) (who : Who) (vf : Option (Fin 32)) (off : Nat) (v : Word) (same : List Meet), off % 4 = 0 →
    ∃ t, exec (.plainWrite ⟨who, vf, false, off, 4, some v, true, same⟩) s = .next t ∧ t.reply = .done ∧
      Raised Ev.PCIE_AER_UNCORR s t ∧ RegsBut noteRegs s t ∧ OnlyNotes { s with reply := t.reply } t) ∧
  (∀ (s : State) (who : Who) (n : Fin 32) (off : Nat) (wr : Option Word) (same : List Meet), off % 4 = 0 →
    s.b (F.DEV_VF_CFG_EN n.val) = false →
    exec (.plainWrite ⟨who, some n, false, off, 4, wr, false, same⟩) s = .next { s with reply := .abort }) ∧
  (∀ (s : State) (who : Who) (off : Nat) (wr : Option Word) (same : List Meet) (r : Reply), off % 4 = 0 →
    s.stopAccess who off = some r →
    ∃ t, exec (.plainWrite ⟨who, none, false, off, 4, wr, false, same⟩) s = .next t ∧ RegsBut noteRegs s t ∧
      t.reply = (if who = .host ∧ r ≠ .held then .abort else r)) ∧
  (∀ (s : State) (who : Who) (off : Nat) (v : Word), off % 4 = 0 → s.stopAccess who off = none → hasAct off = false →
    inMsix off = false →
    (∃ t, exec (.plainWrite ⟨who, none, false, off, 4, some v, false, []⟩) s = .next t ∧ t.reply = .done ∧
      OnlyRegs s t ∧ RegsBut [off] s t ∧
      (∀ r, regRow off = some r → ∀ i, i < 32 → (t.reg off).getLsbD i =
        if r.w1c.getLsbD i && v.getLsbD i then false
        else if (s.writable off r).getLsbD i then v.getLsbD i else (s.reg off).getLsbD i)) ∧
    ∀ (i n : Nat) (r : RegRow), regRow off = some r → r.w1c.getLsbD i = true → (s.reg off).getLsbD i = true →
      ∃ t, exec (.plainWrite ⟨who, none, false, off, 4, some v, false, [⟨i, 1, n⟩]⟩) s = .next t ∧ t.reply = .done ∧
        (t.reg off).getLsbD i = true) ∧
  (∀ (s : State) (who : Who) (off h : Nat), off % 4 = 0 → s.stopAccess who off = none → inMsix off = false →
    off ≠ Rg.TL_AT_LO → off ≠ Rg.REC_RDDATA →
    (mfind s.shadowHi off = none → ∃ t, exec (.plainWrite ⟨who, none, false, off, 4, none, false, []⟩) s = .next t ∧
      t.reply = .data (s.view off) ∧ RegsBut [off] s t ∧ t.seqs = s.seqs ∧ t.fab = s.fab ∧ t.mem = s.mem ∧ t.qs = s.qs ∧
      (∀ r, regRow off = some r → off ≠ Rg.EVT_SCNT → t.reg off = s.reg off &&& ~~~r.rc) ∧
      (hiOf off = some h → mfind t.shadowHi h = some (s.view h))) ∧
    (∀ e : Meet, mfind s.shadowHi off = none → off ≠ Rg.EVT_SCNT → 1 < e.w → e.lo + e.w ≤ 32 →
      meetIn e (rcMask off) = true →
      ∃ t, exec (.plainWrite ⟨who, none, false, off, 4, none, false, [e]⟩) s = .next t ∧
        t.f ⟨off, e.lo, e.w⟩ = min e.n (fldGet ⟨off, e.lo, e.w⟩ (s.view off)) ∧
        ∃ w, t.reply = .data w ∧
          fldGet ⟨off, e.lo, e.w⟩ w = fldGet ⟨off, e.lo, e.w⟩ (s.view off) - min e.n (fldGet ⟨off, e.lo, e.w⟩ (s.view off))) ∧
    (∀ w, mfind s.shadowHi off = some w → ∃ t, exec (.plainWrite ⟨who, none, false, off, 4, none, false, []⟩) s = .next t ∧
      t.reply = .data w ∧ mfind t.shadowHi off = none)) ∧
  (∀ (s : State) (who : Who), s.stopAccess who Rg.REC_RDDATA = none →
    let a := 4 * s.f F.REC_RDPTR_OFS
    ∃ t, exec (.recRddata who) s = .next t ∧
      t.reply = .data (BitVec.ofNat 32 (leNat ((List.range 4).map (fun i => mget 0 s.rcd.nvm (a + i))))) ∧
      t.f F.REC_RDPTR_OFS = (if a = 0xFFFFC then 0x10000 else if a = 0xFFFC then 0 else a + 4) / 4 ∧
      RegsBut [Rg.REC_RDPTR] s t ∧ OnlyRegs s t) ∧
  ∀ (s : State) (who : Who) (vec : Fin 1024) (i : Fin 4) (v : Word), s.stopAccess who (0x48000 + 16 * vec.val + 4 * i.val) = none →
    ∃ t, exec (.plainWrite ⟨who, none, false, 0x48000 + 16 * vec.val + 4 * i.val, 4, some v, false, []⟩) s = .next t ∧
      t.reply = .done ∧ t.regs = s.regs ∧ t.msixWord (4 * vec.val + i.val) = if i = 3 then v &&& 1#32 else v

/-! ## Rinom -/

/-- Rinom's tick (R245, R247 to R251, R257, R266): what the mailbox asked for acts, once; a forced FREERUN is entered;
ACQUIRING becomes LOCKED when its condition has held for LOCKQUAL, of a PTP that is heard within its intervals, in its
domain, with a clockClass accepted; the result registers follow; TEE is the measured error less the input's static delay;
wall time moves on by a tick only where no fc boundary moves it; without supply there is no tick. The fabric, the sequencers
and memory are not touched, except where entering LOCKED releases AT, with which lane and port windows begin anew.
Readings and choices of this model it rests on: log 25, 26, 111, 113. -/
def Obligations.RinomTicks : Prop :=
  (∀ (s : State) (m : Meas), s.rinomOff = true → exec (.rinomTick m) s = .next s) ∧
  ∀ (s : State) (m : Meas), s.rinomOff = false → ∃ t, exec (.rinomTick m) s = .next t ∧
    t.reg Rg.TL_TEE = BitVec.ofInt 32 t.rin.tee ∧ t.reg Rg.TK_WALL_LO = BitVec.ofInt 32 (t.rin.tai / tsec) ∧
    t.rin.next = none ∧ t.rin.forceCmd = none ∧ t.rin.timeCmd = none ∧ t.rin.resetCmd = false ∧
    t.rin.cfg = s.rin.next.getD s.rin.cfg ∧
    (s.rin.resetCmd = true → t.rin.model = TempModel.empty) ∧ (s.rin.resetCmd = false → t.rin.model = s.rin.model) ∧
    t.rin.force = s.rin.forceCmd.getD s.rin.force ∧ (s.rin.forceCmd = some 2 → t.tkState = 3) ∧
    (m.label = none → s.rin.timeCmd = none →
      t.rin.tai = s.rin.tai + (if s.tl.running = true ∧ s.b F.TL_STATUS_DEGRADED = false then 0 else 192000000000)) ∧
    (∀ a : Announce, s.tkState = 0 → s.f F.TK_STATE_REFSEL = 1 → (s.rin.ref 0).qual = true → s.rin.next = none →
      s.rin.forceCmd = none → s.rin.cfg.prio.get 0 ≠ 0 → s.rin.cfg.prio.get 2 = 0 → s.sdsOn = true →
      m.ptp.announce = some a → a.domain = s.rin.cfg.domain → s.rin.cfg.classOk a.cls = true → m.ptp.sync = true →
      0 ≤ m.ptp.delay → m.ptp.delay ≤ 100000 →
      (m.tee - s.rin.cfg.asym.get 0).natAbs ≤ s.rin.cfg.lockLim * 256 → m.ferr ≤ 5120 →
      t.rin.tee = m.tee - s.rin.cfg.asym.get 0 ∧
      t.tkState = if s.rin.cfg.lockQual * 16 ≤ s.rin.okTicks + 1 then 1 else 0) ∧
    t.seqs = s.seqs ∧ { t.fab with lanes := s.fab.lanes } = s.fab ∧ { t.mem with ports := s.mem.ports } = s.mem ∧
    (s.tl.released = true → t.fab = s.fab ∧ t.mem = s.mem) ∧ t.qs = s.qs ∧ t.tl.fc = s.tl.fc

/-- Rinom's model (R254 to R257): a sample in LOCKED without a slew, corrected to the aging baseline, moves its bin's mean
and variance, unless it lies more than four residuals off the mean of a bin of two samples or more, where it only joins the
last hour's; a refit fits the bins populated then, their means carried to the new baseline, is counted and saved; the hourly
log write saves the model. The aging slope and the cubic of a refit are free values (log 22).
Rinom's wall time and start (R245, R247, R261, R263): a leap second due moves the UTC offset that names it and leaves TAI
alone; a reset and the watchdog start it in FREERUN with the configuration and the model of its log; an edge of PPS_IN opens
a label, which a ZDA sentence gives; a run of labelled edges breaks off at an edge out of time, a sentence outside its
window, or a label that disagrees with the seconds counted.
Readings and choices of this model it rests on: log 22, 24, 25, 112. -/
def Obligations.RinomLearnsStepsAndRestarts : Prop :=
  ((∀ (s : State) (sample temp : Int),
     let i := binOf temp
     let b := mget bin0 s.rin.model.bins i
     let x := sample - s.rin.model.aged s.optime
     let w : Int := (min (b.count + 1) 64 : Nat)
     let mean := b.mean + (x - b.mean) / w
     (s.rinomOff = false → s.tkState = 1 → s.b F.TK_STATE_SLEW = false →
       ∃ t, exec (.modelSample sample temp) s = .next t ∧ { t with rin := s.rin } = s ∧
         t.rin.model.last = (sample :: s.rin.model.last).take 225 ∧
         ((2 ≤ b.count → (x - b.mean).natAbs ≤ 4 * b.resid) →
           (mget bin0 t.rin.model.bins i).count = satAdd 32 b.count 1 ∧ (mget bin0 t.rin.model.bins i).upd = s.optime ∧
           (mget bin0 t.rin.model.bins i).mean = mean ∧
           (mget bin0 t.rin.model.bins i).var = ((b.var : Int) + ((x - b.mean) * (x - mean) - b.var) / w).toNat ∧
           t.rin.model.learn = s.rin.model.learn + 16 ∧
           ∀ j, j ≠ i → mget bin0 t.rin.model.bins j = mget bin0 s.rin.model.bins j) ∧
         (2 ≤ b.count → 4 * b.resid < (x - b.mean).natAbs →
           t.rin.model.bins = s.rin.model.bins ∧ t.rin.model.learn = s.rin.model.learn)) ∧
     (s.rinomOff = true ∨ s.tkState ≠ 1 ∨ s.b F.TK_STATE_SLEW = true → exec (.modelSample sample temp) s = .next s)) ∧
   (∀ s : State, (s.rinomOff = false → s.rin.refit = true → ∃ t, exec .tkModelRefit s = .next t ∧ t.rin.refit = false ∧
       t.rin.calCnt = satAdd 16 s.rin.calCnt 1 ∧ t.rin.calTime = s.optime ∧ t.rin.model.base = s.optime ∧
       t.rin.model.bins = s.rin.model.bins.map (fun e => (e.1, { e.2 with mean := e.2.mean + s.rin.model.aged s.optime })) ∧
       t.rin.model.fit = t.rin.model.bins.filter (fun e => decide (16 ≤ e.2.count)) ∧
       (∃ x, t.rin.snap = some x ∧ x.model = t.rin.model) ∧ Raised Ev.TK_MODEL_REFIT s t ∧ RegsBut noteRegs s t) ∧
     (s.rinomOff = true ∨ s.rin.refit = false → exec .tkModelRefit s = .next s)) ∧
   ∀ s : State, (s.rinomOff = false → s.tkState = 1 → ∃ t x, exec .modelLogWrite s = .next t ∧ t.rin.snap = some x ∧
       x.model = s.rin.model ∧ (∀ y, s.rin.snap = some y → x.cfg = y.cfg ∧ y.gen < x.gen) ∧
       t = { s with rin := { s.rin with snaps := t.rin.snaps } }) ∧
     (s.rinomOff = true ∨ s.tkState ≠ 1 → exec .modelLogWrite s = .next s)) ∧
  ((∀ s : State, (s.rinomOff = false → s.leapDue = true → ∃ t, exec .leapSecond s = .next t ∧ t.rin.tai = s.rin.tai ∧
       t.rin.nstep = s.rin.nstep + 1 ∧ Raised Ev.TK_TIME_STEP s t ∧ t.tl = s.tl ∧ t.seqs = s.seqs ∧ t.fab = s.fab ∧
       (s.rin.ptpLeap.1 = 0 → t.rin.cfg.leap = 0 ∧
         t.rin.cfg.utc = if s.rin.cfg.leap = 1 then s.rin.cfg.utc + 1 else s.rin.cfg.utc - 1) ∧
       (s.rin.ptpLeap.1 ≠ 0 → t.rin.ptpLeap = (0, 0) ∧
         t.rin.ptpUtc = s.rin.ptpUtc.map (· + if s.rin.ptpLeap.1 = 1 then 1 else -1))) ∧
     (s.rinomOff = true ∨ s.leapDue = false → exec .leapSecond s = .next s)) ∧
   (∀ (s : State) (i : Instr), i = .rinomReset ∨ i = .rinomWatchdog →
     (s.rinomOff = true → exec i s = .next s) ∧
     (s.rinomOff = false → ∃ t, exec i s = .next t ∧ t.tkState = 3 ∧ t.f F.TL_STATUS_TKSTATE = 3 ∧
       t.b F.TL_STATUS_SLEWING = false ∧ t.b F.TK_STATE_RESTART = true ∧ t.rin.fofs = s.rin.fofs ∧ t.rin.log = s.rin.log ∧
       (∀ x, s.rin.snap = some x → t.rin.model = x.model ∧ t.rin.cfg = x.cfg) ∧
       (s.rin.snap = none → t.rin.model = TempModel.empty ∧ t.rin.cfg = RinCfg.shipped) ∧
       t.rin.wallOk = false ∧ t.b F.TK_MBSTAT_BUSY = false ∧ Raised Ev.TK_RESTART s t ∧ t.tl = s.tl ∧ t.seqs = s.seqs ∧
       t.fab = s.fab)) ∧
   (∀ (s : State) (gap : Nat), s.rinomOff = false →
     let n := (2 * gap + 15728640000) / 31457280000
     ∃ t, exec (.ppsIn gap) s = .next t ∧ t.rin.ppsOpen = true ∧ t.rin.ppsAge = some 0 ∧ t.rin.ppsSecs = s.rin.ppsSecs + n ∧
     (s.rin.ppsOpen = true ∨ gap < 15728640000 - 15728 ∨ 15728640000 + 15728 < gap → t.rin.ppsCount = 0) ∧
     (s.rin.ppsOpen = false → 15728640000 - 15728 ≤ gap → gap ≤ 15728640000 + 15728 → t.rin.ppsCount = s.rin.ppsCount) ∧
     (n < 3 → { t with rin := s.rin } = s ∧ t.rin.refs = s.rin.refs) ∧ (3 ≤ n → (t.rin.ref 2).qual = false)) ∧
   ∀ (s : State) (utc endMs : Nat), s.rinomOff = false →
     (s.rin.ppsAge ≠ none → 10 ≤ endMs → endMs ≤ 900 → (∀ l, s.rin.ppsLabel = some l → utc = l + s.rin.ppsSecs) →
       ∃ t, exec (.zda utc endMs) s = .next t ∧ { t with rin := s.rin } = s ∧ t.rin.refs = s.rin.refs ∧
         t.rin.ppsCount = (if s.rin.ppsOpen = true then s.rin.ppsCount + 1 else s.rin.ppsCount) ∧
         t.rin.ppsLabel = some utc ∧ t.rin.ppsSecs = 0 ∧ t.rin.ppsOpen = false) ∧
     (s.rin.ppsAge = none ∨ endMs < 10 ∨ 900 < endMs ∨ (∃ l, s.rin.ppsLabel = some l ∧ utc ≠ l + s.rin.ppsSecs) →
       ∃ t, exec (.zda utc endMs) s = .next t ∧ t.rin.ppsCount = 0 ∧ (t.rin.ref 2).qual = false ∧
         ((s.rin.ref 2).qual = true → (t.rin.ref 2).dis = 4 ∧ Raised Ev.TK_REF_DISQUAL s t)))

/-- A mailbox command starts (R265, R266, R588): GO sets BUSY with the command's code and length, unless a command runs, which OVR
reports, or Rinom is in reset, which ignores the write. The function mailbox names the fourteen commands this is said of: info,
attest, getKey, setRef, setLock, setAsym, setLeap, force, setTime, setModel, modelRead, modelReset, logRead and setTod; a plain
write of TK_MBCMD with GO starts what it names in the same way, a code without a command too.
A mailbox command ends (R265 to R268, Tables 9-4 and 9-5): an undefined code, a wrong length and a field out of range are answered
with their status and change nothing; INFO answers the part's identity; what configures Rinom is saved and waits for the next
tick; LOG_READ gives at most 2,048 bytes; BUSY clears, DONE is set, and the event follows.
Readings and choices of this model it rests on: log 23, 24, 92. -/
def Obligations.MailboxCommandsRun : Prop :=
  (∀ (s : State) (i : Instr) (who : Who) (cmd : Nat) (len : BitVec 12) (sig : Bool), mailbox i = some (who, cmd, len, sig) →
     s.stopAccess who Rg.TK_MBCMD = none →
     (s.rinomOff = false → s.b F.TK_MBSTAT_BUSY = false → ∃ t, exec i s = .next t ∧ t.reply = .done ∧
       t.b F.TK_MBSTAT_BUSY = true ∧ t.f F.TK_MBCMD_CMD = cmd ∧ t.f F.TK_MBCMD_LEN = len.toNat ∧
       t.rin = { s.rin with mbSig := sig } ∧ RegsBut [Rg.TK_MBCMD, Rg.TK_MBSTAT] s t ∧ OnlyRegs { s with rin := t.rin } t) ∧
     (s.rinomOff = false → s.b F.TK_MBSTAT_BUSY = true → ∃ t, exec i s = .next t ∧ t.reply = .done ∧
       t.b F.TK_MBSTAT_OVR = true ∧ t.f F.TK_MBCMD_CMD = s.f F.TK_MBCMD_CMD ∧ t.rin = s.rin ∧
       RegsBut [Rg.TK_MBSTAT] s t ∧ OnlyRegs s t) ∧
     (s.rinomOff = true → exec i s = .next { s with reply := .done })) ∧
  (∀ (s : State) (who : Who) (w : Word), s.stopAccess who Rg.TK_MBCMD = none → s.rinomOff = false →
     s.b F.TK_MBSTAT_BUSY = false → w.getLsbD 31 = true →
     ∃ t, exec (.plainWrite ⟨who, none, false, Rg.TK_MBCMD, 4, some w, false, []⟩) s = .next t ∧ t.reply = .done ∧
       t.b F.TK_MBSTAT_BUSY = true ∧ t.f F.TK_MBCMD_CMD = w.toNat % 2 ^ 8) ∧
  (∀ s : State,
     let cmd := s.f F.TK_MBCMD_CMD
     let len := s.f F.TK_MBCMD_LEN
     let q := s.mbBytes len
     (s.rinomOff = true ∨ s.b F.TK_MBSTAT_BUSY = false → exec .tkMbDone s = .next s) ∧
     (s.rinomOff = false → s.b F.TK_MBSTAT_BUSY = true → ∃ t, exec .tkMbDone s = .next t ∧ t.b F.TK_MBSTAT_BUSY = false ∧
       t.b F.TK_MBSTAT_DONE = true ∧ Raised Ev.TK_MB_DONE s t ∧ t.tl = s.tl ∧ t.seqs = s.seqs ∧ t.fab = s.fab ∧
       t.rin.cfg = s.rin.cfg ∧
       (mbLen cmd = none → t.f F.TK_MBSTAT_STATUS = 1 ∧ t.f F.TK_MBSTAT_RLEN = 0 ∧ t.rin = s.rin) ∧
       (∀ n, mbLen cmd = some n → n ≠ len → t.f F.TK_MBSTAT_STATUS = 2 ∧ t.f F.TK_MBSTAT_RLEN = 0 ∧ t.rin = s.rin) ∧
       (mbLen cmd = some len → mbRange cmd q = false →
         t.f F.TK_MBSTAT_STATUS = 3 ∧ t.f F.TK_MBSTAT_RLEN = 0 ∧ t.rin = s.rin) ∧
       (mbLen cmd = some len → mbRange cmd q = true →
         (cmd = 1 → t.f F.TK_MBSTAT_STATUS = 0 ∧ t.f F.TK_MBSTAT_RLEN = 20 ∧ t.reg (Rg.TK_MBDATA 0) = s.reg Rg.DEV_ID) ∧
         (cmd = 2 → t.f F.TK_MBSTAT_STATUS = 0 ∧ t.rin.rseq = s.rin.rseq + 1 ∧
           (s.rin.shot = [] → t.f F.TK_MBSTAT_RLEN = 0x380)) ∧
         (cmd = 3 → t.f F.TK_MBSTAT_STATUS = 0 ∧ t.f F.TK_MBSTAT_RLEN = 1024 ∧ t.rin = s.rin) ∧
         (cmd = 4 ∨ cmd = 5 ∨ cmd = 6 ∨ cmd = 7 ∨ cmd = 10 ∨ cmd = 14 → t.f F.TK_MBSTAT_STATUS = 0 ∧
           { t.rin with snaps := s.rin.snaps } = { s.rin with next := some (cfgOf s.rin.base cmd q) } ∧
           ∃ x, t.rin.snap = some x ∧ x.cfg = cfgOf s.rin.base cmd q) ∧
         (cmd = 8 → t.f F.TK_MBSTAT_STATUS = 0 ∧ t.rin = { s.rin with forceCmd := some (numAt q 0 1) }) ∧
         (cmd = 12 → t.f F.TK_MBSTAT_STATUS = 0 ∧ t.rin = { s.rin with resetCmd := true }) ∧
         (cmd = 13 → t.f F.TK_MBSTAT_STATUS = 0 ∧ t.f F.TK_MBSTAT_RLEN ≤ 2048 ∧ t.rin = s.rin) ∧
         (cmd = 9 → s.rin.mbSig = false → t.f F.TK_MBSTAT_STATUS = 4 ∧ t.rin = s.rin))))

/-! ## The memory layer -/

/-- The host's window onto the banks (R274, R275, R280, R282, R285, R356, R364): an access that finds port B of its bank free is
served at once, a beat a MEM cycle: a write stores exactly the enabled bytes, a read answers the bytes as they stand and changes
none; one that finds it taken is accepted and waits its turn; an access outside the window, or while the path to the memory
layer is down, aborts.
Readings and choices of this model it rests on: log 45, 48, 114. -/
def Obligations.HostWindowReadsAndWritesBytes : Prop :=
  (∀ (s : State) (vf : Option (Fin 32)) (off a : Nat) (data : List (Option Byte)),
    let bank := a / 2 ^ 23
    s.bar2At vf off data.length = some a → s.hostPathDown = false → s.hostWaits bank = [] → s.nextWrite bank = none →
    s.portBFree bank = true → s.portA bank = none → (∀ k, s.foundAt [] k ≠ .uncorr) →
    ((a + data.length + 63) / 64 - a / 64 ≤ 1 → ∃ t, exec (.bar2Write vf off data false []) s = .next t ∧ t.reply = .done ∧
      { t with mem := s.mem, reply := s.reply } = s ∧ t.hostWaits bank = [] ∧
      (∀ x, x < 2 ^ 30 → t.byteAt x = match (if a ≤ x then data[x - a]? else none) with
        | some (some b) => b
        | _ => s.byteAt x) ∧
      { t.mem with words := s.mem.words, marks := s.mem.marks, wbq := s.mem.wbq, cyc := s.mem.cyc, clears := s.mem.clears,
                   host := s.mem.host, hostSeq := s.mem.hostSeq, hostAt := s.mem.hostAt } = s.mem) ∧
    (1 < (a + data.length + 63) / 64 - a / 64 → ∃ t x, exec (.bar2Write vf off data false []) s = .next t ∧ t.reply = .done ∧
      t.hostWaits bank = [x] ∧ x.done = 1 ∧ x.data = data ∧
      ∀ y, y < 2 ^ 30 → ¬ (64 * (a / 64) ≤ y ∧ y < 64 * (a / 64) + 64) → t.byteAt y = s.byteAt y)) ∧
  (∀ (s : State) (vf : Option (Fin 32)) (off len a : Nat),
    let bank := a / 2 ^ 23
    s.bar2At vf off len = some a → s.hostPathDown = false → s.hostWaits bank = [] → s.nextWrite bank = none →
    s.portBFree bank = true → s.portA bank = none → (∀ k, s.foundAt [] k = .clean) → (a + len + 63) / 64 - a / 64 ≤ 1 →
    ∃ t, exec (.bar2Read vf off len []) s = .next t ∧ { t with mem := s.mem, out := s.out, reply := s.reply } = s ∧
      t.reply = .done ∧ t.out = .cpl ((List.range len).map (fun i => s.byteAt (a + i))) false :: s.out ∧ t.hostWaits bank = [] ∧
      { t.mem with cyc := s.mem.cyc, host := s.mem.host, hostSeq := s.mem.hostSeq, hostAt := s.mem.hostAt } = s.mem) ∧
  (∀ (s : State) (vf : Option (Fin 32)) (off len : Nat) (data : List (Option Byte)) (poisoned : Bool) (errs : List (Nat × Flaw)),
    (s.bar2At vf off len = none → exec (.bar2Read vf off len errs) s = .next { s with reply := .abort }) ∧
    (s.bar2At vf off data.length = none → exec (.bar2Write vf off data poisoned errs) s = .next { s with reply := .abort }) ∧
    (s.hostPathDown = true → exec (.bar2Read vf off len errs) s = .next { s with reply := .abort } ∧
      ∃ t, exec (.bar2Write vf off data poisoned errs) s = .next t ∧ t.reply = .abort ∧ t.mem = s.mem) ∧
    (∀ a, s.bar2At vf off len = some a → s.hostPathDown = false →
      (s.nextWrite (a / 2 ^ 23)).isSome = true ∨ s.portBFree (a / 2 ^ 23) = false →
      ∃ t, exec (.bar2Read vf off len errs) s = .next t ∧ t.reply = .done ∧ t.out = s.out ∧ t.mem.words = s.mem.words ∧
        t.hostWaits (a / 2 ^ 23) = s.hostWaits (a / 2 ^ 23) ++ [{ s.newHost false a len [] false with seq := s.mem.hostSeq }]) ∧
    (∀ a, s.bar2At vf off data.length = some a → s.hostPathDown = false →
      (s.nextWrite (a / 2 ^ 23)).isSome = true ∨ s.portBFree (a / 2 ^ 23) = false →
      ∃ t, exec (.bar2Write vf off data poisoned errs) s = .next t ∧ t.reply = .done ∧ t.mem.words = s.mem.words ∧
        t.hostWaits (a / 2 ^ 23) =
          s.hostWaits (a / 2 ^ 23) ++ [{ s.newHost true a data.length data poisoned with seq := s.mem.hostSeq }]))

/-- A vertical port (R276 to R279, R281, R283, R312): a well-formed request within the port's limits joins its requests, due for the
memory layer; one to a bank that changes its owner is held at the port; one the address's owner does not let through is answered
DENIED at the latency, and reported; a request out of form or beyond the limits is not taken; the oldest response is presented
from its fc on, within the five beats of its window, and leaves the port, a popped entry being released with it.
Readings and choices of this model it rests on: log 47. -/
def Obligations.PortsAcceptAndAnswerInOrder : Prop :=
  (∀ (s : State) (layer : Fin 4) (port : Fin 32) (x : MemReq),
    let key := portKey layer port
    let up := if x.write then x.beats else 0
    let dn := if x.write then 0 else x.beats
    let r := s.newReq layer x (inDram x.addr)
    (reqFormed x = true → s.portTakes layer port up dn = true → s.stopDie layer.val = none →
      s.failedGroup layer.val port.val = none →
      ((s.ownerHolds x.addr = true ∨ s.denied x.addr layer.val = none) → ∃ t, exec (.portRequest layer port x) s = .next t ∧
        (t.port key).reqs = (s.port key).reqs ++ [{ r with own := s.ownerHolds x.addr }] ∧ r.due = none ∧
        (t.portNow key).toMem = (s.portNow key).toMem + up ∧
        (t.portNow key).fromMem = (s.portNow key).fromMem + dn ∧ { t with mem := { t.mem with ports := s.mem.ports } } = s ∧
        ∀ k, k ≠ key → t.port k = s.port k) ∧
      (∀ why, s.ownerHolds x.addr = false → s.denied x.addr layer.val = some why → ∃ t,
        exec (.portRequest layer port x) s = .next t ∧
        Raised Ev.MEM_DENIED s t ∧ ∃ r', (t.port key).reqs = (s.port key).reqs ++ [r'] ∧ r'.status = .denied ∧
          r'.due = some (s.tl.fc + s.lat (if (bankOf x.addr).isSome then bankLat layer.val else hitLat layer.val)) ∧
          t.mem.words = s.mem.words ∧ t.mem.dram = s.mem.dram)) ∧
    (reqFormed x = false ∨ s.portTakes layer port up dn = false → exec (.portRequest layer port x) s = .next s)) ∧
  ∀ (s : State) (layer : Fin 4) (port : Fin 32) (r : Req) (rest : List Req), (s.port (portKey layer port)).reqs = r :: rest →
    let room := (s.portNow (portKey layer port)).resp + r.respBeats ≤ s.windowBeats
    (∀ d, r.due = some d → d ≤ s.tl.fc → room → ∃ t, exec (.portResponse layer port) s = .next t ∧
      (t.port (portKey layer port)).reqs = rest ∧
      t.out = (if s.dieUp (layerDie layer.val) = true then .port layer port r :: s.out else s.out) ∧
      (r.q = none → { t with out := s.out, mem := { t.mem with ports := s.mem.ports } } = s) ∧
      (∀ x, r.q = some x → x.op = .pop → r.status = .ok → r.qres = 0 → 0 < (s.queue x.queue).lent →
        (t.queue x.queue).lent = (s.queue x.queue).lent - 1 ∧
        (s.dieUp (layerDie layer.val) = true → (t.queue x.queue).pop = ((s.queue x.queue).pop + 1) % 65536 ∧
          (t.queue x.queue).count = (s.queue x.queue).count - 1) ∧
        (s.dieUp (layerDie layer.val) = false → (t.queue x.queue).pop = (s.queue x.queue).pop ∧
          (t.queue x.queue).count = (s.queue x.queue).count))) ∧
    ((r.due = none ∨ (∃ d, r.due = some d ∧ s.tl.fc < d) ∨ ¬ room) → exec (.portResponse layer port) s = .next s)

/-- A MEM cycle (R275, R279, R282, R288, R607): in the cycles that begin in this fc the port granted performs its next beat. At a
bank a whole write stores its eight words and no other, a read of sound words takes them; the request is then answered OK at its
bank's latency. At a slice a beat whose line is held is performed in it, a hit; a miss is counted, and the request waits for the
fill. A cycle that does not begin in this fc, or has been performed, performs nothing.
Readings and choices of this model it rests on: log 10, 46, 48, 114, 117. -/
def Obligations.BanksPerformTheGrantedBeat : Prop :=
  ∀ (s : State) (u : Fin 48) (c : Fin 5) (key : Nat) (r : Req),
    let id := 5 * s.tl.fc + c.val
    let w := r.addr / 8
    (s.tl.running = true → cycPhase c.val = s.sched % 4 → s.slow = false → (s.cyc u.val).id ≤ id →
      s.memRuns = true → s.seqUses u.val = false → s.grant u.val id = some key → (s.port key).head = some r →
      r.beats = 1 → r.done = 0 → r.bad = 0 → r.err = false → (∀ k, ∀ x ∈ (s.port k).reqs, x.q = none) →
      s.mem.clears = [] → s.mem.writes = [] → s.mem.host = [] → s.dma = [] → s.b F.MEM_CMO_BUSY = false →
      (∀ k, s.foundAt [] k = .clean) →
      (u.val < 32 → ∃ t r', exec (.performCycle u c []) s = .next t ∧ (t.port key).reqs = setHead (s.port key).reqs r' ∧
        r'.status = .ok ∧ r'.late = (if s.borrowed w then 8 else r.late) ∧
        r'.due = some (r.acc + bankLat (portLayer key) + (id / 5 - r.base / 5) + r'.late) ∧
        (∀ k, k ≠ key → t.port k = s.port k) ∧ t.mem.dram = s.mem.dram ∧ t.mem.lines = s.mem.lines ∧
        (r.write = true → r.be % 2 ^ 64 = 2 ^ 64 - 1 → r.data.length = 8 →
          ∀ k, k < 2 ^ 27 → t.word k = if w ≤ k ∧ k < w + 8 then r.data.getD (k - w) 0 else s.word k) ∧
        (r.write = false → t.mem.words = s.mem.words ∧ r'.data = r.data ++ (List.range 8).map (fun i => s.word (w + i)))) ∧
      (∀ l, 32 ≤ u.val → s.hitLine (r.addr - dramBase) = some l →
        let v := lineWord l ((r.addr - dramBase) % 128 / 8)
        ∃ t r', exec (.performCycle u c []) s = .next t ∧ (t.port key).reqs = setHead (s.port key).reqs r' ∧
        r'.status = .ok ∧ r'.late = (if s.borrowed v then 8 else r.late) ∧
        r'.due = some (r.acc + hitLat (portLayer key) + (id / 5 - r.base / 5) + r'.late) ∧
        (r.filled = false → Counted (F.MEM_SLICE_STAT_HITS (u.val - 32)) s t) ∧ t.mem.dram = s.mem.dram ∧
        (r.write = true → t.lineDirty l = true ∧ (r.be % 2 ^ 64 = 2 ^ 64 - 1 → r.data.length = 8 →
          ∀ i, i < 8 → t.word (v + i) = r.data.getD i 0)) ∧
        (r.write = false → t.mem.words = s.mem.words ∧ r'.data = r.data ++ (List.range 8).map (fun i => s.word (v + i)))) ∧
      (32 ≤ u.val → s.hitLine (r.addr - dramBase) = none → s.baseDead = false →
        ∃ t, exec (.performCycle u c []) s = .next t ∧
        (t.port key).reqs = setHead (s.port key).reqs { r with fill := true, filled := false } ∧
        Counted (F.MEM_SLICE_STAT_MISSES (u.val - 32)) s t ∧ t.mem.words = s.mem.words ∧ t.mem.dram = s.mem.dram ∧
        t.mem.lines = s.mem.lines)) ∧
    (s.tl.running = false ∨ cycPhase c.val ≠ s.sched % 4 ∨ s.memRuns = false ∨ id < (s.cyc u.val).id ∨
      s.slow = true ∧ c.val = 0 → exec (.performCycle u c []) s = .next s)

/-- Banks change owner and are cleared (R283, R287): a write of OWNER that asks for another leaves OWNPEND set, and the
change is made when no accepted request of the bank is left; the requests that it held are then judged under the new owner.
CLEAR asks for the clear; the bank's next MEM cycle is its clear cycle, behind which no word of the bank is valid but those
written in it, and no other bank's is touched.
Rotation and rewrites (R282, R286, R312): at each AT multiple of 4,096 every rotation pointer starts again; a collided beat
that finds its words free is written, and with the last one the push is published, its places given back; one that collides
again waits on.
Readings and choices of this model it rests on: log 47, 51, 115. -/
def Obligations.BanksChangeOwnerAndWordsAreRewritten : Prop :=
  ((∀ (s : State) (who : Who) (n : Fin 32) (v : Word), s.stopAccess who (Rg.MEM_BANK_CFG n.val) = none → v.getLsbD 31 = false →
     ∃ t, exec (.owner who n v) s = .next t ∧ t.reply = .done ∧ t.f (F.MEM_BANK_CFG_OWNER n.val) = nbits v.toNat 0 3 ∧
       t.owner n.val = s.owner n.val ∧ OnlyRegs s t ∧ RegsBut [Rg.MEM_BANK_CFG n.val, Rg.MEM_BANK_STAT n.val] s t ∧
       (t.b (F.MEM_BANK_STAT_OWNPEND n.val) = true ↔
         s.b (F.MEM_BANK_STAT_OWNPEND n.val) = true ∨ ownerOf (nbits v.toNat 0 3) ≠ s.owner n.val)) ∧
   (∀ (s : State) (n : Fin 32),
     let o := ownerOf (s.f (F.MEM_BANK_CFG_OWNER n.val))
     (s.b (F.MEM_BANK_STAT_OWNPEND n.val) = true → s.bankBusy n.val = false → ∃ t, exec (.memOwnerDone n) s = .next t ∧
       t.owner n.val = o ∧ t.b (F.MEM_BANK_STAT_OWNPEND n.val) = false ∧ Raised Ev.MEM_OWNER_DONE s t ∧
       OnlyNotes { s with mem := t.mem, lastAt := t.lastAt } t ∧ { t.mem with ports := s.mem.ports } = s.mem ∧
       RegsBut (Rg.MEM_BANK_STAT n.val :: Rg.MEM_DENLAST :: noteRegs) s t ∧
       (∀ k, ∀ r ∈ (t.port k).reqs, r.own = true → bankOf r.addr ≠ some n.val) ∧
       ((∀ e ∈ s.mem.ports, ∀ r ∈ e.2.reqs, r.own = false) → OnlyNotes s t)) ∧
     (s.b (F.MEM_BANK_STAT_OWNPEND n.val) = false ∨ s.bankBusy n.val = true → exec (.memOwnerDone n) s = .next s)) ∧
   (∀ (s : State) (who : Who) (n : Fin 32) (v : Word), s.stopAccess who (Rg.MEM_BANK_CFG n.val) = none →
     ∃ t, exec (.bankClear who n v) s = .next t ∧ t.reply = .done ∧ OnlyRegs { s with mem := t.mem } t ∧
       { t.mem with clears := s.mem.clears } = s.mem ∧ mfind t.mem.clears n.val = some { asked := s.tl.fc, keep := none } ∧
       (∀ k, k ≠ n.val → mfind t.mem.clears k = mfind s.mem.clears k) ∧
       RegsBut [Rg.MEM_BANK_CFG n.val, Rg.MEM_BANK_STAT n.val] s t) ∧
   (∀ (s : State) (u : Fin 48) (c : Fin 5) (errs : List (Nat × Flaw)) (x : Clear), s.tl.running = true →
     cycPhase c.val = s.sched % 4 → s.slow = false → (s.cyc u.val).id ≤ 5 * s.tl.fc + c.val → s.memRuns = true →
     mfind s.mem.clears u.val = some x → x.keep = none →
     ∃ t l, exec (.performCycle u c errs) s = .next t ∧ mfind t.mem.clears u.val = some { x with keep := some l }) ∧
   (∀ (s : State) (n : Nat) (x : Clear) (l : List Nat), s.mem.clears = [(n, x)] → x.keep = some l → s.clearsFc = s.clearWords n l) ∧
   ∀ (s : State) (n : Fin 32) (l : List Nat) (k : Nat), k < 2 ^ 27 →
     (s.clearWords n.val l).word k = (if k / 2 ^ 20 = n.val ∧ s.home k ∉ l then 0 else s.word k) ∧
     (s.clearWords n.val l).valid k = (if k / 2 ^ 20 = n.val ∧ s.home k ∉ l then false else s.valid k)) ∧
  ((∀ s : State, (s.tl.running = true → s.sched % 4096 = 0 → exec .rotationReset s = .next { s with mem := { s.mem with rot := [] } }) ∧
     (s.tl.running = false ∨ s.sched % 4096 ≠ 0 → exec .rotationReset s = .next s)) ∧
   ∀ (s : State) (bank : Fin 32) (r : Rewrite), s.nextWrite bank.val = some r →
     let x := s.queue r.queue
     (r.again = true → r.queue / 1024 = bank.val → s.portBFree bank.val = true →
       (s.collides (r.keys x) = none → r.beats x ≤ r.done + 1 →
         ∃ t, exec (.collidedRewrite bank) s = .next t ∧ t.mem.writes = s.mem.writes.erase r ∧
         (t.queue r.queue).count = x.count + r.batch.length ∧ (t.queue r.queue).push = (x.push + r.batch.length) % 65536 ∧
         (t.queue r.queue).room = x.room - r.batch.length ∧ ∀ q, q ≠ r.queue → t.queue q = s.queue q) ∧
       (s.collides (r.keys x) = none → r.done + 1 < r.beats x →
         ∃ t, exec (.collidedRewrite bank) s = .next t ∧ t.qs = s.qs ∧
         t.mem.writes = s.mem.writes.replace r { r with again := false, done := r.done + 1 }) ∧
       (∀ k, s.collides (r.keys x) = some k → ∃ t, exec (.collidedRewrite bank) s = .next t ∧ t.qs = s.qs ∧
         t.mem.words = s.mem.words ∧ t.mem.writes = s.mem.writes.replace r { r with again := true } ∧
         Counted (F.MEM_BANK_STAT_COLLCNT (k / 2 ^ 20)) s t)) ∧
     (r.again = false → exec (.collidedRewrite bank) s = .next s))

/-- The shared cache (R288, R290 to R292, R356, R412, R420): a missed line is filled with the words of LPDDR6, and the request that
waits for it goes on; a fill that has to wait does nothing. An operation of MEM_CMO starts at the first set of slice 0, and one
that runs is not disturbed; it passes one set in a MEM cycle of its slice: FLUSH leaves no line of it dirty and the written words
in LPDDR6, FLUSHINV no line valid as well, but those whose channel's gate is closed; INVALIDATE leaves no line valid and LPDDR6
as it was; its end is reported.
Readings and choices of this model it rests on: log 4, 46, 50, 116, 130. -/
def Obligations.CacheFillsAndMaintenance : Prop :=
  (∀ (s : State) (line key : Nat) (r : Req),
    (s.mem.ports.map (fun e => e.1)).filter (fun k => s.waitsFill line k) = [key] → (s.port key).head = some r →
    s.hitLine (128 * line) = none →
    let l := s.victim (128 * line) (portLayer key)
    (s.fillWaits (128 * line) (portLayer key) = false → ∃ t, exec (.lineFill line []) s = .next t ∧
      t.hitLine (128 * line) = some l ∧ t.lineDirty l = false ∧
      (t.port key).reqs = setHead (s.port key).reqs { r with fill := false, filled := true } ∧
      (∀ k, k ≠ key → t.port k = s.port k) ∧
      (∀ w, w < 16 → t.word (lineWord l w) = mget 0 t.mem.dram (16 * line + w)) ∧
      (s.lineDirty l = false → t.mem.dram = s.mem.dram)) ∧
    (s.fillWaits (128 * line) (portLayer key) = true → exec (.lineFill line []) s = .next s)) ∧
  (∀ (s : State) (line : Nat), (∀ k, s.waitsFill line k = false) →
    (∀ e ∈ s.dma, e.2.fill = false ∨ (e.2.addr - dramBase) / 128 ≠ line) → exec (.lineFill line []) s = .next s) ∧
  (∀ (s : State) (who : Who) (i : Instr) (op : Nat), i = .flush who ∧ op = 0 ∨ i = .flushinv who ∧ op = 1 ∨ i = .invalidate who ∧ op = 2 →
    s.stopAccess who Rg.MEM_CMO = none →
    (s.b F.MEM_CMO_BUSY = true → ∃ t, exec i s = .next t ∧ t.reply = .done ∧ OnlyRegs s t) ∧
    (s.b F.MEM_CMO_BUSY = false → ∃ t, exec i s = .next t ∧ t.reply = .done ∧ t.b F.MEM_CMO_BUSY = true ∧
      t.f F.MEM_CMO_OP = op ∧ t.mem = { s.mem with cmoOp := op, cmoAt := 0 } ∧ OnlyRegs { s with mem := t.mem } t)) ∧
  (∀ (s : State) (u : Fin 48) (c : Fin 5),
    let id := 5 * s.tl.fc + c.val
    let a := s.openCyc u.val id
    s.tl.running = true → cycPhase c.val = s.sched % 4 → s.slow = false → (s.cyc u.val).id ≤ id → s.memRuns = true →
    s.b F.MEM_CMO_BUSY = true → s.mem.cmoAt / 4096 + 32 = u.val → s.grant u.val id = none → s.mem.clears = [] → s.dma = [] →
    (s.mem.cmoOp = 2 ∨ ∀ w, w < 16 → s.backWaits (16 * s.mem.cmoAt + w) = false) →
    exec (.performCycle u c []) s =
      .next ((a.cmoSet s.mem.cmoOp (16 * s.mem.cmoAt)).modMem (fun m => { m with cmoAt := m.cmoAt + 1 }))) ∧
  (∀ (s : State) (base l : Nat), base ≤ l → l < base + 16 →
    (s.baseDead = false → ∀ x, mfind (s.cmoSet 0 base).mem.lines l = some x → x.dirty = false ∨ s.stuckLine l = true) ∧
    (s.baseDead = false → s.stuckLine l = false → mfind (s.cmoSet 1 base).mem.lines l = none) ∧
    mfind (s.cmoSet 2 base).mem.lines l = none ∧ (s.cmoSet 2 base).mem.dram = s.mem.dram ∧
    (∀ op x, op < 2 → s.baseDead = false → s.mem.lines = [(l, x)] → x.dirty = true → s.stuckLine l = false →
      ∀ w, w < 16 → mget 0 (s.cmoSet op base).mem.dram (lineAddr l x.tag / 8 + w) = s.word (lineWord l w)) ∧
    ∀ op k, ¬ (base ≤ k ∧ k < base + 16) → mfind (s.cmoSet op base).mem.lines k = mfind s.mem.lines k) ∧
  ∀ s : State, (s.b F.MEM_CMO_BUSY = true → 65536 ≤ s.mem.cmoAt → ∃ t, exec .memCmoDone s = .next t ∧
      t.b F.MEM_CMO_BUSY = false ∧ t.b F.MEM_CMO_DONE = true ∧ Raised Ev.MEM_CMO_DONE s t ∧ OnlyNotes s t ∧
      RegsBut (Rg.MEM_CMO :: noteRegs) s t) ∧
    (s.b F.MEM_CMO_BUSY = false ∨ s.mem.cmoAt < 65536 → exec .memCmoDone s = .next s)

/-- Memory keeps its one form (lists of addresses that rise, of words that are valid, and with no entry for a word of LPDDR6 that
reads as one never written): whatever the memory layer's commands do to it, it stays canonical.
Readings and choices of this model it rests on: log 4. -/
def Obligations.MemoryStaysCanonical : Prop :=
  State.reset.mem.wf = true ∧
  ∀ (s t : State) (i : Instr), s.mem.wf = true → exec i s = .next t →
    ((∃ vf off data p errs, i = .bar2Write vf off data p errs) ∨ (∃ vf off len errs, i = .bar2Read vf off len errs) ∨
     (∃ u c errs, i = .performCycle u c errs) ∨ (∃ ly p x, i = .portRequest ly p x) ∨ (∃ ly p, i = .portResponse ly p) ∨
     (∃ line errs, i = .lineFill line errs) ∨ (∃ w, i = .flush w ∨ i = .flushinv w ∨ i = .invalidate w) ∨
     (∃ w n v, i = .owner w n v ∨ i = .bankClear w n v) ∨ (∃ b, i = .collidedRewrite b) ∨ (∃ n, i = .memOwnerDone n) ∨
     i = .memCmoDone ∨ i = .rotationReset) →
    t.mem.wf = true

/-! ## Queues -/

/-- Allocation (R299, R300, R313, Table 11-3): a request that passes every check takes the lowest free queue of its
controller, empty and with both counts 0; one that fails a check answers its code and changes no queue; a queue that FREE
names ends with the register-bus cycle, empty and unallocated, and its pushes on their way are gone.
Host doorbells (R297, R298, R302 to R304, R313, R364, R455): PUSH asks for entries to be published where the host is the
producer and the ring has room, and they keep their places; PUBLISH carries the oldest out once the host's earlier writes
have been performed; POP removes entries where the host is the consumer and they are there; otherwise the fault is reported
and no count moves; a closed window aborts and a fenced M ignores the doorbell.
Readings and choices of this model it rests on: log 51, 58, 114. -/
def Obligations.QueuesAreAllocatedAndRung : Prop :=
  ((∀ (s : State) (who : Who) (c : Fin 32), s.stopAccess who (Rg.QC_ACMD c.val) = none →
     let x : Queue := { queue0 with cfg := (s.reg (Rg.QC_ACFG c.val)).toNat, rbase := s.f (F.QC_ABASE_OFS c.val),
                                    mbase := s.f (F.QC_AMBASE_OFS c.val) }
     (∀ q, s.allocCode c.val x = 0 → s.freeQueue c.val = some q → ∃ t, exec (.alloc who c) s = .next t ∧ t.reply = .done ∧
       q / 1024 = c.val ∧ (s.queue q).en = false ∧ (∀ q', q' < q → q' / 1024 = c.val → (s.queue q').en = true) ∧
       (t.queue q).en = true ∧ (t.queue q).cfg = x.cfg ∧ (t.queue q).rbase = x.rbase ∧ (t.queue q).mbase = x.mbase ∧
       (t.queue q).push = 0 ∧ (t.queue q).pop = 0 ∧ (t.queue q).count = 0 ∧ t.b (F.QC_ARES_VALID c.val) = true ∧
       t.f (F.QC_ARES_CODE c.val) = 0 ∧ t.f (F.QC_ARES_QUEUE c.val) = q ∧ t.mem = s.mem ∧
       ∀ q', q' ≠ q → t.queue q' = s.queue q') ∧
     (∀ n, s.allocCode c.val x = n → n ≠ 0 → ∃ t, exec (.alloc who c) s = .next t ∧ t.reply = .done ∧ t.qs = s.qs ∧
       t.b (F.QC_ARES_VALID c.val) = true ∧ t.f (F.QC_ARES_CODE c.val) = n ∧ t.mem = s.mem ∧
       (n = 1 → Raised (256 + 8 * c.val + 6) s t)) ∧
     ∀ i : Fin 1024,
       let q := 1024 * c.val + i.val
       ((s.queue q).en = true → (s.queue q).ending = false → ∃ t, exec (.free who c i) s = .next t ∧ t.reply = .done ∧
         t.queue q = { s.queue q with ending := true } ∧ t.f (F.QC_ARES_CODE c.val) = 0 ∧ t.f (F.QC_ARES_QUEUE c.val) = q ∧
         t.mem = s.mem ∧ ∀ q', q' ≠ q → t.queue q' = s.queue q') ∧
       ((s.queue q).en = false ∨ (s.queue q).ending = true → ∃ t, exec (.free who c i) s = .next t ∧ t.reply = .done ∧
         t.qs = s.qs ∧ t.f (F.QC_ARES_CODE c.val) = 5 ∧ OnlyRegs s t)) ∧
   ∀ (s : State) (q : Nat), (s.queue q).ending = true →
     (s.freesFc.queue q).en = false ∧ (s.freesFc.queue q).count = 0 ∧ (s.freesFc.queue q).bells = [] ∧
     (s.freesFc.queue q).ending = false ∧ (∀ r ∈ s.freesFc.mem.writes, r.queue ≠ q) ∧ s.freesFc.mem.words = s.mem.words) ∧
  ((∀ (s : State) (vf : Option (Fin 32)) (q : Fin 32768) (v : Word),
     let n := nbits v.toNat 0 17
     let x := s.queue q.val
     (s.bar4Stop vf q.val = true → exec (.push vf q v) s = .next { s with reply := .abort } ∧
       exec (.pop vf q v) s = .next { s with reply := .abort }) ∧
     (s.bar4Stop vf q.val = false → (s.closed 0 = true ∨ n = 0) → exec (.push vf q v) s = .next { s with reply := .done } ∧
       exec (.pop vf q v) s = .next { s with reply := .done }) ∧
     (s.bar4Stop vf q.val = false → s.closed 0 = false → n ≠ 0 →
       (s.mayPush q.val partyHost = true → n ≤ x.free → ∃ t, exec (.push vf q v) s = .next t ∧ t.reply = .done ∧
         (t.queue q.val).bells = x.bells ++ [{ n := n, frame := v.getLsbD 31, seq := s.mem.hostSeq }] ∧
         (t.queue q.val).room = x.room + n ∧ (t.queue q.val).count = x.count ∧ (t.queue q.val).push = x.push ∧
         (t.queue q.val).pop = x.pop ∧ { t with qs := s.qs, mem := s.mem, reply := s.reply } = s ∧
         { t.mem with reqAt := s.mem.reqAt } = s.mem ∧ ∀ q', q' ≠ q.val → t.queue q' = s.queue q') ∧
       (s.mayPush q.val partyHost = true → x.free < n → ∃ t, exec (.push vf q v) s = .next t ∧ t.reply = .done ∧
         t.qs = s.qs ∧ Raised (qcEv q.val 4) s t) ∧
       (s.mayPush q.val partyHost = false → ∃ t, exec (.push vf q v) s = .next t ∧ t.reply = .done ∧
         t.qs = s.qs ∧ Raised (qcEv q.val 3) s t) ∧
       (s.mayPop q.val partyHost = true → n ≤ s.poppable q.val → ∃ t, exec (.pop vf q v) s = .next t ∧ t.reply = .done ∧
         (t.queue q.val).pop = (x.pop + n) % 65536 ∧ (t.queue q.val).count = x.count - n ∧ (t.queue q.val).push = x.push ∧
         { t with qs := s.qs, mem := s.mem, reply := s.reply } = s ∧ { t.mem with reqAt := s.mem.reqAt } = s.mem ∧
         ∀ q', q' ≠ q.val → t.queue q' = s.queue q') ∧
       (s.mayPop q.val partyHost = true → s.poppable q.val < n → ∃ t, exec (.pop vf q v) s = .next t ∧ t.reply = .done ∧
         t.qs = s.qs ∧ Raised (qcEv q.val 4) s t) ∧
       (s.mayPop q.val partyHost = false → ∃ t, exec (.pop vf q v) s = .next t ∧ t.reply = .done ∧
         t.qs = s.qs ∧ Raised (qcEv q.val 3) s t))) ∧
   ∀ (s : State) (q : Fin 32768) (b : Bell) (rest : List Bell),
     let x := s.queue q.val
     let bank := q.val / 1024
     let go : Prop := ∀ a ∈ s.hostWaits bank, a.write = true → b.seq ≤ a.seq
     (x.bells = [] → exec (.publish q) s = .next s) ∧
     (x.bells = b :: rest → ¬ go → exec (.publish q) s = .next s) ∧
     (x.bells = b :: rest → go → s.portBFree bank = false → ∃ t, exec (.publish q) s = .next t ∧
       t.queue q.val = { x with bells := rest } ∧ t.mem.words = s.mem.words ∧
       t.mem.writes = s.mem.writes ++ [bellPush q.val s.tl.fc b]) ∧
     (x.bells = b :: rest → go → s.portBFree bank = true → s.clearWay q.val →
       (b.n = 1 → ∃ t, exec (.publish q) s = .next t ∧ (t.queue q.val).push = (x.push + 1) % 65536 ∧
         (t.queue q.val).count = x.count + 1 ∧ (t.queue q.val).room = x.room - 1 ∧ (t.queue q.val).pop = x.pop ∧
         (t.queue q.val).bells = rest ∧ (∀ q', q' ≠ q.val → t.queue q' = s.queue q') ∧
         (∀ k, s.home k ≠ s.home (metaKey q.val x x.push) → t.word k = s.word k) ∧
         nbits (t.word (metaKey q.val x x.push)).toNat (if metaHigh x x.push then 32 else 0) 32 = metaWord b.frame false x.push) ∧
       (1 < b.n → ∃ t, exec (.publish q) s = .next t ∧ (t.queue q.val).count = x.count ∧ (t.queue q.val).bells = rest ∧
         ∃ r ∈ t.mem.writes, r.queue = q.val ∧ r.bell = true ∧ r.batch.length = b.n ∧ r.done = 1)))

/-- Queue requests and the flow table (R305, R308, R311, R319): a queue request that the port takes joins the port's requests
with its operation, and one it does not take changes nothing; a write of the flow table puts the three data registers into
the entry from the next fc on, a read takes them out.
The head-of-line timeout (R317): a head that has waited its bound is reported; ACT leaves the queue, drops the head record or
drops every entry, and what is dropped is counted; nothing happens before the bound, in an empty queue, or with EN 0.
Readings and choices of this model it rests on: log 49, 51, 120. -/
def Obligations.QueueRequestsFlowTableAndTimeouts : Prop :=
  ((∀ (s : State) (layer : Fin 4) (port : Fin 32) (q : Fin 32768) (op : QueueOp),
     let n := s.entryBeats q.val
     let push : Bool := match op with | .push _ _ _ => true | .pop => false
     let key := portKey layer port
     (s.portTakes layer port (if push then n else 0) (if push then 0 else n) = true → s.failedGroup layer.val port.val = none →
       ∃ t r, exec (.queueRequest layer port q op) s = .next t ∧ (t.port key).reqs = (s.port key).reqs ++ [r] ∧
         r.q = some { queue := q.val, op := op } ∧ r.acc = s.tl.fc ∧ r.due = none ∧ r.held = s.stopDie layer.val ∧
         { t with mem := { t.mem with ports := s.mem.ports } } = s ∧ ∀ k, k ≠ key → t.port k = s.port k) ∧
     (s.portTakes layer port (if push then n else 0) (if push then 0 else n) = false →
       exec (.queueRequest layer port q op) s = .next s)) ∧
   ∀ (s : State) (who : Who) (v : Word), s.stopAccess who Rg.FH_FTCMD = none →
     let i := nbits v.toNat 0 13
     (v.getLsbD 30 = false → v.getLsbD 31 = true → ∃ t, exec (.flowTableWrite who v) s = .next t ∧ t.reply = .done ∧
       t.flowEntry i = (s.reg Rg.FH_FTDATA0, s.reg Rg.FH_FTDATA1, s.reg Rg.FH_FTDATA2) ∧
       (∀ j, j ≠ i → t.flowEntry j = s.flowEntry j) ∧ OnlyRegs { s with flow := t.flow, flowPast := t.flowPast } t ∧
       RegsBut [Rg.FH_FTCMD, Rg.FH_FTCNT] s t ∧
       ((∀ e ∈ s.flowPast, e.1 < s.tl.fc) → t.flowAsOf (s.tl.fc + 1) = t.flow ∧
         ∀ j, mget (0, 0, 0) (t.flowAsOf s.tl.fc) j = s.flowEntry j)) ∧
     (v.getLsbD 30 = true → ∃ t, exec (.flowTableRead who v) s = .next t ∧ t.reply = .done ∧
       (t.reg Rg.FH_FTDATA0, t.reg Rg.FH_FTDATA1, t.reg Rg.FH_FTDATA2) = s.flowEntry i ∧ t.flow = s.flow ∧ OnlyRegs s t ∧
       RegsBut [Rg.FH_FTCMD, Rg.FH_FTDATA0, Rg.FH_FTDATA1, Rg.FH_FTDATA2] s t)) ∧
  (∀ (s : State) (q : Fin 32768) (errs : List (Nat × Flaw)),
     let x := s.queue q.val
     let c := q.val / 1024
     let i := q.val % 1024
     let act := s.f (F.QC_Q_HOL_ACT c i)
     let n := if act = 1 then s.recordLen errs q.val else if act = 2 then x.count else 0
     (x.en = true → x.lent = 0 → s.b (F.QC_Q_HOL_EN c i) = true → x.count ≠ 0 → x.headAt + s.holLimit q.val ≤ s.tl.fc →
       ∃ t, exec (.qcHol q errs) s = .next t ∧ Raised (qcEv q.val 1) s t ∧ (t.queue q.val).count = x.count - n ∧
         (t.queue q.val).pop = (x.pop + n) % 65536 ∧ (t.queue q.val).push = x.push ∧ (t.queue q.val).headAt = s.tl.fc ∧
         t.f (F.QC_Q_DROPS_HOLDISC c i) = satAdd 16 (s.f (F.QC_Q_DROPS_HOLDISC c i)) n ∧
         { t.mem with reqAt := s.mem.reqAt } = s.mem ∧ ∀ q', q' ≠ q.val → t.queue q' = s.queue q') ∧
     (x.en = false ∨ x.lent ≠ 0 ∨ s.b (F.QC_Q_HOL_EN c i) = false ∨ x.count = 0 ∨ s.tl.fc < x.headAt + s.holLimit q.val →
       exec (.qcHol q errs) s = .next s))

/-! ## Fronthaul -/

/-- A received frame (R306 to R311, R441 to R444, R563): a frame the MAC discards is counted and reported; a timing frame and one in
replay reach no queue; any other is a record, header first, for the queue its flow names, as the table stood when its header had
arrived, or the port's unmatched queue, where it takes the entries it fills; a queue that cannot take it drops it, which is
counted and reported.
Readings and choices of this model it rests on: log 52, 53. -/
def Obligations.FramesBecomeRecordsOrAreCounted : Prop :=
  ∀ (s : State) (port : Fin 32) (x : RxFrame),
    let p := port.val
    let y := parseFrame x.bytes
    let lag := s.portNumber p
    let n := 16 + y.rest.length
    let flow := (s.flowAsOf (s.tl.fc - x.hdrAge)).find? (fun e => y.matches lag e.2)
    let k (q : Nat) : Nat := (n + (s.queue q).esz - 1) / (s.queue q).esz
    (s.portUp p = false → exec (.frame port x) s = .next s) ∧
    (s.portUp p = true → 2 ≤ s.f F.RPL_STAT_MODE → ∃ t, exec (.frame port x) s = .next t ∧ OnlyRegs s t ∧
      RegsBut [Rg.RPL_GAPS] s t ∧ t.f F.RPL_GAPS_RXDISC = satAdd 16 (s.f F.RPL_GAPS_RXDISC) 1) ∧
    (s.portUp p = true → s.f F.RPL_STAT_MODE < 2 →
      (macDiscard (s.f (F.FH_PORT_CFG_MAXLEN p)) x = some 0 → ∃ t, exec (.frame port x) s = .next t ∧ OnlyNotes s t ∧
        t.f (F.FH_PORT_RXERR_FCS p) = satAdd 16 (s.f (F.FH_PORT_RXERR_FCS p)) 1 ∧ Raised Ev.FH_RX_ERR s t) ∧
      (macDiscard (s.f (F.FH_PORT_CFG_MAXLEN p)) x = some 1 → ∃ t, exec (.frame port x) s = .next t ∧ OnlyNotes s t ∧
        t.f (F.FH_PORT_RXERR_OTHER p) = satAdd 16 (s.f (F.FH_PORT_RXERR_OTHER p)) 1 ∧ Raised Ev.FH_RX_ERR s t) ∧
      (macDiscard (s.f (F.FH_PORT_CFG_MAXLEN p)) x = none → y.timing = true → ∃ t, exec (.frame port x) s = .next t ∧
        OnlyRegs s t ∧ (s.rin.cfg.ptpPort ≠ p → t.f (F.FH_PORT_STAT_TIMDISC p) = satAdd 16 (s.f (F.FH_PORT_STAT_TIMDISC p)) 1)) ∧
      (∀ st i e, macDiscard (s.f (F.FH_PORT_CFG_MAXLEN p)) x = none → y.timing = false → s.stampOf x = (st, s) →
        flow = some (i, e) →
        let q := nbits e.2.2.toNat 0 15
        (s.ingressBar q (partyFh lag) n = none → s.clearWay q →
          ∃ t, exec (.frame port x) s = .next t ∧ Pushed q (k q) s t ∧ t.regs = s.regs) ∧
        (∀ why, s.ingressBar q (partyFh lag) n = some why → ∃ t, exec (.frame port x) s = .next t ∧ OnlyNotes s t ∧
          t.f (F.FH_UMCNT_DROP lag) = satAdd 16 (s.f (F.FH_UMCNT_DROP lag)) 1 ∧ Raised Ev.FH_RX_DROP s t)) ∧
      (∀ st, macDiscard (s.f (F.FH_PORT_CFG_MAXLEN p)) x = none → y.timing = false → s.stampOf x = (st, s) →
        flow = none → s.closed 0 = false →
        (s.b (F.FH_UMQ_EN lag) = false → ∃ t, exec (.frame port x) s = .next t ∧ OnlyNotes s t ∧
          t.f (F.FH_UMCNT_DROP lag) = satAdd 16 (s.f (F.FH_UMCNT_DROP lag)) 1 ∧ Raised Ev.FH_RX_DROP s t) ∧
        (s.b (F.FH_UMQ_EN lag) = true →
          let q := s.f (F.FH_UMQ_QUEUE lag)
          s.ingressBar q (partyFh lag) n = none → s.clearWay q →
          ∃ t, exec (.frame port x) s = .next t ∧ Raised Ev.FH_UNMATCHED s t ∧ Pushed q (k q) s t ∧
            t.f (F.FH_UMCNT_UNMATCHED lag) = satAdd 16 (s.f (F.FH_UMCNT_UNMATCHED lag)) 1)))

/-- A departure (R230, R233 to R236, R307, R446): the one head that feeds a port that may send is left alone before its time,
leaves in it, and late is sent and counted within LATETOL; beyond it LATEACT drops it, as a bad time does; one with a
poisoned header leaves at once. The frame is the template and the payload, and the record leaves its queue. The time is that
of FH_TS's copy of AT.
Readings and choices of this model it rests on: log 54. -/
def Obligations.DeparturesLeaveAtTheirTime : Prop :=
  ∀ (s : State) (port : Fin 32) (q : Fin 32768) (errs : List (Nat × Flaw)),
    let x := s.takeRecord errs q.val
    let r := x.1
    let d := distance r.time s.fhTime
    let pl := r.payload
    let o := s.outPort port.val pl.1
    let l := s.egress r.tmpl pl.1
    let n := s.f (F.FH_PORT_CFG_MAXLEN o) - 4
    let waited : Prop := (s.queue q.val).headAt < s.tl.fc ∧ s.tl.depAt < s.tl.fc
    let late : Prop := d < 0 ∨ d = 0 ∧ ¬ waited
    let sent (t : State) : Prop := t.out = .frame o (l.take n) (pl.2 && decide (l.length ≤ n)) :: s.out
    let gone (t : State) : Prop := (t.queue q.val).count = (s.queue q.val).count - s.recordLen errs q.val
    (s.departs port.val = false ∨ q.val ∉ s.feeds port.val → exec (.departure port q errs) s = .next s) ∧
    (s.departs port.val = true → s.feeds port.val = [q.val] →
      (r.hdrBad = true → ∃ t, exec (.departure port q errs) s = .next t ∧ sent t ∧ gone t ∧ t.tl = s.tl) ∧
      (r.hdrBad = false →
        (L ≤ r.time % 2 ^ 34 ∨ (L : Int) < d → ∃ t, exec (.departure port q errs) s = .next t ∧ t.out = s.out ∧ gone t ∧
          t.f F.TL_DEPCNT_DROP = satAdd 16 (s.f F.TL_DEPCNT_DROP) 1 ∧ Raised Ev.FH_DEP_DROP s t) ∧
        (r.time % 2 ^ 34 < L → d ≤ (L : Int) →
          (1 ≤ d → exec (.departure port q errs) s = .next s) ∧
          (d = 0 → waited → ∃ t, exec (.departure port q errs) s = .next t ∧ sent t ∧ gone t ∧ t.tl = s.tl) ∧
          (late → (1 - d).toNat ≤ s.f F.TL_DEPCFG_LATETOL → ∃ t, exec (.departure port q errs) s = .next t ∧ sent t ∧ gone t ∧
            t.f F.TL_DEPCNT_LATE = satAdd 16 (s.f F.TL_DEPCNT_LATE) 1 ∧ Raised Ev.FH_DEP_LATE s t) ∧
          (late → s.f F.TL_DEPCFG_LATETOL < (1 - d).toNat → ∃ t, exec (.departure port q errs) s = .next t ∧ gone t ∧
            (if s.b F.TL_DEPCFG_LATEACT then t.out = s.out else sent t) ∧
            t.f F.TL_DEPCNT_DROP = satAdd 16 (s.f F.TL_DEPCNT_DROP) 1 ∧ Raised Ev.FH_DEP_DROP s t))))

/-- Ports, links and groups (R412, R417, R440, R448 to R450): an enable that keeps the rules enables the port in its mode, one that
breaks them leaves it off with CFGERR; while it is enabled only EN can change, and with it the link goes; links come up where
their clocks run, and go down, with their events, and a member is active at a frame boundary after a second.
JESD204C samples (R450 to R452): at an LEMC boundary of a running link a received multiblock becomes a record of its queue, with
its CRC errors reported, and a link that transmits sends the samples of the record due then, or zeros with UNDERRUN; off the
boundary nothing happens.
Readings and choices of this model it rests on: log 55, 122. -/
def Obligations.PortsLinksAndMultiblocks : Prop :=
  ((∀ (s : State) (who : Who) (p : Fin 32) (v : Word), s.stopAccess who (Rg.FH_PORT_CFG p.val) = none →
     (s.b (F.FH_PORT_CFG_EN p.val) = false → v.getLsbD 31 = true → s.badPort p.val (nbits v.toNat 0 4) = false →
       ∃ t, exec (.portEnable who p v) s = .next t ∧ t.reply = .done ∧ t.b (F.FH_PORT_CFG_EN p.val) = true ∧
         t.f (F.FH_PORT_CFG_MODE p.val) = nbits v.toNat 0 4 ∧ OnlyRegs s t ∧ RegsBut [Rg.FH_PORT_CFG p.val] s t) ∧
     (s.b (F.FH_PORT_CFG_EN p.val) = false → v.getLsbD 31 = true → s.badPort p.val (nbits v.toNat 0 4) = true →
       ∃ t, exec (.portEnable who p v) s = .next t ∧ t.b (F.FH_PORT_CFG_EN p.val) = false ∧
         t.b (F.FH_PORT_STAT_CFGERR p.val) = true ∧ Raised Ev.FH_PORT_CFGERR s t) ∧
     (s.b (F.FH_PORT_CFG_EN p.val) = true → ∃ t, exec (.portEnable who p v) s = .next t ∧
       t.b (F.FH_PORT_CFG_EN p.val) = v.getLsbD 31 ∧ t.f (F.FH_PORT_CFG_MODE p.val) = s.f (F.FH_PORT_CFG_MODE p.val) ∧
       t.f (F.FH_PORT_CFG_MAXLEN p.val) = s.f (F.FH_PORT_CFG_MAXLEN p.val) ∧
       (v.getLsbD 31 = true ∨ s.b (F.FH_PORT_STAT_UP p.val) = false → OnlyRegs s t) ∧
       (v.getLsbD 31 = false → s.b (F.FH_PORT_STAT_UP p.val) = true →
         t.b (F.FH_PORT_STAT_UP p.val) = false ∧ Raised Ev.FH_LINK_DOWN s t))) ∧
   (∀ (s : State) (p : Fin 32),
     (s.b (F.FH_PORT_CFG_EN p.val) = true → s.f (F.FH_PORT_CFG_MODE p.val) ≠ jesdMode → s.b (F.FH_PORT_STAT_UP p.val) = false →
       s.portRuns p.val = true →
       ∃ t, exec (.fhLinkUp p) s = .next t ∧ t.b (F.FH_PORT_STAT_UP p.val) = true ∧ Raised Ev.FH_LINK_UP s t ∧
         mget 0 t.fh.upAt p.val = s.tl.fc ∧ t.fh.act = s.fh.act ∧ t.lanePreset p.val = min (s.band 0) 2) ∧
     (s.b (F.FH_PORT_CFG_EN p.val) = false ∨ s.b (F.FH_PORT_STAT_UP p.val) = true ∨ s.portRuns p.val = false →
       exec (.fhLinkUp p) s = .next s) ∧
     (∀ leaving, s.b (F.FH_PORT_STAT_UP p.val) = true → ∃ t, exec (.fhLinkDown p leaving) s = .next t ∧
       t.b (F.FH_PORT_STAT_UP p.val) = false ∧ Raised Ev.FH_LINK_DOWN s t ∧ nbits t.fh.act p.val 1 = 0 ∧
       (∀ g, s.lagOf p.val = some g → Raised Ev.FH_LAG_MEMBER s t ∧
         t.f (F.FH_LAG_LOST g) = if leaving then satAdd 7 (s.f (F.FH_LAG_LOST g)) 1 else s.f (F.FH_LAG_LOST g))) ∧
     (∀ leaving, s.b (F.FH_PORT_STAT_UP p.val) = false → exec (.fhLinkDown p leaving) s = .next s) ∧
     (∀ g, s.lagOf p.val = some g → s.portUp p.val = true → nbits s.fh.act p.val 1 = 0 → s.sched % frameFc = 0 →
       mget 0 s.fh.upAt p.val + 983040000 ≤ s.tl.fc → ∃ t, exec (.lagMemberActive p) s = .next t ∧
         t.fh.act = s.fh.act + 2 ^ p.val ∧ t.fh.upAt = s.fh.upAt ∧ Raised Ev.FH_LAG_MEMBER s t) ∧
     (s.lagOf p.val = none ∨ s.sched % frameFc ≠ 0 → exec (.lagMemberActive p) s = .next s)) ∧
   ∀ (s : State) (k : Fin 16),
     (∀ who v, s.stopAccess who (Rg.JESD_LINK_CFG k.val) = none →
       let w := s.writeFields (Rg.JESD_LINK_CFG k.val) v
       (v.getLsbD 31 = true → w.badLink k.val = false → exec (.jesdEnable who k v) s = .next { w with reply := .done } ∧
         w.b (F.JESD_LINK_CFG_EN k.val) = true) ∧
       (v.getLsbD 31 = true → w.badLink k.val = true → ∃ t, exec (.jesdEnable who k v) s = .next t ∧
         t.b (F.JESD_LINK_CFG_EN k.val) = false ∧ t.b (F.JESD_LINK_STAT_CFGERR k.val) = true ∧ OnlyRegs s t) ∧
       (v.getLsbD 31 = false → s.b (F.JESD_LINK_STAT_UP k.val) = true → ∃ t, exec (.jesdEnable who k v) s = .next t ∧
         t.b (F.JESD_LINK_CFG_EN k.val) = false ∧ t.b (F.JESD_LINK_STAT_UP k.val) = false ∧ Raised Ev.JESD_LINK_DOWN s t)) ∧
     (s.b (F.JESD_LINK_CFG_EN k.val) = true → s.b (F.JESD_LINK_STAT_UP k.val) = false → s.lanesRun k.val (s.linkWidth k.val) = true →
       ∃ t, exec (.jesdLinkUp k) s = .next t ∧ t.b (F.JESD_LINK_STAT_UP k.val) = true ∧ Raised Ev.JESD_LINK_UP s t ∧
         t.fh = s.fh) ∧
     (s.b (F.JESD_LINK_STAT_UP k.val) = true → ∃ t, exec (.jesdLinkDown k) s = .next t ∧
       t.b (F.JESD_LINK_STAT_UP k.val) = false ∧ Raised Ev.JESD_LINK_DOWN s t ∧ OnlyNotes s t)) ∧
  ((∀ (s : State) (k : Fin 16) (samples : List Byte) (crc : Nat),
     let n := k.val
     let t0 := s.timeAgo (s.f (F.JESD_LINK_CFG2_RBD n))
     let q := s.f (F.JESD_LINK_CFG_QUEUE n)
     let len := 16 + s.multiblock n
     (s.linkRuns n false = false ∨ s.lemcAt n (t0 % 2 ^ 34) = false →
       exec (.receiveMultiblock k samples crc) s = .next s) ∧
     (s.linkRuns n false = true → s.lemcAt n (t0 % 2 ^ 34) = true →
       (s.ingressBar q (partyFh n) len = none → s.clearWay q → ∃ t, exec (.receiveMultiblock k samples crc) s = .next t ∧
         Pushed q ((len + (s.queue q).esz - 1) / (s.queue q).esz) s t ∧ (crc ≠ 0 → Raised Ev.JESD_CRC s t)) ∧
       (∀ why, s.ingressBar q (partyFh n) len = some why → ∃ t, exec (.receiveMultiblock k samples crc) s = .next t ∧
         t.f (F.JESD_LINK_STAT_DROP n) = satAdd 10 (s.f (F.JESD_LINK_STAT_DROP n)) 1 ∧ t.qs = s.qs))) ∧
   ∀ (s : State) (k : Fin 16) (errs : List (Nat × Flaw)),
     let n := k.val
     let t0 := advance s.progTime 64
     let zeros : List Byte := List.replicate (s.multiblock n) 0
     (s.linkRuns n true = false ∨ s.lemcAt n (t0 % 2 ^ 34) = false ∨ s.closed 0 = true →
       exec (.transmitMultiblock k errs) s = .next s) ∧
     (s.linkRuns n true = true → s.lemcAt n (t0 % 2 ^ 34) = true → s.closed 0 = false →
       (s.feeds n = [] → ∃ t, exec (.transmitMultiblock k errs) s = .next t ∧ t.out = .multiblock n t0 zeros :: s.out ∧
         Raised Ev.JESD_UNDERRUN s t ∧ t.f (F.JESD_LINK_STAT_UNDERRUN n) = satAdd 10 (s.f (F.JESD_LINK_STAT_UNDERRUN n)) 1 ∧
         t.qs = s.qs) ∧
       (∀ q rest, s.feeds n = q :: rest →
         let r := (s.takeRecord errs q).1
         r.hdrBad = false → r.time % 2 ^ 34 < L → s.lemcAt n (r.time % 2 ^ 34) = true → distance r.time t0 = 0 →
         ∃ t, exec (.transmitMultiblock k errs) s = .next t ∧
           t.out = .multiblock n t0 (if r.bad then zeros else
             let b := (r.body.take r.len).take (s.multiblock n)
             b ++ List.replicate (s.multiblock n - b.length) 0) :: s.out ∧
           (t.queue q).count = (s.queue q).count - s.recordLen errs q)))

/-! ## Codes, browse and graze -/

/-- Corrected words are written back (R325 to R327): the oldest queued word of a unit loses its mark in a MEM cycle that the unit
leaves free; a corrected stored word in the first fc in which its port is its own, oldest first.
Soft repair by software (R341 to R343, Table 12-6): the checks answer their codes in order, and a repair that passes them takes the
lowest spare of its sub-array and waits for its window's borrow.
Readings and choices of this model it rests on: log 45. -/
def Obligations.WordsAreCorrectedAndRepaired : Prop :=
  ((∀ (s : State) (u : Fin 48) (k : Nat) (rest : List Nat), mget [] s.mem.wbq u.val = k :: rest →
     (s.cycFree u.val = true → ∃ t, exec (.writeBack u) s = .next t ∧ { t with mem := s.mem } = s ∧
       mget [] t.mem.wbq u.val = rest ∧ t.mem.words = s.mem.words ∧ t.cycFree u.val = false ∧
       (s.foundAt [] k = .corr → mget Ecc.clean t.mem.marks (s.home k) = .clean) ∧
       (s.foundAt [] k ≠ .corr → t.mem.marks = s.mem.marks) ∧
       ∀ a, a ≠ s.home k → mget Ecc.clean t.mem.marks a = mget Ecc.clean s.mem.marks a) ∧
     (s.cycFree u.val = false → exec (.writeBack u) s = .next s)) ∧
   (∀ (s : State) (u : Fin 48), mget [] s.mem.wbq u.val = [] → exec (.writeBack u) s = .next s) ∧
   ∀ (s : State) (w : Nat),
     (s.wbDue w = true → w ∈ s.fab.slotWb ∧ s.portUsed w = false ∧ s.refillClaims (keyLayer w) (wordTile w) = false ∧
       s.tileUsed (keyLayer w) (wordTile w) = false ∧
       ∃ t, exec (.slotWriteBack w) s = .next t ∧
         mget Ecc.clean t.fab.slotErr w = (if mget Ecc.clean s.fab.slotErr w = .corr then .clean else mget Ecc.clean s.fab.slotErr w) ∧
         t.fab.slotWb = s.fab.slotWb.erase w ∧ t.portUsed w = true ∧
         { t with fab := { t.fab with slotErr := s.fab.slotErr, slotWb := s.fab.slotWb, portUse := s.fab.portUse } } = s ∧
         ∀ a, a ≠ w → mget Ecc.clean t.fab.slotErr a = mget Ecc.clean s.fab.slotErr a) ∧
     (s.wbDue w = false → exec (.slotWriteBack w) s = .next s)) ∧
  (∀ (s : State) (who : Who) (v : Word), s.stopAccess who Rg.ECC_SRADD = none → v.getLsbD 31 = true →
     let cls := nbits v.toNat 28 3
     let unit := nbits v.toNat 23 5
     let sub := nbits v.toNat 12 11
     let row := nbits v.toNat 6 6
     let bad : Prop := 1 < cls ∨ (cls = 1 ∧ 16 ≤ unit)
     let used := mget 0 s.mem.spares (subKey cls unit sub)
     let code (t : State) (n : Nat) : Prop := t.f F.ECC_SRRES_CODE = n ∧ t.b F.ECC_SRRES_VALID = true ∧ t.reply = .done
     (bad → ∃ t, exec (.eccSradd who v) s = .next t ∧ code t 1 ∧ t.mem = s.mem) ∧
     (¬ bad → s.srHas cls unit sub row = true → ∃ t, exec (.eccSradd who v) s = .next t ∧ code t 2 ∧ t.mem = s.mem) ∧
     (¬ bad → s.srHas cls unit sub row = false →
       (256 ≤ s.mem.sr.length → ∃ t, exec (.eccSradd who v) s = .next t ∧ code t 3 ∧ t.mem = s.mem ∧ Raised Ev.REPAIR_FULL s t) ∧
       (s.mem.sr.length < 256 → used = 3 → ∃ t, exec (.eccSradd who v) s = .next t ∧ code t 4 ∧ t.mem = s.mem ∧
         Raised Ev.REPAIR_NOSPARE s t) ∧
       (s.mem.sr.length < 256 → used < 3 → ∃ t e, exec (.eccSradd who v) s = .next t ∧ code t 0 ∧ t.mem.sr = s.mem.sr ++ [e] ∧
         t.mem.srPend = s.mem.srPend ++ [e] ∧ e.cls = cls ∧ e.unit = unit ∧ e.sub = sub ∧ e.row = row ∧
         e.spare = (if used % 2 = 0 then 0 else 1) ∧ mget 0 t.mem.spares (subKey cls unit sub) = used + 2 ^ e.spare ∧
         t.f F.ECC_SRRES_USED = s.mem.sr.length + 1 ∧ t.mem.words = s.mem.words)))

/-- Browse (R125, R126, R332 to R334): an engine whose die is up reads the next place of its pass in a cycle that is free,
and no other; what it reads sound it leaves alone; a correctable bank or program word is corrected in place and counted, an
uncorrectable one is marked and reported; an armed group that differs from its slot is an upset; a pass that is through ends
and the next begins, one that is late is reported once.
Readings and choices of this model it rests on: log 59, 109. -/
def Obligations.BrowseReadsCorrectsAndReports : Prop :=
  let may (s : State) (a : BrowseAt) : Prop :=
    s.dieUp (engDie (engOf a)) = true ∧ s.browseCycle a = true ∧ s.browseNext (engOf a) (browseIdx a) = true
  (∀ (s : State) (a : BrowseAt) (found : Flaw),
    (may s a → ∃ t, exec (.browseRead a found) s = .next t ∧
      t.browsePos (engOf a) = { s.browsePos (engOf a) with next := browseIdx a + 1, last := s.tl.fc + 1 } ∧ t.tl = s.tl) ∧
    (¬ may s a → exec (.browseRead a found) s = .next s)) ∧
  (∀ (s : State) (e : BrowseEng) (i : Nat), s.browseNext e i = true →
    (s.browsePos e).next ≤ i ∧ ∀ x ∈ s.browseMarks e, ¬ ((s.browsePos e).next ≤ x ∧ x < i)) ∧
  (∀ (s : State) (key : Nat) (found : Flaw), key < 2 ^ 25 → may s (.mem key) →
    (s.foundAt [(key, found)] key = .clean → ∃ t, exec (.browseRead (.mem key) found) s = .next t ∧ t.mem.marks = s.mem.marks ∧
      t.regs = s.regs ∧ t.evt = s.evt ∧ (found.wrong % 2 ^ 64 = 0 → t.mem.words = s.mem.words)) ∧
    (s.foundAt [(key, found)] key = .corr → ∃ t, exec (.browseRead (.mem key) found) s = .next t ∧
      mget Ecc.clean t.mem.marks (s.home key) = .clean ∧ (found.wrong % 2 ^ 64 = 0 → t.mem.words = s.mem.words) ∧
      Counted (F.ECC_BANK_CNT_CORR (key / 2 ^ 20)) s t ∧ Raised Ev.MEM_CORR s t) ∧
    (s.foundAt [(key, found)] key = .uncorr → ∃ t, exec (.browseRead (.mem key) found) s = .next t ∧
      mget Ecc.clean t.mem.marks (s.home key) = .uncorr ∧ (found.wrong % 2 ^ 64 = 0 → t.mem.words = s.mem.words) ∧
      Counted (F.ECC_BANK_CNT_UNCORR (key / 2 ^ 20)) s t ∧ Raised Ev.MEM_UNCORR s t)) ∧
  (∀ (s : State) (k : Fin 4) (a : BitVec 16) (found : Flaw), may s (.pgm k a) →
    let key := 65536 * k.val + a.toNat
    (eccWorse found.ecc (mget Ecc.clean s.fab.pgmErr key) = .corr → ∃ t, exec (.browseRead (.pgm k a) found) s = .next t ∧
      mget Ecc.clean t.fab.pgmErr key = .clean ∧ (found.wrong % 2 ^ 64 = 0 → t.fab.pgm = s.fab.pgm) ∧
      Counted (F.SEQ_PMERR_CORR k) s t ∧ Raised (Ev.PGM_CORR k) s t) ∧
    (eccWorse found.ecc (mget Ecc.clean s.fab.pgmErr key) = .uncorr → ∃ t, exec (.browseRead (.pgm k a) found) s = .next t ∧
      mget Ecc.clean t.fab.pgmErr key = .uncorr ∧ t.seqs = s.seqs ∧ Counted (F.SEQ_PMERR_UNCORR k) s t ∧
      Raised (Ev.PGM_UNCORR k) s t)) ∧
  (∀ (s : State) (ly p : Fin 4) (tile : Fin 64) (g : Nat) (found : Flaw),
    let j := s.tileRegion ly tile
    let x := s.plane ly j p
    let key := ckey ly tile p.val 0 + 8 * g
    may s (.plane ly p tile g) → x.armed = true → g < 2 ^ 17 → mfind s.fab.upsets (key / 8) = none →
    mnum s.fab.planes key 8 ≠ mnum s.fab.slots (ckey ly tile x.slot.val 0 + 8 * g) 8 →
    ∃ t, exec (.browseRead (.plane ly p tile g) found) s = .next t ∧
      mfind t.fab.upsets (key / 8) = some { since := s.tl.fc, act := (s.region ly j).cur == p, read := none } ∧
      { t with mem := s.mem, fab := { t.fab with upsets := s.fab.upsets, portUse := s.fab.portUse } } = s) ∧
  ∀ (s : State) (e : BrowseEng),
    (mfind s.mem.brw.due (engNum e) = none → exec (.browsePass e) s = .next s ∧ exec (.browseLate e) s = .next s) ∧
    (s.browseDone e = false → exec (.browsePass e) s = .next s) ∧
    (s.browseDone e = true → ∀ x ∈ s.browseMarks e, x < (s.browsePos e).next) ∧
    (∀ d, mfind s.mem.brw.due (engNum e) = some d →
      (s.browseDone e = true → ∃ t, exec (.browsePass e) s = .next t ∧
        mfind t.mem.brw.due (engNum e) = some (max d s.tl.fc + s.browseInterval e) ∧
        t.browsePos e = { next := 0, last := 0, began := max d s.tl.fc } ∧
        mget false t.mem.brw.late (engNum e) = false ∧ t.mem.words = s.mem.words ∧
        (∀ k, e = .cfgl k → Counted (F.CFG_BRW_PASSES k.val) s t)) ∧
      (d ≤ s.tl.fc → mget false s.mem.brw.late (engNum e) = false → ∃ t, exec (.browseLate e) s = .next t ∧
        mget false t.mem.brw.late (engNum e) = true ∧ (∀ k, e = .cfgl k → Raised (Ev.BROWSE_LATE k.val) s t) ∧
        (∀ u, e = .unit u → t.b F.ECC_BRWMEM_LATE = true ∧ Raised Ev.BROWSE_LATE_M s t) ∧
        (∀ k, e = .coef k ∨ e = .pgm k → Raised Ev.BROWSE_LATE_F s t)) ∧
      (s.tl.fc < d ∨ mget false s.mem.brw.late (engNum e) = true → exec (.browseLate e) s = .next s))

/-- Graze (R336 to R340, R344): a borrow takes the window its period gives into the unit's save buffer, from which every access is
served, for a test or for a repair that waits, and is written back after 5,120 fc with its repairs applied; a row that failed is
counted and reported.
Readings and choices of this model it rests on: log 59. -/
def Obligations.GrazeBorrowsAndGivesBack : Prop :=
  (∀ (s : State) (u : Fin 48) (errs : List (Nat × Flaw)),
    let w := s.grazeWindow u.val
    let base := u.val * 2 ^ 20 + 512 * w
    (s.tl.released = true → s.tl.at34 % 65536 < 5120 → s.dieUp 0 = true → mfind s.mem.borrow u.val = none →
      s.grazeOn u.val = true → (∀ i, i < 512 → s.foundAt errs (base + i) = .clean) → (∀ e ∈ errs, e.2.wrong = 0) →
      ∃ t, exec (.borrow u errs) s = .next t ∧ { t with mem := s.mem } = s ∧
        mfind t.mem.borrow u.val = some { window := w, since := s.tl.fc - s.tl.at34 % 65536, repair := false } ∧
        (∀ v, v ≠ u.val → mfind t.mem.borrow v = mfind s.mem.borrow v) ∧
        (∀ i, i < 512 → t.home (base + i) = saveKey u.val i) ∧ ∀ k, k < 2 ^ 26 → t.word k = s.word k) ∧
    (s.tl.released = false ∨ 5120 ≤ s.tl.at34 % 65536 ∨ s.dieUp 0 = false ∨ mfind s.mem.borrow u.val ≠ none ∨
      (s.grazeOn u.val = false ∧ s.mem.srPend = []) → exec (.borrow u errs) s = .next s)) ∧
  ∀ (s : State) (u : Fin 48) (b : Borrow), mfind s.mem.borrow u.val = some b →
    (b.since + 5119 ≤ s.tl.fc → ∀ failed, ∃ t, exec (.grazeWriteBack u failed) s = .next t ∧ mfind t.mem.borrow u.val = none ∧
      Counted F.ECC_GRZSTAT_BORROWS s t ∧ (b.window < 2048 → ∀ k, k < 2 ^ 26 → t.word k = s.word k) ∧
      (∀ e ∈ t.mem.srPend, e ∈ s.mem.srPend ∧ (srUnit e ≠ u.val ∨ e.sub ≠ b.window)) ∧
      (∀ r, failed = [r] → b.repair = false → Counted F.ECC_GRZSTAT_FAILS s t ∧ Raised Ev.GRAZE_FAIL s t)) ∧
    (s.tl.fc < b.since + 5119 → ∀ failed, exec (.grazeWriteBack u failed) s = .next s)

/-! ## Vertical links -/

/-- Timed and timeline groups (R97, R98, R349, R352 to R354): the syndrome of the changed lanes names the position; a
correction is counted; at the threshold the position is declared, and a spare asked for; a second one, or a syndrome that
names none, fails the group, and a layer's timeline group with it the layer's sequencer; a swap takes the next spare where
the count is a multiple of 4,096.
Readings and choices of this model it rests on: log 57. -/
def Obligations.LinkGroupsCorrectSwapAndFail : Prop :=
  (∀ i : Fin 71, (idleWord.flipped (1#71 <<< i.val)).syndrome ≠ 0 ∧
    syndromePos (idleWord.flipped (1#71 <<< i.val)).syndrome.toNat = some i.val) ∧
  ∀ (s : State) (j : Fin 9) (g : BitVec 12),
    let x := s.vlGroup j.val g.toNat
    (∀ flip : BitVec 71,
      let syn := (idleWord.flipped flip).syndrome
      vlExists j.val g.toNat = true → syn ≠ 0 → x.failed = false →
      (∀ pos, syndromePos syn.toNat = some pos → mget 0 x.lanes.win pos + 1 < s.shaftThresh →
        ∃ t, exec (.vlCorr j g flip) s = .next t ∧ Raised Ev.VL_CORR s t ∧ Counted (F.VL_J_STAT_CORRCNT j.val) s t ∧
          (t.vlGroup j.val g.toNat).corrs = satAdd 16 x.corrs 1 ∧
          mget 0 (t.vlGroup j.val g.toNat).lanes.win pos = mget 0 x.lanes.win pos + 1 ∧
          (t.vlGroup j.val g.toNat).lanes.faill = x.lanes.faill ∧ (t.vlGroup j.val g.toNat).failed = false) ∧
      (∀ pos i, syndromePos syn.toNat = some pos → s.shaftThresh ≤ mget 0 x.lanes.win pos + 1 → x.lanes.faill = none →
        x.spare = some i → ∃ t, exec (.vlCorr j g flip) s = .next t ∧ (t.vlGroup j.val g.toNat).lanes.faill = some pos ∧
          (t.vlGroup j.val g.toNat).pend = true ∧ Raised Ev.VL_CORR s t) ∧
      ((syndromePos syn.toNat = none ∨ ∃ pos p, syndromePos syn.toNat = some pos ∧
          s.shaftThresh ≤ mget 0 x.lanes.win pos + 1 ∧ x.lanes.faill = some p ∧ p ≠ pos) →
        ∃ t, exec (.vlCorr j g flip) s = .next t ∧ (t.vlGroup j.val g.toNat).failed = true ∧ Raised Ev.VL_LINK_FAILED s t ∧
          (∀ k, vlLine j.val g.toNat = some k → (t.seq k).mode = .stopped ∧
            ∀ r : Fin 8, (t.region k r).pendSw = none ∧ (t.region k r).nextCur = none ∧ (t.region k r).cur = (s.region k r).cur) ∧
          (vlLine j.val g.toNat = none → j = 0 → t.baseDead = true))) ∧
    (∀ flip : BitVec 71, vlExists j.val g.toNat = false ∨ (idleWord.flipped flip).syndrome = 0 ∨ x.failed = true →
      exec (.vlCorr j g flip) s = .next s) ∧
    (∀ pos i, x.lanes.faill = some pos → x.spare = some i → x.pend = true → s.sched % 4096 = 0 →
      ∃ t, exec (.vlSwap j g) s = .next t ∧ (t.vlGroup j.val g.toNat).map = x.map + (128 + pos) * 2 ^ (8 * i) ∧
        (t.vlGroup j.val g.toNat).spares = x.spares - 1 ∧ (t.vlGroup j.val g.toNat).lanes.faill = none ∧
        mget 0 (t.vlGroup j.val g.toNat).lanes.win pos = 0 ∧ (t.vlGroup j.val g.toNat).pend = false ∧ Raised Ev.VL_SWAP s t) ∧
    (x.pend = false ∨ s.sched % 4096 ≠ 0 → exec (.vlSwap j g) s = .next s)

/-- Crossings and untimed links (R351, R355, R356, R543): a margin below a quarter of an fc is warned of; a slip, at which no
margin is left, fences and restarts the dies above it; a resend is counted, and the sixteenth in succession fails the link.
The lane test and the phases of a fence (R358 to R362, R365): the test ends with its count, and a failed lane of a timed
group takes its first spare; a drain ends when nothing is left or at its bound, its own ports' responses absorbed, and with
M's the host accesses and the borrows; a die whose lower dies all answer is OPEN again.
Readings and choices of this model it rests on: log 57, 58, 70, 125. -/
def Obligations.CrossingsLaneTestsAndFences : Prop :=
  ((∀ (s : State) (j : Fin 9) (o : Int),
     let least := s.f (F.VL_J_PHASE_MINMARGIN j.val)
     let m := 16 - o.natAbs
     ∃ t, exec (.vlPhaseWarn j o) s = .next t ∧ t.f (F.VL_J_PHASE_OFFSET j.val) = unsgn 8 o ∧
     t.f (F.VL_J_PHASE_MINMARGIN j.val) = (if s.unsampled.contains (Rg.VL_J_PHASE j.val) then m else min m least) ∧
     t.unsampled.contains (Rg.VL_J_PHASE j.val) = false ∧
     (m < 4 → t.b (F.VL_J_PHASE_WARN j.val) = true ∧ Raised Ev.VL_PHASE_WARN s t) ∧
     (4 ≤ m → OnlyRegs { s with unsampled := t.unsampled } t) ∧ RegsBut (Rg.VL_J_PHASE j.val :: noteRegs) s t ∧
     OnlyNotes { s with unsampled := t.unsampled, regs := t.regs } t) ∧
   (∀ (s : State) (j : Fin 9), (∃ t, exec (.vlFifoSlip j) s = .next t ∧ t.b (F.VL_J_PHASE_SLIP j.val) = true ∧
       t.f (F.VL_J_PHASE_MINMARGIN j.val) = 0 ∧ Raised Ev.VL_FIFO_SLIP s t ∧
       (t.f (F.VL_J_PHASE_OFFSET j.val) = unsgn 8 16 ∨ t.f (F.VL_J_PHASE_OFFSET j.val) = unsgn 8 (-16))) ∧
     (s.mayRestart → ∃ t, exec (.vlFifoSlip j) s = .next t ∧ Restarting 2 (if j.val ≤ 1 then 0x1FF else 0x1FE) s t)) ∧
   ∀ (s : State) (l : Fin 5) (again : Bool),
     let n := if again then mget 0 s.vl.retry l.val + 1 else 1
     (nbits s.vl.dead l.val 1 = 0 → ∃ t, exec (.vlRetry l again) s = .next t ∧ Raised Ev.VL_RETRY s t ∧
       mget 0 t.vl.retry l.val = n ∧ Counted (if l.val = 0 then F.VL_RETRY_BASE else F.VL_RETRY_CFG) s t ∧
       (n ≠ 16 → t.vl.dead = s.vl.dead ∧ t.ld = s.ld) ∧
       (n = 16 → nbits t.vl.dead l.val 1 = 1 ∧ Raised Ev.VL_RETRY_FAIL s t)) ∧
     (nbits s.vl.dead l.val 1 = 1 → exec (.vlRetry l again) s = .next s)) ∧
  ((∀ (s : State) (bad : List (Fin 9 × Nat × Nat)) (shaft : List (Fin 3 × Fin 256 × Nat)) (bond : List (Nat × Nat)),
     (s.b F.VL_TEST_RUNNING = true → ∃ t, exec (.powerUpLaneTest bad shaft bond) s = .next t ∧ t.b F.VL_TEST_RUNNING = false ∧
       t.b F.VL_TEST_DONE = true ∧
       t.f F.VL_TEST_FAILED = min 0xFFFF (bad.length + shaft.length + (bond.map (fun e => e.2)).sum)) ∧
     (s.b F.VL_TEST_RUNNING = false → exec (.powerUpLaneTest bad shaft bond) s = .next s)) ∧
   (∀ (s : State) (j : Fin 9) (g pos : Nat), s.b F.VL_TEST_RUNNING = true → mwf vlGroup0 s.vl.groups = true → vlExists j.val g = true →
     pos < 71 → ∃ t, exec (.powerUpLaneTest [(j, g, pos)] [] []) s = .next t ∧ (t.vlGroup j.val g).map = 128 + pos ∧
       (t.vlGroup j.val g).spares = 3 ∧ (t.vlGroup j.val g).corrs = (s.vlGroup j.val g).corrs ∧
       (t.vlGroup j.val g).failed = (s.vlGroup j.val g).failed ∧ Raised Ev.VL_LANETEST_FAIL s t) ∧
   (∀ (s : State) (die : Fin 9),
     (s.phase die.val = 1 → (s.drained die.val = true ∨ mget 0 s.mem.fenceAt die.val + 1967 ≤ s.tl.fc) →
       ∃ t, exec (.drainEnd die) s = .next t ∧ t.phase die.val = 2 ∧ mget 0 t.mem.drainEnd die.val = s.tl.fc ∧
         (∀ (ly : Fin 4) (p : Fin 32), layerDie ly.val = die.val → (t.port (portKey ly p)).reqs = []) ∧
         (die.val ≠ 0 → t.mem.words = s.mem.words) ∧ (die.val = 0 → t.mem.host = [] ∧ t.mem.borrow = [])) ∧
     (s.phase die.val ≠ 1 ∨ (s.drained die.val = false ∧ s.tl.fc < mget 0 s.mem.fenceAt die.val + 1967) →
       exec (.drainEnd die) s = .next s)) ∧
   ∀ (s : State) (die : Fin 9),
     (s.phase die.val = 3 → (∀ d, d < die.val → s.dieUp d = true) → ∃ t, exec (.vlFenceDone die) s = .next t ∧
       t.phase die.val = 0 ∧ Raised Ev.VL_FENCE_DONE s t ∧ ∀ d, d < 9 → d ≠ die.val → t.phase d = s.phase d) ∧
     (s.phase die.val ≠ 3 ∨ (∃ d, d < die.val ∧ s.dieUp d = false) → exec (.vlFenceDone die) s = .next s))

/-! ## Loading -/

/-- Loads start and are ended (R380, R381, R384 to R387): LOAD starts at HEADER with the source it names, unless one runs, which
CMDREJ reports; ABORT and a stage's bound of 2 s end it with their reasons; BOOT starts the list at FIRST, or slot 0 alone.
Readings and choices of this model it rests on: log 63, 65, 126. -/
def Obligations.LoadsStartAndAreEnded : Prop :=
  (∀ (s : State) (who : Who) (v : Word), s.stopAccess who Rg.CFG_CMD = none → nbits v.toNat 28 4 = 1 →
    (s.loading = true ∨ s.b F.CFG_FLCMD_BUSY = true → ∃ t, exec (.load who v) s = .next t ∧ t.reply = .done ∧
      t.b F.CFG_STATUS_CMDREJ = true ∧ t.ld = s.ld ∧ t.ldStage = s.ldStage ∧ OnlyRegs s t) ∧
    (s.loading = false → s.b F.CFG_FLCMD_BUSY = false → ∃ t, exec (.load who v) s = .next t ∧ t.reply = .done ∧
      t.ldStage = stHeader ∧ t.fab = s.fab ∧ t.seqs = s.seqs ∧
      t.ld = some (if nbits v.toNat 2 1 = 1
        then { Load.fresh false false (nbits v.toNat 0 2) (s.f F.CFG_HLEN_LEN / 4) [] with since := s.tl.fc }
        else { Load.fresh true false (nbits v.toNat 0 2) flashSlotWords [] with since := s.tl.fc }))) ∧
  (∀ (s : State) (l : Load), s.ld = some l → s.lastTry l → s.ldStage ≠ stCommit →
    (∀ who v, s.stopAccess who Rg.CFG_CMD = none → nbits v.toNat 28 4 = 2 →
      ∃ t, exec (.abort who v) s = .next t ∧ t.reply = .done ∧ Rejected rAborted s.ldStage l.pos s t) ∧
    (s.loading = true → s.stageLate = true → ∃ t, exec .stageTimeout s = .next t ∧ Rejected rTimeout s.ldStage l.pos s t)) ∧
  (∀ s : State, s.loading = false ∨ s.stageLate = false → exec .stageTimeout s = .next s) ∧
  (∀ (s : State) (l : Load), s.ld = some l → s.tl.running = true → (s.stageLate = true ↔ l.since + stageLimit ≤ s.tl.fc)) ∧
  ∀ s : State,
    (s.pwr.bootWait = true → s.pwr.stable = true → s.pwr.started = true → s.b F.VL_TEST_RUNNING = false → s.loading = false →
      (s.pwr.golden = false → s.f F.CFG_BOOT_BOOTSEL = 0 → ∃ t rest, exec .boot s = .next t ∧ t.ldStage = stHeader ∧
        t.ld = some { Load.fresh true true (s.f F.CFG_BOOT_FIRST) flashSlotWords rest with since := s.tl.fc } ∧ t.pwr.bootWait = false ∧
        Counted F.CFG_STATUS_ATTEMPTS s t) ∧
      (s.pwr.golden = true ∨ s.f F.CFG_BOOT_BOOTSEL = 1 → ∃ t, exec .boot s = .next t ∧ t.ldStage = stHeader ∧
        t.ld = some { Load.fresh true true 0 flashSlotWords [] with since := s.tl.fc } ∧ t.pwr.bootWait = false ∧ t.pwr.golden = false) ∧
      (s.pwr.golden = false → 2 ≤ s.f F.CFG_BOOT_BOOTSEL →
        exec .boot s = .next { s with pwr := { s.pwr with bootWait := false, golden := false } })) ∧
    (s.pwr.bootWait = false ∨ s.pwr.stable = false ∨ s.pwr.started = false ∨ s.b F.VL_TEST_RUNNING = true →
      exec .boot s = .next s)

/-- The header of a load from host memory (R369, R379, R381, Table 14-7): the first check that fails rejects the load with
its reason; a full image that passes tears the fabric down, ending no region's hold, and streams; a partial one streams and
leaves the fabric as it is.
Readings and choices of this model it rests on: log 63, 65. -/
def Obligations.HeadersAreChecked : Prop :=
  ∀ (s : State) (l : Load) (ws : List Word), s.ld = some l → s.ldStage = stHeader → l.flash = false → 7 ≤ l.cap → 7 ≤ ws.length →
    let kind := nbits (ws.getD 5 0).toNat 30 2
    (∀ e, s.headerFail l (ws.take 7) = some e → s.lastTry l → ∃ t, exec (.header (.words ws)) s = .next t ∧
      Rejected e.1 e.2.1 e.2.2 s t ∧ t.fab = s.fab) ∧
    ((ws.getD 0 0).toNat ≠ 0x4E415543 → s.headerFail l (ws.take 7) = some (rMagic, (ws.getD 0 0).toNat, 0)) ∧
    (s.headerFail l (ws.take 7) = none → kind < 2 ∧ ∃ t l', exec (.header (.words ws)) s = .next t ∧ t.ldStage = stStream ∧
      t.ld = some l' ∧ l'.pos = 7 ∧ l'.len = (ws.getD 4 0).toNat ∧ l'.keySlot = (ws.getD 6 0).toNat ∧
      (kind = 1 → l'.partl = true ∧ t.fab = s.fab ∧ t.seqs = s.seqs) ∧
      (kind = 0 → (∀ (ly : Fin 4) (j : Fin 8), (t.region ly j).heldAt = (s.region ly j).heldAt) ∧ l'.partl = false ∧ t.fab.torn = true ∧ t.fab.gsr = true ∧ t.b F.CFG_STATUS_DONE = false ∧
        t.b F.CFG_KEY_VALID = false ∧ Raised Ev.CFG_TEARDOWN s t ∧ (∀ k : Fin 4, (t.seq k).mode = .stopped) ∧
        ∀ (ly : Fin 4) (j : Fin 8) (p : Fin 4), (t.plane ly j p).st = .empty))

/-- Stream packets (R371 to R375, R381): a register write takes its word, a no-op is skipped, END reads on to the tag; a
block of one routing frame puts exactly its bytes into the stored slot once the tile's ports are free, a FILL zeros; a packet
out of form is recorded as BADPACKET and nothing else happens.
Readings and choices of this model it rests on: log 64, 110. -/
def Obligations.StreamPacketsTakeEffect : Prop :=
  ∀ (s : State) (l : Load) (hw : Word) (body : List Word), s.ld = some l → s.ldStage = stStream → l.flash = false → l.err = none →
    body.length = packetWords hw.toNat →
    let h := hw.toNat
    let ty := nbits h 28 4
    let cnt := nbits h 0 20
    let dg := (hw :: body).foldl Config.digestStep l.digest
    let r : SrcRead := .words (hw :: body)
    let w := (body.getD 0 0).toNat
    let far := l.far.getD 0
    let key := ckey (farLayer far) (farTile far) (farSlot far).val (routeOff (farKind far) (farMinor far))
    (l.packetBad h = true → ∀ i : Instr, (i = .registerWrite r ∧ ty = 1 ∨ i = .frameBlock r ∧ ty = 2 ∨ i = .noOp r ∧ ty = 3 ∨
        i = .fill r ∧ ty = 4 ∨ i = .endPacket r ∧ ty = 5) →
      exec i s = .next { s with ld := some { l with err := some (rBadpacket, h, l.pos), since := s.tl.fc } }) ∧
    (l.packetBad h = false →
      (ty = 1 → nbits h 20 8 = 2 →
        exec (.registerWrite r) s = .next { s with ld := some { l with far := some w, pos := l.pos + 2, digest := dg, since := s.tl.fc } }) ∧
      (ty = 1 → nbits h 20 8 = 6 →
        exec (.registerWrite r) s =
          .next { s with ld := some { l with opt := some (body.getD 0 0), pos := l.pos + 2, digest := dg, since := s.tl.fc } }) ∧
      (ty = 1 → nbits h 20 8 = 1 → ∃ l', exec (.registerWrite r) s = .next { s with ld := some l' } ∧ l'.pos = l.pos + 2 ∧
        (l'.err = none ↔ nbits w 0 28 = nbits (s.f F.CFG_IDCODE_IDCODE) 0 28)) ∧
      (ty = 3 → exec (.noOp r) s = .next { s with ld := some { l with pos := l.pos + 1 + cnt, digest := dg, since := s.tl.fc } }) ∧
      (ty = 5 → ∃ t, exec (.endPacket r) s = .next t ∧ t.ldStage = stVerify ∧
        t.ld = some { l with pos := l.len + 256, ended := true, digest := dg, since := s.tl.fc } ∧ t.fab = s.fab) ∧
      (l.partl = false → 1 ≤ farKind far → farKind far ≤ 4 → ∀ n, frameLen far = some (4 * n) →
        (∀ i : Instr, (i = .frameBlock r ∧ ty = 2 ∧ cnt = n ∨ i = .fill r ∧ ty = 4 ∧ cnt = 1) → s.tileFree (farLayer far) (farTile far) = false →
          exec i s = .next s) ∧
        (s.tileFree (farLayer far) (farTile far) = true →
          (∀ p, (s.plane (farLayer far) (s.tileRegion (farLayer far) (farTile far)) p).ask ≠ some (farSlot far)) →
          (ty = 2 → cnt = n → ∃ t l', exec (.frameBlock r) s = .next t ∧ t.ld = some l' ∧ l'.err = none ∧
          l'.far = some (frameNext far) ∧ l'.frames = far :: l.frames ∧ l'.pos = l.pos + 1 + cnt ∧
          t.reg Rg.CFG_FAR = BitVec.ofNat 32 far ∧ RegsBut [Rg.CFG_FAR] s t ∧
          (∀ a, mget 0 t.fab.slots a = if key ≤ a ∧ a < key + 4 * n
            then (body.flatMap (fun x => leBytes 4 x.toNat)).getD (a - key) 0 else mget 0 s.fab.slots a) ∧
          { t with fab := { t.fab with slots := s.fab.slots, slotErr := s.fab.slotErr, tileUse := s.fab.tileUse },
                   regs := s.regs, ld := s.ld } = s) ∧
          (ty = 4 → cnt = 1 → ∃ t l', exec (.fill r) s = .next t ∧ t.ld = some l' ∧ l'.err = none ∧
          l'.far = some (frameNext far) ∧ l'.frames = far :: l.frames ∧ l'.pos = l.pos + 1 ∧
          (∀ a, mget 0 t.fab.slots a = if key ≤ a ∧ a < key + 4 * n then 0 else mget 0 s.fab.slots a) ∧
          { t with fab := { t.fab with slots := s.fab.slots, slotErr := s.fab.slotErr, tileUse := s.fab.tileUse },
                   regs := s.regs, ld := s.ld } = s))))

/-- Verification, check and commit (R370, R377, R378, R381 to R383, R393): a failed key, signature or stream error rejects
the image and nothing commits; one that passes is checked, and its first failing row rejects it; a full image commits its
programs and maps with every sequencer stopped and set-reset due after its refills; a partial one commits in this fc, with or
without regional set-reset.
Readings and choices of this model it rests on: log 37, 63, 66. -/
def Obligations.ImagesAreVerifiedCheckedAndCommitted : Prop :=
  (∀ (s : State) (l : Load) (ws : List Word) (keyOk sigOk : Bool), s.ld = some l → s.ldStage = stVerify →
    (keyOk = false → s.lastTry l → ∃ t, exec (.verify (.words ws) keyOk sigOk) s = .next t ∧ Rejected rKeyhash 0 l.len s t ∧
      t.fab = s.fab) ∧
    (keyOk = true → sigOk = false → s.lastTry l → ∃ t, exec (.verify (.words ws) keyOk sigOk) s = .next t ∧
      Rejected rSignature 0 l.len s t ∧ t.fab = s.fab) ∧
    (∀ e, keyOk = true → sigOk = true → l.err = some e → s.lastTry l → ∃ t, exec (.verify (.words ws) keyOk sigOk) s = .next t ∧
      Rejected e.1 e.2.1 e.2.2 s t ∧ t.fab = s.fab) ∧
    (keyOk = true → sigOk = true → l.err = none → ∃ t, exec (.verify (.words ws) keyOk sigOk) s = .next t ∧
      t.ldStage = stCheck ∧ t.ld = some { l with since := s.tl.fc } ∧ OnlyRegs { s with ld := t.ld } t)) ∧
  ∀ (s : State) (l : Load), s.ld = some l → s.ldStage = stCheck →
    (∀ e, s.checkFail l = some e → s.lastTry l → ∃ t, exec (.check none) s = .next t ∧ Rejected e.1 e.2 0 s t ∧ t.fab = s.fab) ∧
    (s.checkFail l = none → l.partl = false → ∃ t, exec (.check none) s = .next t ∧ t.ldStage = stCommit ∧ t.ld = some { l with since := s.tl.fc } ∧
      t.fab.pgm = l.prog ∧ t.fab.io = l.io ∧ t.fab.coef = [] ∧ t.fab.relAt = some (s.tl.fc + 25) ∧ t.fab.gsr = s.fab.gsr ∧
      (∀ k : Fin 4, (t.seq k).mode = .stopped) ∧ t.rpl.image = l.digest ∧
      ∀ i, i < 32 → t.reg (Rg.CFG_RMAP (i / 8) (i % 8)) = (l.rmap.getD []).getD i 0) ∧
    (s.checkFail l = none → l.partl = true →
      let k : Fin 4 := Fin.ofNat 4 l.layer
      (l.setReset = false → ∃ t, exec (.check none) s = .next t ∧ t.ldStage = stDone ∧ t.ld = none ∧
        t.b F.CFG_STATUS_PARTIAL = true ∧ Raised Ev.CFG_LOAD_DONE s t ∧ t.fab.gsr = s.fab.gsr ∧
        t.fab.newSlots = s.fab.newSlots ++ s.written l) ∧
      (l.setReset = true → ∃ t, exec (.check none) s = .next t ∧ t.ldStage = stCommit ∧
        t.ld = some { l with comAt := s.fullTime, since := s.tl.fc } ∧ (t.region k (Fin.ofNat 8 l.region)).rsr = some (s.tl.fc + 1)))

/-- Flash operations (R388): an erase or program of an allowed range in one fitted device runs; one that is denied, out of range, or
asked for while another runs is refused and says why; when it has ended, exactly its bytes have changed.
Readings and choices of this model it rests on: log 61, 67. -/
def Obligations.FlashIsErasedAndProgrammed : Prop :=
  (∀ (s : State) (who : Who) (v : Word), s.stopAccess who Rg.CFG_FLCMD = none →
    let a := s.f F.CFG_FLADDR_ADDR
    (nbits v.toNat 28 4 = 1 →
      (s.b F.CFG_FLCMD_BUSY = true → ∃ t, exec (.erase who v) s = .next t ∧ t.reply = .done ∧ t.fl = s.fl ∧
        t.b F.CFG_STATUS_CMDREJ = true ∧ OnlyRegs s t) ∧
      (s.b F.CFG_FLCMD_BUSY = false → s.flashDenied a = true → ∃ t, exec (.erase who v) s = .next t ∧ t.reply = .done ∧
        t.f F.CFG_FLCMD_FLERR = 1 ∧ OnlyRegs s t) ∧
      (s.b F.CFG_FLCMD_BUSY = false → s.flashDenied a = false → (a % 65536 ≠ 0 ∨ s.fitted a 65536 = false) →
        ∃ t, exec (.erase who v) s = .next t ∧ t.f F.CFG_FLCMD_FLERR = 2 ∧ OnlyRegs s t) ∧
      (s.b F.CFG_FLCMD_BUSY = false → s.flashDenied a = false → a % 65536 = 0 → s.fitted a 65536 = true →
        ∃ t, exec (.erase who v) s = .next t ∧ t.reply = .done ∧ t.b F.CFG_FLCMD_BUSY = true ∧ t.f F.CFG_FLCMD_FLERR = 0 ∧
          t.fl = some { addr := a, data := some (List.replicate 65536 0xFF) } ∧ t.board = s.board)) ∧
    (nbits v.toNat 28 4 = 2 → ∀ d : List Byte,
      let n := s.f F.CFG_HLEN_LEN
      d.length = n → s.b F.CFG_FLCMD_BUSY = false → s.flashDenied a = false →
      (n % 256 = 0 → 256 ≤ n → a % 256 = 0 → a % 65536 + n ≤ 65536 → s.fitted a n = true →
        ∃ t, exec (.program who v (some d)) s = .next t ∧ t.reply = .done ∧ t.b F.CFG_FLCMD_BUSY = true ∧
          t.fl = some { addr := a, data := some d } ∧ t.board = s.board) ∧
      (n % 256 ≠ 0 ∨ n = 0 ∨ a % 256 ≠ 0 ∨ 65536 < a % 65536 + n ∨ s.fitted a n = false →
        ∃ t, exec (.program who v (some d)) s = .next t ∧ t.f F.CFG_FLCMD_FLERR = 2 ∧ OnlyRegs s t))) ∧
  ∀ (s : State) (j : FlashJob), s.fl = some j →
    (∀ ok, ∃ t, exec (.cfgFlashDone ok) s = .next t ∧ t.fl = none ∧ t.b F.CFG_FLCMD_BUSY = false ∧ t.b F.CFG_FLCMD_FLDONE = true ∧
      Raised Ev.CFG_FLASH_DONE s t ∧
      (∀ d, j.data = some d → ok = true → t.f F.CFG_FLCMD_FLERR = s.f F.CFG_FLCMD_FLERR ∧
        ∀ x, t.flashByte x = if j.addr ≤ x ∧ x < j.addr + d.length then d.getD (x - j.addr) 0xFF else s.flashByte x) ∧
      (∀ d, j.data = some d → ok = false → t.f F.CFG_FLCMD_FLERR = 3 ∧ Raised Ev.XSPI_ERR s t ∧
        ∀ x, x < j.addr ∨ j.addr + d.length ≤ x → t.flashByte x = s.flashByte x) ∧
      (j.data = none → t.f F.CFG_FLCMD_FLERR = 3 ∧ t.board = s.board))

/-! ## Readback, restore, capture -/

/-- Readback and restore (R396 to R401): READ runs over its frames unless one runs, none is asked for, or a DEPLOYED part
keeps its contents; each frame's record, its header before its bytes, goes to host memory once its ports are free; an address
that is no frame or a die that is down ends it with the error; RESTORE in replay writes the flops a record gives.
The host's capture arm (R402, R403): ARM is taken for a target ahead in the running epoch whose store is free, else refused;
in its fc it asks for the capture, or is missed where the store is held; DISARM takes it back; a release frees exactly the
stores named.
Readings and choices of this model it rests on: log 44, 68, 69. -/
def Obligations.FramesAreReadBackAndCaptured : Prop :=
  ((∀ (s : State) (who : Who) (v : Word), s.stopAccess who Rg.CFG_RBCMD = none →
     let far := s.f F.CFG_RBFAR_FAR
     (nbits v.toNat 28 4 = 1 →
       (s.b F.CFG_RBSTAT_BUSY = true → ∃ t, exec (.read who v) s = .next t ∧ t.reply = .done ∧ t.rb = s.rb ∧
         t.b F.CFG_RBSTAT_CMDREJ = true ∧ OnlyRegs s t) ∧
       (s.b F.CFG_RBSTAT_BUSY = false → s.f F.CFG_RBCOUNT_COUNT ≠ 0 →
         (farKind far ≠ 7 → s.fuse.lcs = 2 → ∃ t, exec (.read who v) s = .next t ∧ t.rb = none ∧ t.f F.CFG_RBSTAT_ERR = 1 ∧
           t.b F.CFG_RBSTAT_DONE = true ∧ t.b F.CFG_RBSTAT_BUSY = false ∧ Raised Ev.CFG_RB_ERR s t) ∧
         (farKind far = 7 ∨ s.fuse.lcs ≠ 2 → ∃ t, exec (.read who v) s = .next t ∧ t.reply = .done ∧
           t.b F.CFG_RBSTAT_BUSY = true ∧ t.f F.CFG_RBSTAT_FRAMES = 0 ∧
           t.rb = some { far := far, left := s.f F.CFG_RBCOUNT_COUNT, addr := s.rbAddr } ∧ t.fab = s.fab ∧ t.out = s.out))) ∧
     (nbits v.toNat 28 4 = 3 →
       (s.b F.CFG_RBSTAT_BUSY = true → ∃ t, exec (.readbackAbort who v) s = .next t ∧ t.rb = none ∧ t.f F.CFG_RBSTAT_ERR = 4 ∧
         t.b F.CFG_RBSTAT_BUSY = false ∧ t.b F.CFG_RBSTAT_DONE = true ∧ Raised Ev.CFG_RB_ERR s t) ∧
       (s.b F.CFG_RBSTAT_BUSY = false → ∃ t, exec (.readbackAbort who v) s = .next t ∧ t.rb = s.rb ∧ OnlyRegs s t)) ∧
     (nbits v.toNat 28 4 = 2 → s.b F.CFG_RBSTAT_BUSY = false → ∀ r : HostRead,
       (s.f F.CFG_RBCOUNT_COUNT ≠ 0 → (s.f F.RPL_STAT_MODE < 2 ∨ (s.seq (farLayer far)).mode ≠ .stopped) →
         ∃ t, exec (.restore who v r) s = .next t ∧ t.f F.CFG_RBSTAT_ERR = 1 ∧ t.fab = s.fab ∧ Raised Ev.CFG_RB_ERR s t) ∧
       (s.f F.CFG_RBCOUNT_COUNT = 1 → 2 ≤ s.f F.RPL_STAT_MODE → (s.seq (farLayer far)).mode = .stopped → farKind far = 7 →
         farMinor far = 0 → (farSlot far).val = 0 → r.bytes.length = 144 → r.poisoned = [] → leNat (r.bytes.take 4) = far →
         ∃ t, exec (.restore who v r) s = .next t ∧ t.reply = .done ∧ t.b F.CFG_RBSTAT_BUSY = true ∧
           t.f F.CFG_RBSTAT_FRAMES = 1 ∧ t.rb = some { far := rbNext far, left := 0, addr := 0 } ∧
           { t with fab := { t.fab with flops := s.fab.flops }, regs := s.regs, nvs := s.nvs, reply := s.reply, rb := s.rb } = s ∧
           ∀ row, row < 64 →
             mget 0 t.fab.flops (2 ^ 18 * (farLayer far).val + 4096 * (farTile far).val + tineOff (farCol far) row / 128) =
               BitVec.ofNat 16 (leNat ((r.bytes.drop (16 + 2 * row)).take 2))))) ∧
   (∀ s : State, s.rb = none → (∀ errs, exec (.readbackFrame errs) s = .next s) ∧ exec .cfgRbDone s = .next s) ∧
   ∀ (s : State) (r : Readback), s.rb = some r →
     (r.left = 0 → (∀ errs, exec (.readbackFrame errs) s = .next s) ∧ ∃ t, exec .cfgRbDone s = .next t ∧ t.rb = none ∧
       t.f F.CFG_RBSTAT_ERR = 0 ∧ t.b F.CFG_RBSTAT_DONE = true ∧ t.b F.CFG_RBSTAT_BUSY = false ∧ Raised Ev.CFG_RB_DONE s t) ∧
     (r.left ≠ 0 → ∀ errs,
       exec .cfgRbDone s = .next s ∧
       (rbLen r.far = none → ∃ t, exec (.readbackFrame errs) s = .next t ∧ t.rb = none ∧ t.f F.CFG_RBSTAT_ERR = 2) ∧
       (rbLen r.far ≠ none → s.pathUp r.far = false → ∃ t, exec (.readbackFrame errs) s = .next t ∧ t.rb = none ∧
         t.f F.CFG_RBSTAT_ERR = 4) ∧
       (rbLen r.far ≠ none → s.pathUp r.far = true → s.frameReady r.far = false → exec (.readbackFrame errs) s = .next s) ∧
       (∀ n, rbLen r.far = some n → s.pathUp r.far = true → s.frameReady r.far = true →
         ∃ t rec, exec (.readbackFrame errs) s = .next t ∧ t.out = .hostWrite r.addr rec false :: s.out ∧
           t.rb = some { far := rbNext r.far, left := r.left - 1, addr := r.addr + rec.length } ∧
           rec.length = 16 + (n + 15) / 16 * 16 ∧ leNat (rec.take 4) = r.far ∧ Counted F.CFG_RBSTAT_FRAMES s t ∧
           (1 ≤ farKind r.far → farKind r.far ≤ 4 → mwf 0 s.fab.slots = true → (∀ e ∈ errs, e.2.wrong = 0) → ∀ i, i < n →
             rec.getD (16 + i) 0 = mget 0 s.fab.slots (ckey (farLayer r.far) (farTile r.far) (farSlot r.far).val
               (routeOff (farKind r.far) (farMinor r.far)) + i))))) ∧
  ((∀ (s : State) (who : Who) (v : Word), s.stopAccess who Rg.CFG_CAPCTL = none →
     let ly : Fin 4 := Fin.ofNat 4 (nbits v.toNat 28 2)
     let d := distance s.capTarget s.progTime
     (v.getLsbD 31 = true → v.getLsbD 30 = false → nbits v.toNat 0 4 = 0 →
       (s.tl.released = true → s.arm = none → s.capTarget % 2 ^ 34 < L → 1 ≤ d → d ≤ (L : Int) → (s.layer ly).cap = none →
         ∃ t, exec (.arm who v) s = .next t ∧ t.reply = .done ∧ t.b F.CFG_CAPSTAT_ARMED = true ∧
           t.arm = some { layer := ly, region := Fin.ofNat 8 (nbits v.toNat 25 3), horn := nbits v.toNat 24 1 == 1,
                          due := s.tl.fc + d.toNat } ∧ t.fab = s.fab) ∧
       (s.tl.released = false ∨ s.arm.isSome = true ∨ L ≤ s.capTarget % 2 ^ 34 ∨ d < 1 ∨ (L : Int) < d ∨
           (s.layer ly).cap.isSome = true →
         ∃ t, exec (.arm who v) s = .next t ∧ t.b F.CFG_CAPSTAT_ARMERR = true ∧ t.arm = s.arm ∧ OnlyRegs s t)) ∧
     (v.getLsbD 31 = false → v.getLsbD 30 = true → nbits v.toNat 0 4 = 0 → ∃ t, exec (.disarm who v) s = .next t ∧
       t.reply = .done ∧ t.arm = none ∧ t.b F.CFG_CAPSTAT_ARMED = false ∧ t.fab = s.fab) ∧
     (v.getLsbD 31 = false → v.getLsbD 30 = false → nbits v.toNat 0 4 ≠ 0 → ∃ t, exec (.captureRelease who v) s = .next t ∧
       t.reply = .done ∧ t.arm = s.arm ∧ ∀ k : Fin 4,
         (t.layer k).cap = (if nbits v.toNat k.val 1 = 1 then none else (s.layer k).cap) ∧
         { t.layer k with cap := none } = { s.layer k with cap := none } ∧
         nbits (t.f F.CFG_CAPSTAT_HELD) k.val 1 = if nbits v.toNat k.val 1 = 1 then 0 else nbits (s.f F.CFG_CAPSTAT_HELD) k.val 1)) ∧
   ∀ s : State, (s.arm = none → exec .armTarget s = .next s) ∧
     ∀ a, s.arm = some a →
       (s.tl.fc < a.due → exec .armTarget s = .next s) ∧
       (a.due ≤ s.tl.fc → ∃ t, exec .armTarget s = .next t ∧ t.arm = none ∧ t.b F.CFG_CAPSTAT_ARMED = false ∧
         (s.regionTiles a.layer a.region ≠ [] → (s.layer a.layer).cap = none → (s.layer a.layer).capReq = none →
           (t.layer a.layer).capReq = some { region := a.region, horn := a.horn, host := true } ∧
           ∀ k, k ≠ a.layer → t.layer k = s.layer k) ∧
         (s.regionTiles a.layer a.region ≠ [] → (s.layer a.layer).cap.isSome = true →
           t.b F.CFG_CAPSTAT_MISSED = true ∧ t.fab = s.fab)))

/-! ## Clocks -/

/-- Clocks trip, fall back, ramp and return (R407 to R412, R414 to R416, Table 16-6): a tripped oscillator's bit falls and is
reported; the domains a tripped loop feeds move to FOSC divided by 16 times their ratio, or stop where it is not ready, the
air-time family as one, AT degraded, and the domain's interface goes quiet: the PCIe link down, LPDDR6 in self-refresh;
FOSC's readiness starts stopped domains, its absence moves them to SOSC; a source that is good reads so, FOSC too being good
only once its monitor has passed; a ramp step halves
the ratio down to its target; PRIMARY is taken where the domain is steady and its source good, and refused elsewhere.
Gates (R417 to R420): a bit written 1 opens its gate, a bit written 0 asks for it to close, unless the block's work forbids
it, which CLK_GATEERR shows; a waiting gate closes when its block is idle, or is forced and reported.
Readings and choices of this model it rests on: log 31, 79, 122. -/
def Obligations.ClocksFallBackAndGatesClose : Prop :=
  ((∀ s : State,
     (∃ t, exec (.clkTrip .sosc) s = .next t ∧ t.b F.CLK_OSCSTAT_SOSCOK = false ∧ Raised Ev.CLK_OSC_FAIL s t ∧ t.mem = s.mem) ∧
     (∃ t, exec (.clkTrip .xi1) s = .next t ∧ t.b F.CLK_OSCSTAT_XI1OK = false ∧ Raised Ev.CLK_OSC_FAIL s t ∧ t.mem = s.mem) ∧
     (∃ t, exec (.clkTrip .fosc) s = .next t ∧ t.b F.CLK_OSCSTAT_FOSCRDY = false ∧ t.pwr.foscGood = false ∧ Raised Ev.CLK_FOSC_RESTART s t ∧
       Counted F.CLK_OSCSTAT_FOSCRST s t ∧ t.mem = s.mem ∧
       ∀ d ∈ [23, 24], s.f (F.CLK_DOM_SRC d) = srcPrimary →
         t.b (F.CLK_DOM_TRIPPED d) = true ∧ t.f (F.CLK_DOM_SRC d) = srcStopped) ∧
     ∀ i : Fin 7, i ≠ 6 → ∃ t, exec (.clkTrip (.loop i)) s = .next t ∧ t.b (loopFld i.val 0) = false ∧
       t.b (loopFld i.val 2) = false ∧ t.mem = s.mem ∧ t.seqs = s.seqs ∧
       (∀ d, (if i.val = 1 ∨ i.val = 2 then s.f (F.CLK_DOM_SRC 20) = srcPrimary ∧ d ∈ family else loopOf d = some i.val) →
         s.f (F.CLK_DOM_SRC d) = srcPrimary → t.b (F.CLK_DOM_TRIPPED d) = true ∧
           (s.b F.CLK_OSCSTAT_FOSCRDY = true → t.f (F.CLK_DOM_SRC d) = srcFallback ∧ t.b (F.CLK_DOM_RAMP d) = true ∧
             t.f (F.CLK_DOM_DIV d) = 16 * (fallbackClk d).2) ∧
           (s.b F.CLK_OSCSTAT_FOSCRDY = false → t.f (F.CLK_DOM_SRC d) = srcStopped)) ∧
       (i.val = 1 ∨ i.val = 2 → s.f (F.CLK_DOM_SRC 20) = srcPrimary → t.b F.TL_STATUS_DEGRADED = true ∧
         (s.b F.TL_STATUS_DEGRADED = false → Raised Ev.AT_DEGRADED s t)) ∧
       (∀ n < s.dramChannels, n < 8 → i.val = 3 → s.f (F.CLK_DOM_SRC 15) = srcPrimary → t.b (F.DDR_CH_STAT_SELFREF n) = true)) ∧
   (∀ s : State, s.f (F.CLK_DOM_SRC 14) = srcPrimary → ∃ t, exec (.clkTrip .phy) s = .next t ∧ t.pwr.phyGood = false ∧
     t.pcieUp = false ∧ t.b (F.CLK_DOM_TRIPPED 14) = true ∧ t.mem = s.mem ∧ (s.pcieUp = true → Raised Ev.PCIE_LINK_DOWN s t)) ∧
   (∀ s : State,
     (s.b F.CLK_OSCSTAT_FOSCRDY = false → ∃ t, exec .foscReady s = .next t ∧ t.b F.CLK_OSCSTAT_FOSCRDY = true ∧
       t.pwr.fosc = true ∧ OnlyRegs { s with pwr := t.pwr } t ∧ ∀ d ∈ domains,
         (s.f (F.CLK_DOM_SRC d) ≠ srcStopped → t.reg (Rg.CLK_DOM d) = s.reg (Rg.CLK_DOM d)) ∧
         (s.f (F.CLK_DOM_SRC d) = srcStopped → t.b (F.CLK_DOM_RAMP d) = true ∧ t.f (F.CLK_DOM_SRC d) =
           if s.pwr.fosc = false then srcBoot else if d = 23 ∨ d = 24 then srcPrimary else srcFallback)) ∧
     (s.b F.CLK_OSCSTAT_FOSCRDY = true → exec .foscReady s = .next s) ∧
     (s.b F.CLK_OSCSTAT_FOSCRDY = false → s.pwr.fosc = true → ∃ t, exec .clkDegraded s = .next t ∧ ∀ d ∈ domains,
       (s.f (F.CLK_DOM_SRC d) = srcStopped → t.f (F.CLK_DOM_SRC d) = srcDegraded) ∧
       (s.f (F.CLK_DOM_SRC d) ≠ srcStopped → t.reg (Rg.CLK_DOM d) = s.reg (Rg.CLK_DOM d))) ∧
     (s.b F.CLK_OSCSTAT_FOSCRDY = true ∨ s.pwr.fosc = false → exec .clkDegraded s = .next s)) ∧
   (∀ s : State,
     (∃ t, exec (.sourceGood .sosc) s = .next t ∧ t.b F.CLK_OSCSTAT_SOSCOK = true ∧ OnlyRegs s t ∧ RegsBut [Rg.CLK_OSCSTAT] s t) ∧
     (∃ t, exec (.sourceGood .xi1) s = .next t ∧ t.b F.CLK_OSCSTAT_XI1OK = true ∧ OnlyRegs s t ∧ RegsBut [Rg.CLK_OSCSTAT] s t) ∧
     (exec (.sourceGood .phy) s = .next { s with pwr := { s.pwr with phyGood := true } }) ∧
     (s.b F.CLK_OSCSTAT_FOSCRDY = true → exec (.sourceGood .fosc) s = .next { s with pwr := { s.pwr with foscGood := true } }) ∧
     (s.b F.CLK_OSCSTAT_FOSCRDY = false → exec (.sourceGood .fosc) s = .next s) ∧
     ∀ i : Fin 7,
       (i.val ≠ 1 ∨ s.pwr.started = true ∨ s.b (loopFld 6 2) = true → ∃ t, exec (.sourceGood (.loop i)) s = .next t ∧
         t.b (loopFld i.val 0) = true ∧ t.b (loopFld i.val 2) = true ∧ OnlyRegs s t ∧ RegsBut [Rg.CLK_PLLSTAT] s t) ∧
       (i.val = 1 → s.pwr.started = false → s.b (loopFld 6 2) = false → exec (.sourceGood (.loop i)) s = .next s)) ∧
   (∀ (s : State) (d : Fin 26),
     let h := s.f (F.CLK_DOM_DIV d.val) / 2
     let target := (s.clkNow d.val).2
     (s.b (F.CLK_DOM_RAMP d.val) = true → ∃ t, exec (.dividerRampStep d) s = .next t ∧
       t.f (F.CLK_DOM_DIV d.val) = max h target ∧ t.f (F.CLK_DOM_SRC d.val) = s.f (F.CLK_DOM_SRC d.val) ∧
       (t.b (F.CLK_DOM_RAMP d.val) = true ↔ target < h) ∧ OnlyRegs s t ∧ RegsBut [Rg.CLK_DOM d.val] s t) ∧
     (s.b (F.CLK_DOM_RAMP d.val) = false → exec (.dividerRampStep d) s = .next s)) ∧
   ∀ (s : State) (who : Who) (d : Fin 26) (v : Word), d ≠ 0 → s.stopAccess who (Rg.CLK_DOM d.val) = none → v.getLsbD 31 = true →
     (s.b (F.CLK_DOM_RAMP d.val) = false → s.primaryGood d.val = true → ∃ t, exec (.primary who d v) s = .next t ∧ t.reply = .done ∧
       t.f (F.CLK_DOM_SRC d.val) = srcPrimary ∧ t.mem = s.mem ∧ t.fab = s.fab ∧
       (d.val ∈ family → t.b F.TL_STATUS_DEGRADED = false ∧ ∀ x ∈ family, t.f (F.CLK_DOM_SRC x) = srcPrimary) ∧
       (d.val ∉ family → s.f (F.CLK_DOM_SRC d.val) ≠ srcPrimary → Raised Ev.CLK_RETURNED s t)) ∧
     (s.b (F.CLK_DOM_RAMP d.val) = true ∨ s.primaryGood d.val = false → ∃ t, exec (.primary who d v) s = .next t ∧
       t.reply = .done ∧ t.b (F.CLK_DOM_RETREJ d.val) = true ∧ t.f (F.CLK_DOM_SRC d.val) = s.f (F.CLK_DOM_SRC d.val) ∧
       OnlyRegs s t ∧ RegsBut [Rg.CLK_DOM d.val] s t)) ∧
  ((∀ (s : State) (who : Who) (r : Fin 2) (v : Word) (i : Instr), i = .gateOpen who r v ∨ i = .gateRequest who r v →
     s.stopAccess who (if r = 0 then Rg.CLK_GATE0 else Rg.CLK_GATE1) = none → ∃ t, exec i s = .next t ∧ t.reply = .done ∧
       t.mem = s.mem ∧ t.fab = s.fab ∧ t.seqs = s.seqs ∧ ∀ b ∈ gatesOf r,
         (v.getLsbD (b % 32) = true → t.b (gateBit b) = true ∧ t.b (gateStat b) = true) ∧
         (v.getLsbD (b % 32) = false → t.b (gateStat b) = s.b (gateStat b) ∧
           (t.b (gateBit b) = true ↔ s.b (gateBit b) = true ∧ s.gateRefused b = true))) ∧
   ∀ (s : State) (bit : Fin 64),
     (s.gatePending bit.val = true →
       (∃ t, exec (.gateClose bit) s = .next t ∧ t.b (gateStat bit.val) = false ∧ OnlyRegs s t ∧
         RegsBut [(gateStat bit.val).off] s t) ∧
       ∃ t, exec (.clkGateForced bit) s = .next t ∧ t.b (gateStat bit.val) = false ∧ t.b F.CLK_GATEERR_VALID = true ∧
         t.f F.CLK_GATEERR_BIT = bit.val ∧ Raised Ev.CLK_GATE_FORCED s t ∧ OnlyNotes s t ∧
         RegsBut ((gateStat bit.val).off :: Rg.CLK_GATEERR :: noteRegs) s t) ∧
     (s.gatePending bit.val = false → exec (.gateClose bit) s = .next s ∧ exec (.clkGateForced bit) s = .next s))

/-! ## Temperature and calibration -/

/-- Sensors, bands, gradients and the return from a trip (R423 to R426, R430 to R432, R434): a sample keeps what each sensor read; a
sound reading shows, and a second bad sample in succession breaks the sensor; a band moves by U and D of two samples; a spread
that has held for 1 s is reported once; RESTART with every die cool clears LATCHED and, once every die is held, restarts.
Readings and choices of this model it rests on: log 72, 73. -/
def Obligations.SensorsMoveBandsAndTrips : Prop :=
  (∀ (s : State) (l : List (Fin 62 × Option Int)), ∃ t, exec (.sensorSample l) s = .next t ∧
    ∀ (x : Fin 62) (v : Int), l.find? (fun e => e.1.val == x.val) = some (x, some v) → s.sampled x.val = true →
      s.b (brokenOf x.val) = false → (t.sensor x.val).prev = some v ∧ (t.sensor x.val).bad = sampleBad s l x.val ∧
        (t.sensor x.val).seen = ((s.sensor x.val).seen || !sampleBad s l x.val)) ∧
  (∀ (s : State) (l : List (Fin 62 × Option Int)) (x : Fin 62) (v : Int),
    l.find? (fun e => e.1.val == x.val) = some (x, some v) → s.sampled x.val = true → s.b (brokenOf x.val) = false →
    (sampleBad s l x.val = false → s.b (staleOf x.val) = false →
      (State.sampleOne s l s x.val).f (tempOf x.val) = unsgn 16 v) ∧
    (sampleBad s l x.val = true → (s.sensor x.val).bad = true →
      (State.sampleOne s l s x.val).b (brokenOf x.val) = true ∧ (State.sampleOne s l s x.val).f (tempOf x.val) = 0x25C0 ∧
      Raised Ev.THERM_SENSOR_BROKEN s (State.sampleOne s l s x.val))) ∧
  (∀ (s : State) (die : Nat) (v : Int) (p : Nat × Nat), mfind s.thm.prev die = some p →
    (∀ x ∈ dieSensors die, s.b (brokenOf x) = false) → dieSensors die ≠ [] →
    (s.band die < bandAt v → s.band die < p.1 → s.nextBand die (some v) = min (bandAt v) p.1) ∧
    (bandAt (v + 192) < s.band die → p.2 < s.band die → s.nextBand die (some v) = max (bandAt (v + 192)) p.2) ∧
    ((bandAt v ≤ s.band die ∨ p.1 ≤ s.band die) → (s.band die ≤ bandAt (v + 192) ∨ s.band die ≤ p.2) →
      s.nextBand die (some v) = s.band die)) ∧
  (∀ (s : State) (n : Fin 4),
    (mget 0 s.thm.grad n.val = secondSamples → ∃ t, exec (.thermGradient n) s = .next t ∧ Raised Ev.THERM_GRADIENT s t ∧
      mget 0 t.thm.grad n.val = secondSamples + 1 ∧ t.mem = s.mem ∧ t.fab = s.fab ∧ RegsBut noteRegs s t) ∧
    (mget 0 s.thm.grad n.val ≠ secondSamples → exec (.thermGradient n) s = .next s)) ∧
  ∀ (s : State) (who : Who) (v : Word), s.stopAccess who Rg.THERM_CTL = none →
    (v.getLsbD 30 = true → s.b F.THERM_STAT_TRIPPED = true → s.allCool = true →
      (s.tripHeld = false → ∃ t, exec (.restart who v) s = .next t ∧ t.reply = .done ∧ t.b F.THERM_STAT_LATCHED = false ∧
        t.b F.THERM_STAT_TRIPPED = true ∧ OnlyRegs s t) ∧
      (s.tripHeld = true → s.b F.CFG_KEY_VALID = true → s.pwr.loadAfter = false → s.ld = none →
        ∃ t, exec (.restart who v) s = .next t ∧ t.reply = .done ∧ t.b F.THERM_STAT_LATCHED = false ∧
          t.b F.THERM_STAT_TRIPPED = false ∧ t.fab.gsr = true ∧ t.pwr.restart = some byTripEnd ∧ t.pwr.held = 0 ∧
          Raised Ev.FAB_RESTART s t ∧ ∀ k : Fin 4, (t.seq k).mode = .stopped)) ∧
    (v.getLsbD 30 = false ∨ s.b F.THERM_STAT_TRIPPED = false ∨ s.allCool = false → ∃ t, exec (.restart who v) s = .next t ∧
      t.reply = .done ∧ OnlyRegs s t ∧ RegsBut [Rg.THERM_CTL] s t)

/-- Calibrations (R459, R461, R469 to R476): a request starts a lane's adaptation, or waits as a die's sensor run for idle
dies, M's quiet for 1 ms, and is refused while one runs; a run loads the preset set of
B's band (R427, R429), holds its readings from its start and gives its figures and its count at its end; channels train, take their refresh rates, and retrain one by one in ascending order.
Readings and choices of this model it rests on: log 74, 132. -/
def Obligations.CalibrationsRunAndReport : Prop :=
  (∀ (s : State) (who : Who) (p : Fin 32) (v : Word), s.stopAccess who (Rg.SDS_LANE_CAL p.val) = none → v.getLsbD 31 = true →
    ∃ t, exec (.adaptationRequest who p v) s = .next t ∧ t.reply = .done ∧ t.b (F.SDS_LANE_CAL_BUSY p.val) = true ∧
      RegsBut [Rg.SDS_LANE_CAL p.val, Rg.SDS_LANE_EYE p.val] s t ∧ OnlyRegs { s with thm := t.thm } t ∧
      (s.b (F.SDS_LANE_CAL_BUSY p.val) = true → t.b (F.SDS_LANE_CAL_CMDREJ p.val) = true ∧ t.thm = s.thm) ∧
      (s.b (F.SDS_LANE_CAL_BUSY p.val) = false → t.b (F.SDS_LANE_EYE_STALE p.val) = true ∧
        mfind t.thm.ref p.val = some (s.tempAt 0, false) ∧ t.lanePreset p.val = (if s.band 0 = 0 then 0 else if s.band 0 = 1 then 1 else 2) ∧
        ∀ x, x ≠ p.val → t.lanePreset x = s.lanePreset x)) ∧
  (∀ (s : State) (p : Fin 32) (width : BitVec 7) (height : BitVec 10),
    let low : Bool := decide (width.toNat < s.f F.SDS_CALCFG_MINW ∨ height.toNat < s.f F.SDS_CALCFG_MINH)
    let eye (t : State) : Prop := t.f (F.SDS_LANE_EYE_WIDTH p.val) = width.toNat ∧
      t.f (F.SDS_LANE_EYE_HEIGHT p.val) = height.toNat ∧ t.b (F.SDS_LANE_EYE_VALID p.val) = true
    (s.b (F.SDS_LANE_CAL_BUSY p.val) = true → exec (.eyeUpdate p width height) s = .next s ∧
      ∃ t, exec (.adaptationRun p width height) s = .next t ∧ eye t ∧ t.b (F.SDS_LANE_CAL_BUSY p.val) = false ∧
        t.b (F.SDS_LANE_EYE_STALE p.val) = false ∧ Counted (F.SDS_LANE_CAL_COUNT p.val) s t ∧ OnlyNotes s t ∧
        (low = true → Raised Ev.SDS_EYE_LOW s t) ∧ (width = 0 → Raised Ev.SDS_ADAPT_FAIL s t)) ∧
    (s.b (F.SDS_LANE_CAL_BUSY p.val) = false → exec (.adaptationRun p width height) s = .next s ∧
      ∃ t, exec (.eyeUpdate p width height) s = .next t ∧ eye t ∧ OnlyRegs s t ∧ RegsBut [Rg.SDS_LANE_EYE p.val] s t)) ∧
  (∀ (s : State) (who : Who) (v : Word), s.stopAccess who Rg.THERM_CALCTL = none →
    ∃ t, exec (.sensorRunRequest who v) s = .next t ∧ t.reply = .done ∧ OnlyRegs s t ∧ RegsBut [Rg.THERM_CALCTL] s t ∧
      ∀ i : Fin 10,
        (t.b ⟨Rg.THERM_CALCTL, 16 + i.val, 1⟩ = true ↔ s.b ⟨Rg.THERM_CALCTL, 16 + i.val, 1⟩ = true ∨
          (v.getLsbD i.val = true ∧ s.b (F.THERM_CAL_CNT_BUSY i.val) = false)) ∧
        (v.getLsbD i.val = true → s.b (F.THERM_CAL_CNT_BUSY i.val) = true → t.b F.THERM_CALCTL_CMDREJ = true)) ∧
  (∀ (s : State) (quiet : Bool), s.mem.reqAt ≠ 0 →
    (s.tl.fc < s.mem.reqAt + 983040 → s.dieIdle quiet 1 = false) ∧ (s.mem.reqAt + 983040 < s.tl.fc → s.dieIdle quiet 1 = true)) ∧
  (∀ (s : State) (die : Fin 10) (quiet : Bool),
    let i := die.val
    let waits : Fld := ⟨Rg.THERM_CALCTL, 16 + i, 1⟩
    (s.b waits = true → s.b (F.THERM_CAL_CNT_BUSY i) = false → s.diePowered i = true →
      (i = 0 ∨ s.dieIdle quiet i = true) → 16 ≤ s.idleSensors quiet → ∃ t, exec (.sensorRunStart die quiet) s = .next t ∧
        t.b waits = false ∧ t.b (F.THERM_CAL_CNT_BUSY i) = true ∧ OnlyRegs { s with thm := t.thm } t ∧
        ∀ x ∈ dieSensors i, s.b (brokenOf x) = false → t.b (staleOf x) = true ∧ t.f (tempOf x) = s.f (tempOf x)) ∧
    (s.b waits = false ∨ s.b (F.THERM_CAL_CNT_BUSY i) = true ∨ s.idleSensors quiet < 16 →
      exec (.sensorRunStart die quiet) s = .next s) ∧
    (s.b (F.THERM_CAL_CNT_BUSY i) = true → ∀ done, ∃ t, exec (.sensorRun die done []) s = .next t ∧
      t.b (F.THERM_CAL_CNT_BUSY i) = false ∧ OnlyRegs s t ∧ (∀ x ∈ dieSensors i, t.b (staleOf x) = false) ∧
      (done = true → Counted (F.THERM_CAL_CNT_COUNT i) s t) ∧
      (done = false → t.f (F.THERM_CAL_CNT_COUNT i) = s.f (F.THERM_CAL_CNT_COUNT i))) ∧
    (s.b (F.THERM_CAL_CNT_BUSY i) = false → ∀ done bad, exec (.sensorRun die done bad) s = .next s)) ∧
  (∀ (s : State) (failed : List (Fin 16)),
    (s.pwr.stable = true → s.ddrRail = true → ∃ t, exec (.ddrTraining failed) s = .next t ∧ t.thm.ddrPend = 0 ∧
      ∀ n : Fin 16, n.val < s.dramChannels → (t.b (F.DDR_CH_STAT_TRAINED n.val) = true ↔ n ∉ failed) ∧
        t.b (F.DDR_CH_STAT_SELFREF n.val) = false ∧ t.f (F.DDR_CH_STAT_RETRAINS n.val) = 0) ∧
    (s.pwr.stable = false ∨ s.ddrRail = false → exec (.ddrTraining failed) s = .next s)) ∧
  (∀ (s : State) (n : Fin 16) (r : Fin 4), n.val < s.dramChannels → ∃ t, exec (.refreshRateRead [(n, r)]) s = .next t ∧
    t.f (F.DDR_CH_STAT_REFX n.val) = max s.refreshFloor r.val ∧ OnlyRegs { s with thm := t.thm } t) ∧
  ∀ (s : State) (n : Fin 16),
    (nbits s.thm.ddrPend n.val 1 = 1 → s.thm.ddrPend % 2 ^ n.val = 0 → ∀ passed, ∃ t, exec (.ddrRetrain n passed) s = .next t ∧
      nbits t.thm.ddrPend n.val 1 = 0 ∧ Counted (F.DDR_CH_STAT_RETRAINS n.val) s t ∧ Raised Ev.DDR_RETRAIN s t ∧ t.mem = s.mem ∧
      (passed = true → t.b (F.DDR_CH_STAT_TRAINED n.val) = s.b (F.DDR_CH_STAT_TRAINED n.val)) ∧
      (passed = false → t.b (F.DDR_CH_STAT_TRAINED n.val) = false ∧ Raised Ev.DDR_TRAIN_FAIL s t)) ∧
    (nbits s.thm.ddrPend n.val 1 = 0 ∨ s.thm.ddrPend % 2 ^ n.val ≠ 0 → ∀ passed, exec (.ddrRetrain n passed) s = .next s)

/-! ## PCIe -/

/-- The PCIe link and its resets (R453, R455, R457, R490, R497, Table 20-3): PERST_N low resets the link, MSI-X and the
registers of the DMA engine and of the VF windows, and nothing else; the link comes up where its clocks are good and the
lanes have power; FLR clears its own function's MSI-X state; a write of TAIL posts descriptors.
The test access port and the SMBus target (R463, R464, Table 18-3): TRST_N low resets the TAP and no other state; an
instruction is in force until the next; IDCODE shifts out CFG_IDCODE; the target answers each command with its data while the
firmware runs, and does not acknowledge it before.
Readings and choices of this model it rests on: log 56, 75. -/
def Obligations.LinkResetsAndTestPortsAnswer : Prop :=
  ((∀ s : State, exec (.perstN true) s = .next { s with pwr := { s.pwr with perst := true } } ∧
     ∃ t, exec (.perstN false) s = .next t ∧ t.pwr = { s.pwr with perst := false } ∧ t.pcieUp = false ∧ t.evt.pba = [] ∧
       t.evt.table = [] ∧ t.evt.fn = [] ∧ t.dma = [] ∧ t.evt.info = s.evt.info ∧ (∀ off, dmaReg off = true → t.reg off = s.bootValue off) ∧
       (∀ off, dmaReg off = false → t.reg off = s.reg off) ∧ t.mem = s.mem ∧ t.qs = s.qs ∧ t.fab = s.fab ∧ t.seqs = s.seqs) ∧
   (∀ s : State,
     let up : Prop := s.pwr.perst = true ∧ s.pwr.phyGood = true ∧ s.b F.CLK_OSCSTAT_REFCLKOK = true ∧
       s.quiet 14 = false ∧ s.sdsOn = true ∧ s.pcieUp = false
     (up → ∃ t, exec .pcieLinkUp s = .next t ∧ t.pcieUp = true ∧ Raised Ev.PCIE_LINK_UP s t ∧ t.mem = s.mem ∧ RegsBut noteRegs s t) ∧
     (¬ up → exec .pcieLinkUp s = .next s) ∧
     (s.pcieUp = true → ∃ t, exec .pcieLinkDown s = .next t ∧ t.pcieUp = false ∧ Raised Ev.PCIE_LINK_DOWN s t ∧ t.mem = s.mem ∧
       RegsBut noteRegs s t) ∧
     (s.pcieUp = false → exec .pcieLinkDown s = .next s)) ∧
   (∀ (s : State) (v : Fin 32),
     let own (x : Nat) : Prop := vfVector v.val ≤ x ∧ x < vfVector v.val + 32
     ∃ t, exec (.flr v) s = .next t ∧ { t with evt := s.evt } = s ∧ t.pciFn (1 + v.val) = pciFn0 ∧ t.evt.info = s.evt.info ∧
       (∀ i, t.msixWord i = if own (i / 4) then msixWord0 i else s.msixWord i) ∧
       (∀ x, mget false t.evt.pba x = if own x then false else mget false s.evt.pba x) ∧
       ∀ n, n ≠ 1 + v.val → t.pciFn n = s.pciFn n) ∧
   ∀ (s : State) (who : Who) (c : Fin 32) (v : Word), s.stopAccess who (Rg.DEV_DMA_TAIL c.val) = none →
     ∃ t, exec (.devDmaTail who c v) s = .next t ∧ t.reply = .done ∧
       t.f (F.DEV_DMA_TAIL_TAIL c.val) = fldGet (F.DEV_DMA_TAIL_TAIL c.val) v ∧ OnlyRegs s t ∧
       RegsBut [Rg.DEV_DMA_TAIL c.val] s t) ∧
  ((∀ s : State, exec (.trstN true) s = .next { s with tap := { s.tap with reset := false } } ∧
     exec (.trstN false) s = .next { s with tap := { reset := true, inst := .idcode, cells := [] } } ∧
     (s.tap.reset = false →
       exec .bypass s = .next { s with tap := { s.tap with inst := .bypass } } ∧
       exec .extest s = .next { s with tap := { s.tap with inst := .extest } } ∧
       exec .clamp s = .next { s with tap := { s.tap with inst := .clamp } } ∧
       exec .highz s = .next { s with tap := { s.tap with inst := .highz } } ∧
       exec .idcode s = .next { s with tap := { s.tap with inst := .idcode }, out := .tdo (s.reg Rg.CFG_IDCODE) :: s.out } ∧
       ∀ cells, exec (.samplePreload cells) s = .next { s with tap := { s.tap with inst := .samplePreload, cells := cells } }) ∧
     (s.tap.reset = true → ∀ i : Instr, i = .bypass ∨ i = .idcode ∨ i = .extest ∨ i = .clamp ∨ i = .highz ∨
       (∃ cells, i = .samplePreload cells) → exec i s = .next s)) ∧
   ∀ s : State,
     let said (i : Instr) (code : Nat) (data : List Byte) : Prop :=
       exec i s = .next { s with out := (if s.smbUp then .smb code data else .smbNack code) :: s.out }
     said .smbDevId 0 (leBytes 4 (s.reg Rg.DEV_ID).toNat) ∧ said .smbThermBand 1 (leBytes 4 (s.reg Rg.THERM_BAND).toNat) ∧
     (∀ m, s.hottest ((List.range 10).flatMap s.sound) = some m → said .smbTemperature 2 (leBytes 2 (unsgn 16 m))) ∧
     said .smbStatus 3 (leBytes 1 s.smbByte) ∧ said .smbTlTee 4 (leBytes 4 (s.reg Rg.TL_TEE).toNat))

/-- DMA descriptors (R457, R458, Table 18-2): a channel that does not run, or has one under way, takes none; an undefined
operation fails; a queue not the channel's own or a refused place ends it as DENIED, which stops the channel, a full or empty
queue as LIMIT, a fence as ABORT; one that can go on is under way. Port B carries the entries of the oldest one by one, port
A the beats; word 6 says how a descriptor ended and how much it moved, and HEAD advances.
Readings and choices of this model it rests on: log 56, 94, 118. -/
def Obligations.DescriptorsMoveData : Prop :=
  (∀ (s : State) (c : Fin 32) (d : DescHead) (r : HostRead) (at_ : DescAddr),
    let q := descQueue d
    let n := descCount d
    let a := at_.mla.toNat
    let i := s.f (F.DEV_DMA_HEAD_HEAD c.val)
    let ended (st : Nat) (t : State) : Prop :=
      t.out = .descDone c.val i (BitVec.ofNat 32 (2 ^ 31 + st * 2 ^ 28)) :: s.out ∧
      t.f (F.DEV_DMA_HEAD_HEAD c.val) = (i + 1) % s.dmaRing c.val ∧ mfind t.dma c.val = none ∧ t.qs = s.qs ∧
      (t.b (F.DEV_DMA_CTL_ERR c.val) = true ↔ dmaStops st = true) ∧ (dmaStops st = true → Raised Ev.HDMA_ERR s t) ∧
      (d.w0.getLsbD 27 = true → Raised (Ev.HDMA_DONE c.val) s t)
    let under (x : HostRead) (y : DescAddr) (t : State) : Prop := { t with dma := s.dma } = s ∧
      mfind t.dma c.val = some { desc := ⟨d, y⟩, read := x, moved := 0, fill := false, filled := false, since := s.tl.fc }
    let open_ : Prop := s.closed 0 = false ∧ s.baseDead = false
    (s.dmaRuns c.val = false ∨ (mfind s.dma c.val).isSome = true → exec (.hostToQueue c d r) s = .next s ∧
      exec (.queueToHost c d at_.haddr) s = .next s ∧ exec (.hostToMla c d r at_.mla) s = .next s ∧ exec (.mlaToHost c d at_) s = .next s) ∧
    (s.dmaRuns c.val = true → mfind s.dma c.val = none →
      (descOp d = 0 ∨ 4 < descOp d → ∃ t, exec (.hostToQueue c d r) s = .next t ∧ ended dmaBadop t ∧ t.mem = s.mem) ∧
      (∀ x : Instr, (x = .hostToQueue c d r ∧ descOp d = 1 ∨ x = .queueToHost c d at_.haddr ∧ descOp d = 2 ∨ x = .hostToMla c d r at_.mla ∧ descOp d = 3 ∨
          x = .mlaToHost c d at_ ∧ descOp d = 4) → s.closed 0 = true ∨ s.baseDead = true → ∃ t, exec x s = .next t ∧ ended dmaAbort t) ∧
      (descOp d = 1 → open_ → r.failed = false → (∀ w ∈ s.mem.writes, w.queue ≠ q) →
        (s.mayPush q (partyHdma c.val) = false → ∃ t, exec (.hostToQueue c d r) s = .next t ∧ ended dmaDenied t ∧ Raised (qcEv q 3) s t) ∧
        (s.mayPush q (partyHdma c.val) = true → n = 0 → ∃ t, exec (.hostToQueue c d r) s = .next t ∧ ended dmaOk t) ∧
        (s.mayPush q (partyHdma c.val) = true → 0 < n → (s.queue q).free = 0 →
          ∃ t, exec (.hostToQueue c d r) s = .next t ∧ ended dmaLimit t) ∧
        (s.mayPush q (partyHdma c.val) = true → 0 < n → (s.queue q).free ≠ 0 →
          ∃ t, exec (.hostToQueue c d r) s = .next t ∧ under r noAddr t)) ∧
      (descOp d = 2 → open_ →
        (s.mayPop q (partyHdma c.val) = false → ∃ t, exec (.queueToHost c d at_.haddr) s = .next t ∧ ended dmaDenied t ∧ Raised (qcEv q 3) s t) ∧
        (s.mayPop q (partyHdma c.val) = true → 0 < n → s.poppable q = 0 →
          ∃ t, exec (.queueToHost c d at_.haddr) s = .next t ∧ ended dmaLimit t) ∧
        (s.mayPop q (partyHdma c.val) = true → 0 < n → s.poppable q ≠ 0 →
          ∃ t, exec (.queueToHost c d at_.haddr) s = .next t ∧ under noRead { noAddr with haddr := at_.haddr } t)) ∧
      (64 ≤ n → open_ → s.ownerHolds a = false → ∀ (x : Instr) (y : HostRead) (z : DescAddr),
        (x = .hostToMla c d r at_.mla ∧ descOp d = 3 ∧ r.failed = false ∧ y = r ∧ z = { noAddr with mla := at_.mla } ∨ x = .mlaToHost c d at_ ∧ descOp d = 4 ∧ y = noRead ∧ z = at_) →
        (s.denied a dmaMaster ≠ none → ∃ t, exec x s = .next t ∧ ended dmaDenied t ∧ Raised Ev.MEM_DENIED s t) ∧
        (s.denied a dmaMaster = none → ∃ t, exec x s = .next t ∧ under y z t)))) ∧
  (∀ (s : State) (bank c : Nat) (j : DmaJob) (errs : List (Nat × Flaw)),
    let q := descQueue j.desc.toDescHead
    let mine (op : Nat) (j : DmaJob) : Bool := descOp j.desc.toDescHead == op && descQueue j.desc.toDescHead / 1024 == bank
    let moved (t : State) : Prop := mfind t.dma c = none ∨
      mfind t.dma c = some { j with moved := j.moved + 1, fill := false, filled := false, since := s.tl.fc }
    (s.portBFree bank = false → s.dmaQueue errs bank = s) ∧
    (s.portBFree bank = true → s.dmaTurn (mine 2) = some (c, j) →
      let t := s.dmaQueue errs bank
      (t.queue q).count = (s.queue q).count - 1 ∧ (t.queue q).pop = ((s.queue q).pop + 1) % 65536 ∧
      (t.queue q).push = (s.queue q).push ∧ (∀ q', q' ≠ q → t.queue q' = s.queue q') ∧ moved t ∧
      ∃ bytes ep, .hostWrite (j.desc.haddr.toNat + j.moved * ((s.queue q).esz + 4)) bytes ep ∈ t.out ∧
        bytes.length = (s.queue q).esz + 4) ∧
    (s.portBFree bank = true → s.dmaTurn (mine 2) = none → s.clearWay q →
      s.dmaTurn (fun j => mine 1 j && !s.mem.writes.any (fun r => r.queue == descQueue j.desc.toDescHead)) = some (c, j) →
      Pushed q 1 s (s.dmaQueue errs bank) ∧ moved (s.dmaQueue errs bank))) ∧
  ∀ (s : State) (u c : Nat) (j : DmaJob) (errs : List (Nat × Flaw)), u < 32 → (s.cyc u).busyA = false →
    s.dmaTurn (fun j => decide (2 < descOp j.desc.toDescHead) && (placeOf j.addr).1 == u && !j.fill) = some (c, j) →
    let w := j.addr / 8
    let t := s.dmaBeat errs u
    let n := j.have_ (s.queue (descQueue j.desc.toDescHead)).esz
    (c < 32 → j.moved + 1 = n → mfind t.dma c = none ∧
      t.f (F.DEV_DMA_HEAD_HEAD c) = (s.f (F.DEV_DMA_HEAD_HEAD c) + 1) % s.dmaRing c) ∧
    (descOp j.desc.toDescHead = 3 → ∀ k, k < 2 ^ 26 →
      t.word k = if w ≤ k ∧ k < w + 8 then BitVec.ofNat 64 (leNat ((j.read.bytes.drop (64 * j.moved + 8 * (k - w))).take 8)) else s.word k) ∧
    (descOp j.desc.toDescHead = 4 → (∀ e ∈ errs, e.2.wrong = 0) → (∀ k, s.foundAt errs k = .clean) → t.mem.words = s.mem.words ∧
      .hostWrite (j.desc.haddr.toNat + 64 * j.moved) ((List.range 8).flatMap (fun i => leBytes 8 (s.word (w + i)).toNat)) false ∈ t.out)

/-! ## Power and resets -/

/-- Rails (R480, R482, R485, R487, Table 20-1): a dip is warned of at its start and reported at its end; a rail below its
reset level reads so, a core rail's loss being a power-on reset, VDD_TK's holding Rinom in reset until it is back, LPDDR6's
the loss of its contents, a stack rail's darkness of its dies; a rail that rises reads so, and out of order its dies are
held.
Readings and choices of this model it rests on: log 76, 112. -/
def Obligations.RailsFallAndRise : Prop :=
  ∀ (s : State) (rail : Fin 11),
    let r := rail.val
    let lv := railLevels r
    (∀ mv, (s.b (F.PWR_RAIL_WARN r) = false → mv < lv.2.1 → ∃ t, exec (.brownoutStart rail mv) s = .next t ∧
        t.b (F.PWR_RAIL_WARN r) = true ∧ t.f (F.PWR_RAIL_MV r) = mv ∧
        t.f (F.PWR_RAIL_MIN r) = (if s.unsampled.contains (Rg.PWR_RAIL r) then mv else min mv (s.f (F.PWR_RAIL_MIN r))) ∧
        Raised Ev.BROWNOUT_START s t ∧ OnlyNotes { s with unsampled := t.unsampled } t ∧ RegsBut (Rg.PWR_RAIL r :: noteRegs) s t) ∧
      (s.b (F.PWR_RAIL_WARN r) = true ∨ lv.2.1 ≤ mv → exec (.brownoutStart rail mv) s = .next s)) ∧
    (∀ mn mv dur, mn < 2048 → (s.b (F.PWR_RAIL_WARN r) = true → s.railOk r = true → mn < lv.2.1 → 200 * lv.2.1 + lv.1 ≤ 200 * mv →
        ∃ t, exec (.brownoutWarn rail mn mv dur) s = .next t ∧ t.b (F.PWR_RAIL_WARN r) = false ∧
          t.b F.PWR_DIPLAST_VALID = true ∧ t.f F.PWR_DIPLAST_RAIL = r ∧ t.f F.PWR_DIPLAST_MIN = mn ∧
          Raised Ev.BROWNOUT_WARN s t ∧ OnlyNotes { s with unsampled := t.unsampled } t ∧ RegsBut (Rg.PWR_RAIL r :: Rg.PWR_DIPLAST :: noteRegs) s t) ∧
      (s.b (F.PWR_RAIL_WARN r) = false ∨ s.railOk r = false ∨ 200 * mv < 200 * lv.2.1 + lv.1 → exec (.brownoutWarn rail mn mv dur) s = .next s)) ∧
    (∀ mv, (s.railOk r = true → mv < lv.2.2 → s.pwr.pend = [] → ∃ t, exec (.railReset rail mv) s = .next t ∧
        t.railOk r = false ∧ t.b (F.PWR_RAIL_RST r) = true ∧
        (coreRail r = true → t.seqs = State.reset.seqs ∧ t.qs = [] ∧ t.fab = State.reset.fab ∧ t.fuse = s.fuse ∧
          t.f F.PWR_RSTCAUSE_CAUSE = 2 ∧ t.f F.PWR_RSTCAUSE_RAIL = r ∧ Counted F.PWR_PCC_COUNT s t) ∧
        (r = 1 → t.rinomOff = true ∧ t.tkState = 3 ∧ Raised Ev.RAIL_RESET s t ∧ t.tl = s.tl ∧ t.mem = s.mem) ∧
        (r = 5 ∨ r = 6 → t.pcieUp = false ∧ ∀ p : Fin 32, t.b (F.FH_PORT_STAT_UP p.val) = false) ∧
        (5 ≤ r → r ≤ 7 → t.pwr.fell = if s.b F.PWR_STAT_READY = true ∧ s.f F.PWR_STAT_STATE = 2 ∧
          (r = 7 → s.b F.PWR_STAT_RETAINED = false) then Nat.lor s.pwr.fell (2 ^ r) else s.pwr.fell) ∧
        (r = 7 → t.mem.dram = [] ∧ t.mem.lines = [] ∧ ∀ n : Fin 16, t.b (F.DDR_CH_STAT_TRAINED n.val) = false) ∧
        (8 ≤ r → ∀ d, d < 9 → nbits (railDies r) d 1 = 1 → nbits t.pwr.dark d 1 = 1)) ∧
      (s.railOk r = false ∨ lv.2.2 ≤ mv → exec (.railReset rail mv) s = .next s)) ∧
    ∀ mv, (s.railOk r = false → lv.2.2 ≤ mv → ∃ t, exec (.railAboveReset rail mv) s = .next t ∧ t.railOk r = true ∧
        t.b (F.PWR_RAIL_RST r) = false ∧ t.b (F.PWR_RAIL_WARN r) = false ∧ t.mem = s.mem ∧ t.fab = s.fab ∧
        (r = 1 → Raised Ev.TK_RESTART s t ∧ t.b F.TK_STATE_RESTART = true) ∧
        (8 ≤ r → s.orderBroken r = true → t.b F.PWR_STAT_SEQERR = true ∧ Raised Ev.PWR_SEQERR s t ∧
          t.pwr.held = Nat.lor s.pwr.held (railDies r))) ∧
      (s.railOk r = true ∨ mv < lv.2.2 → exec (.railAboveReset rail mv) s = .next s)

/-- Resets (R488 to R493, R540, R543, Table 20-3): a power-on reset leaves what State.reset holds and keeps fuses, NVM and the
board; a system reset tears down, resets the blocks and holds the stack for a new start, its cause shown; PWR_RST acts on
its key and one action, else CMDREJ; a management reset and its watchdog reach the firmware alone, the fourth expiry in an
hour the system.
Readings and choices of this model it rests on: log 62, 77. -/
def Obligations.ResetsReachWhatTheyName : Prop :=
  (∀ s : State, ∃ t, exec (.porN none) s = .next t ∧ t.tl = State.reset.tl ∧ t.seqs = State.reset.seqs ∧ t.flags = State.reset.flags ∧
    t.fab = State.reset.fab ∧ t.evt = State.reset.evt ∧ t.qs = [] ∧ t.ld = none ∧ t.fuse = s.fuse ∧ t.pending = s.pending ∧
    t.tap = s.tap ∧ t.rcd.nvm = s.rcd.nvm ∧ t.rcd.ring = s.rcd.ring ∧ t.rcd.staged = [] ∧ t.nvs.copies = s.nvs.copies ∧
    t.mem.words = [] ∧ t.mem.dram = [] ∧ t.mem.sr = s.mem.sr ∧ t.f F.PWR_RSTCAUSE_CAUSE = 1 ∧ Counted F.PWR_PCC_COUNT s t ∧
    t.f F.PWR_OPTIME_OPTIME = s.f F.PWR_OPTIME_OPTIME ∧ t.f F.SEC_CMDSEQ_CSEQ = s.f F.SEC_CMDSEQ_CSEQ) ∧
  (∀ (s : State) (r : Fin 11), coreRail r.val = false → exec (.porN (some r)) s = .next s) ∧
  (∀ (s : State) (flushed : Bool),
    let sys (i : Instr) (code : Nat) : Prop := ∃ t, exec i s = .next t ∧ t.pwr.mgmtRst = true ∧ t.pwr.stable = false ∧
      t.pwr.started = false ∧ t.pwr.bootWait = true ∧ t.pwr.held = 511 ∧ t.fab.gsr = true ∧ t.fab.torn = true ∧
      t.seqs = State.reset.seqs ∧ t.qs = [] ∧ t.flow = [] ∧ t.mem.lines = [] ∧ t.ld = none ∧ t.fuse = s.fuse ∧
      t.tl.fc = s.tl.fc ∧ t.f F.PWR_RSTCAUSE_CAUSE = code ∧ t.dma = [] ∧ t.evt.pba = s.evt.pba ∧ t.rcd.staged = []
    (s.ldStage ≠ stCommit → sys (.srstN flushed) 3 ∧
      ∀ (who : Who) (v : Word), s.stopAccess who Rg.PWR_RST = none → nbits v.toNat 24 8 = 0xA5 → nbits v.toNat 0 3 = 1 →
        sys (.sys who v flushed) 4) ∧
    (s.ldStage = stCommit →
      exec (.srstN flushed) s = .next { s with pwr := { s.pwr with pend := s.pwr.pend ++ [.system 3 flushed] } })) ∧
  (∀ (s : State) (who : Who) (v : Word), s.stopAccess who Rg.PWR_RST = none →
    let a := nbits v.toNat 0 3
    (nbits v.toNat 24 8 = 0xA5 → a = 2 → s.mayRestart → ∃ t, exec (.fabric who v) s = .next t ∧ t.reply = .done ∧
      Restarting byFabric aboveM s t) ∧
    (nbits v.toNat 24 8 = 0xA5 → a = 4 → ∃ t, exec (.mgmt who v) s = .next t ∧ t.reply = .done ∧ t.pwr.mgmtRst = true ∧
      t.f F.PWR_RSTCAUSE_CAUSE = 6 ∧ t.mem = s.mem ∧ t.fab = s.fab ∧ t.seqs = s.seqs ∧ RegsBut [Rg.PWR_RST, Rg.PWR_RSTCAUSE] s t) ∧
    (nbits v.toNat 24 8 ≠ 0xA5 ∨ ¬(a = 1 ∨ a = 2 ∨ a = 4) → ∀ i : Instr,
      i = .sys who v true ∨ i = .fabric who v ∨ i = .mgmt who v → ∃ t, exec i s = .next t ∧ t.reply = .done ∧
        t.b F.PWR_STAT_CMDREJ = true ∧ OnlyRegs s t ∧ RegsBut [Rg.PWR_STAT, Rg.PWR_RST] s t)) ∧
  ∀ (s : State) (sec : Fin 15) (flushed : Bool),
    let past := recent (s.opSeconds sec.val) s.pwr.mwTimes
    (s.pwr.booted = true → s.pwr.mgmtRst = false →
      (past.length < 3 → ∃ t, exec (.mgmtWdog sec flushed) s = .next t ∧ t.pwr.mgmtRst = true ∧
        t.f F.PWR_RSTCAUSE_CAUSE = 5 ∧ Raised Ev.MGMT_WDOG s t ∧ t.mem = s.mem ∧ t.fab = s.fab ∧ t.seqs = s.seqs) ∧
      (3 ≤ past.length → s.ldStage ≠ stCommit → ∃ t, exec (.mgmtWdog sec flushed) s = .next t ∧ t.pwr.mgmtRst = true ∧
        t.pwr.held = 511 ∧ t.f F.PWR_RSTCAUSE_CAUSE = 5 ∧ t.fab.torn = true ∧ t.seqs = State.reset.seqs)) ∧
    (s.pwr.booted = false ∨ s.pwr.mgmtRst = true → exec (.mgmtWdog sec flushed) s = .next s)

/-- Start-up and the low-power states (R495 to R502, R505, R525, R573): the firmware boots with the settings of the newer
copy, or the shipped ones; the stack starts once its clocks and rails allow; an accepted ENTER tears the fabric down and is
reported once its dies are held; EXIT, and WAKE once every rail that fell is back,
begin a wake, which ends with the stack in reset state and a boot to come.
Readings and choices of this model it rests on: log 78, 88. -/
def Obligations.StartUpEntersAndWakes : Prop :=
  (∀ s : State,
    (s.pwr.fosc = true → s.pwr.booted = false → ∃ t, exec .pwrBoot s = .next t ∧ t.pwr.booted = true ∧ t.pwr.mgmtRst = false ∧
      Raised Ev.PWR_BOOT s t ∧ (s.newerCopy = none → t.b F.NVS_STAT_DEFAULTS = true ∧ t.nvs.boot = [] ∧ t.nvs.shadow = []) ∧
      (∀ n c, s.newerCopy = some (n, c) → t.f F.NVS_STAT_COPY = n.val ∧ t.nvs.boot = c.fields ∧ t.nvs.shadow = c.fields)) ∧
    (s.pwr.fosc = true → s.pwr.booted = true → s.pwr.mgmtRst = true → ∃ t, exec .pwrBoot s = .next t ∧ t.pwr.mgmtRst = false ∧
      { t with pwr := s.pwr } = s) ∧
    (s.pwr.fosc = false ∨ (s.pwr.booted = true ∧ s.pwr.mgmtRst = false) → exec .pwrBoot s = .next s)) ∧
  (∀ s : State, (s.mayStart = true → ∃ t, exec .stackStart s = .next t ∧ t.pwr.started = true ∧ t.pwr.held = 0 ∧ t.pwr.dark = 0 ∧
      t.tl.running = true ∧ t.b F.VL_TEST_RUNNING = true ∧ t.fab.coef = [] ∧ t.mem.lines = []) ∧
    (s.mayStart = false → exec .stackStart s = .next s)) ∧
  (∀ s : State, ∃ t, exec .optimeStore s = .next t ∧ Counted F.PWR_OPTIME_OPTIME s t ∧ t.mem = s.mem ∧ t.fab = s.fab ∧
    RegsBut [Rg.PWR_OPTIME, Rg.DEV_WDSTAT] s t) ∧
  (∀ (s : State) (who : Who) (v : Word), s.stopAccess who Rg.PWR_CMD = none →
    let w := s.writeFields Rg.PWR_CMD v
    (nbits v.toNat 30 2 = 1 → w.enterRefused = false → ∃ t, exec (.enter who v) s = .next t ∧ t.reply = .done ∧
      t.b F.PWR_STAT_ENTERING = true ∧ t.b F.PWR_STAT_READY = false ∧ t.fab.torn = true ∧ t.fab.gsr = true ∧
      t.b F.CFG_STATUS_DONE = false ∧ t.pwr.target = nbits v.toNat 28 2 ∧ t.pwr.retain = v.getLsbD 27 ∧
      ∀ k : Fin 4, (t.seq k).mode = .stopped) ∧
    (nbits v.toNat 30 2 = 1 → w.enterRefused = true → ∃ t, exec (.enter who v) s = .next t ∧ t.reply = .done ∧
      t.b F.PWR_STAT_CMDREJ = true ∧ OnlyRegs s t) ∧
    (nbits v.toNat 30 2 = 2 → s.b F.PWR_STAT_READY = true → ∃ t, exec (.exit who v) s = .next t ∧ t.reply = .done ∧
      t.b F.PWR_STAT_WAKING = true ∧ t.b F.PWR_STAT_READY = false ∧ t.pwr.dark = s.unpowered ∧ t.mem = s.mem ∧ t.fab = s.fab) ∧
    (nbits v.toNat 30 2 = 2 → s.b F.PWR_STAT_READY = false → ∃ t, exec (.exit who v) s = .next t ∧ t.reply = .done ∧
      OnlyRegs s t ∧ RegsBut [Rg.PWR_CMD] s t)) ∧
  ∀ s : State,
    (s.b F.PWR_STAT_ENTERING = true → s.pwr.toHold = 0 → s.pwr.target ≤ 2 → ∃ t, exec .pwrReady s = .next t ∧
      t.b F.PWR_STAT_READY = true ∧ t.b F.PWR_STAT_ENTERING = false ∧
      t.f F.PWR_STAT_STATE = max s.pwr.target (s.f F.PWR_STAT_STATE) ∧ Raised Ev.PWR_READY s t ∧ t.fab = s.fab) ∧
    (s.b F.PWR_STAT_ENTERING = false ∨ s.pwr.toHold ≠ 0 → exec .pwrReady s = .next s) ∧
    (s.b F.PWR_STAT_READY = true → s.pwr.fell ≠ 0 → s.stackRails = true →
      (∀ r < 11, nbits s.pwr.fell r 1 = 1 → s.railOk r = true) → ∃ t, exec .wake s = .next t ∧
      t.b F.PWR_STAT_WAKING = true ∧ t.b F.PWR_STAT_READY = false ∧ t.pwr.dark = 0 ∧ t.pwr.fell = 0 ∧ t.mem = s.mem) ∧
    (s.b F.PWR_STAT_READY = false ∨ s.pwr.fell = 0 ∨ s.stackRails = false ∨
      (∃ r < 11, nbits s.pwr.fell r 1 = 1 ∧ s.railOk r = false) → exec .wake s = .next s) ∧
    (s.mayWake = true → ∃ t, exec .pwrWake s = .next t ∧ t.f F.PWR_STAT_STATE = 0 ∧ t.b F.PWR_STAT_WAKING = false ∧
      t.pwr.held = 0 ∧ t.pwr.dark = 0 ∧ t.pwr.bootWait = true ∧ t.seqs = State.reset.seqs ∧ t.fab.slots = [] ∧ t.fab.gsr = true ∧
      t.b F.VL_TEST_RUNNING = true ∧ Raised Ev.PWR_WAKE s t) ∧
    (s.mayWake = false → exec .pwrWake s = .next s)

/-! ## Events -/

/-- The event controller (R508, R509, R511, R513, R515, R516): an event cycle takes the oldest occurrence of each source that holds
one, and makes an enabled one pending; a write of EVT_PEND clears what it names; unmasking sends the messages that may now
go; a latch on its way from a source reaches the inputs its route named.
Readings and choices of this model it rests on: log 80. -/
def Obligations.EventsAreTakenClearedAndSent : Prop :=
  (∀ s : State, mwf srcInfo0 s.evt.info = true → (∀ n, ∀ o ∈ (s.src n).wait, o.src = n) → ∃ t, exec .eventCycle s = .next t ∧
    t.mem = s.mem ∧ t.fab = s.fab ∧ t.seqs = s.seqs ∧ ∀ n, (t.src n).wait = (s.src n).wait.tail ∧
      (t.src n).count = (s.src n).count ∧
      (n < 1024 → (t.b (srcBit (fun w => Rg.EVT_PEND w) n) = true ↔
        s.b (srcBit (fun w => Rg.EVT_PEND w) n) = true ∨ ((s.src n).wait ≠ [] ∧ s.srcEnabled n = true)))) ∧
  (∀ (s : State) (who : Who) (w : Fin 32) (v : Word), s.stopAccess who (Rg.EVT_PEND w.val) = none →
    ∃ t, exec (.evtPend who w v) s = .next t ∧ t.reply = .done ∧ t.reg (Rg.EVT_PEND w.val) = s.reg (Rg.EVT_PEND w.val) &&& ~~~v ∧
      t.evt.info = s.evt.info ∧ RegsBut [Rg.EVT_PEND w.val, Rg.EVT_STAT] s t ∧ t.mem = s.mem ∧ t.seqs = s.seqs) ∧
  (∀ (s : State) (u : Unmask), ∃ t, exec (.msixUnmask u) s = .next t ∧ { t with evt := s.evt, out := s.out } = s ∧
    t.evt.info = s.evt.info ∧ (∀ x, t.vecOpen x = (s.unmask u).vecOpen x) ∧
    (∀ v, u = .vector v → (t.msixWord (4 * v.val + 3)).getLsbD 0 = false) ∧
    (∀ n, u = .function n → (t.pciFn n.val).fnMask = false) ∧ (∀ n, u = .msixEnable n → (t.pciFn n.val).msixEn = true) ∧
    (∀ n, u = .busMaster n → (t.pciFn n.val).busMaster = true) ∧
    (∀ x, mget false t.evt.pba x = (mget false s.evt.pba x && !t.vecOpen x)) ∧
    ∀ x, s.evt.pba = [(x, true)] → t.out = if t.vecOpen x then .msix x :: s.out else s.out) ∧
  ∀ (s : State) (src : Fin 1024),
    (∀ l rest, s.evt.latches = l :: rest → l.src = src.val → s.latchDue l = true → ∃ t, exec (.eventInputLatch src) s = .next t ∧
      t.evt = { s.evt with latches := rest } ∧ t.regs = s.regs ∧ t.mem = s.mem ∧ ∀ k : Fin 4, t.seq k =
        if nbits l.mask k.val 1 = 1 ∧ ¬(s.f F.RPL_STAT_MODE = 3 ∧ s.inScope k.val = true)
        then (s.seq k).latch s.tl.fc (BitVec.ofNat 32 (2 ^ l.ein)) else s.seq k) ∧
    ((∀ l ∈ s.evt.latches, l.src ≠ src.val ∨ s.latchDue l = false) → exec (.eventInputLatch src) s = .next s)

/-! ## The event recorder -/

/-- The recorder (R522, R524 to R530): the oldest staged record goes to NVM, byte for byte, at REC_NEXT or in the first-fault
zone, and SEQ counts; one that folds into the last written takes no place; nothing is written while NVM writing is held;
FREEZE holds it, THAW and the timer let it go on.
Clearing the recorder (R532, Table 22-4): NONCE draws a value, which expires and is spent by any CLEAR; a CLEAR that passes
the checks takes its CSEQ and erases what its scope names, one that does not says why; CLEARED is the first record behind the
erase. The nonce is a free value (log 2).
Readings and choices of this model it rests on: log 82, 83. -/
def Obligations.RecordsAreWrittenAndCleared : Prop :=
  ((∀ s : State,
     (s.nvmOk = false ∨ s.rcd.staged = [] → exec .recordWrite s = .next s) ∧
     ∀ (r : Rcd) (rest : List Rcd), s.rcd.staged = r :: rest → s.nvmOk = true → s.f F.REC_STAGE_LOST = 0 →
       let bytes := r.bytes (s.f F.REC_SEQ_SEQ) (s.f F.PWR_PCC_COUNT) (s.f F.PWR_OPTIME_OPTIME)
       let off := s.f F.REC_NEXT_OFS
       (s.rcd.lastRec = none → sevRank r.sev < 3 → 0x10000 ≤ off → off < 0x100000 → r.size ≤ 0x10000 →
         ∃ t, exec .recordWrite s = .next t ∧ t.rcd.staged = rest ∧ Counted F.REC_SEQ_SEQ s t ∧
           t.f F.REC_NEXT_OFS = nvmAt off r.size ∧ t.rcd.ring.getLast? = some { off := off, size := r.size, seq := s.f F.REC_SEQ_SEQ } ∧
           t.rcd.ffz = s.rcd.ffz ∧ t.rcd.lastRec = some (r, off, s.f F.PWR_PCC_COUNT) ∧ t.evt = s.evt ∧ t.mem = s.mem ∧
           bytes.length = r.len ∧ (∀ i, i < r.len → mget 0 t.rcd.nvm (nvmAt off i) = bytes.getD i 0) ∧
           ∀ a, a < 0x10000 → mget 0 t.rcd.nvm a = mget 0 s.rcd.nvm a) ∧
       (s.rcd.lastRec = none → 3 ≤ sevRank r.sev → s.b F.REC_STAT_FFZFULL = false → sizes s.rcd.ffz + r.size ≤ 0x10000 →
         ∃ t, exec .recordWrite s = .next t ∧ t.rcd.staged = rest ∧ Counted F.REC_SEQ_SEQ s t ∧ t.rcd.ring = s.rcd.ring ∧
           t.rcd.ffz = s.rcd.ffz ++ [{ off := sizes s.rcd.ffz, size := r.size, seq := s.f F.REC_SEQ_SEQ }] ∧
           t.f F.REC_NEXT_OFS = off ∧ t.evt = s.evt) ∧
       (∀ l at_, s.rcd.lastRec = some (l, at_, s.f F.PWR_PCC_COUNT) → r.folds l = true → ∃ t, exec .recordWrite s = .next t ∧
         t.rcd.staged = rest ∧ t.rcd.ring = s.rcd.ring ∧ t.rcd.ffz = s.rcd.ffz ∧ t.regs = s.regs ∧ t.evt = s.evt ∧
         t.rcd.lastRec = some (l.fold r, at_, s.f F.PWR_PCC_COUNT))) ∧
   (∀ (s : State) (who : Who), s.stopAccess who Rg.REC_CMD = none →
     (s.b F.REC_STAT_FROZEN = false → s.b F.REC_STAT_CLEARING = false → ∃ t, exec (.freeze who) s = .next t ∧ t.reply = .done ∧
       t.b F.REC_STAT_FROZEN = true ∧ t.nvmOk = false ∧ OnlyRegs s t ∧ RegsBut [Rg.REC_CMD, Rg.REC_STAT] s t) ∧
     (s.b F.REC_STAT_FROZEN = true ∨ s.b F.REC_STAT_CLEARING = true → ∃ t, exec (.freeze who) s = .next t ∧ t.reply = .done ∧
       t.b F.REC_STAT_CMDREJ = true ∧ t.b F.REC_STAT_FROZEN = s.b F.REC_STAT_FROZEN ∧ OnlyRegs s t) ∧
     ∃ t, exec (.thaw who) s = .next t ∧ t.reply = .done ∧ t.b F.REC_STAT_FROZEN = false ∧ OnlyRegs s t ∧
       RegsBut [Rg.REC_CMD, Rg.REC_STAT] s t) ∧
   ∀ s : State,
     (s.b F.REC_STAT_FROZEN = true → ∃ t, exec .recFreezeEnd s = .next t ∧ t.b F.REC_STAT_FROZEN = false ∧
       t.b F.REC_STAT_EXPIRED = true ∧ Raised Ev.REC_FREEZE_END s t ∧ OnlyNotes s t ∧ RegsBut (Rg.REC_STAT :: noteRegs) s t) ∧
     (s.b F.REC_STAT_FROZEN = false → exec .recFreezeEnd s = .next s)) ∧
  ((∀ (s : State) (who : Who), s.stopAccess who Rg.REC_CMD = none →
     (∃ t, exec (.nonce who) s = .next t ∧ t.reply = .done ∧ t.rcd = { s.rcd with nonceOk := true } ∧ t.free = s.free + 1 ∧
       t.mem = s.mem ∧ ∀ n, n < 4 →
         t.reg (Rg.REC_NONCE n) = BitVec.ofNat 32 ((Config.freeBits 128 s.free).toNat / 2 ^ (32 * n))) ∧
     ∀ token : Option Token,
       let x := token.map (fun t => { t with bytes := t.bytes.take (s.f F.REC_TLEN_LEN) })
       (s.clearCode x ≠ 0 → ∃ t, exec (.clear who token) s = .next t ∧ t.reply = .done ∧ t.b F.REC_CLRRES_VALID = true ∧
         t.f F.REC_CLRRES_CODE = s.clearCode x ∧ t.rcd.nonceOk = false ∧ t.rcd.nvm = s.rcd.nvm ∧ t.rcd.ring = s.rcd.ring ∧
         t.rcd.clearing = s.rcd.clearing ∧ t.f F.SEC_CMDSEQ_CSEQ = s.f F.SEC_CMDSEQ_CSEQ ∧ Raised Ev.REC_CLEAR_REJ s t) ∧
       (s.clearCode x = 0 → ∃ t y, x = some y ∧ exec (.clear who token) s = .next t ∧ t.reply = .done ∧
         t.f F.REC_CLRRES_CODE = 0 ∧ t.rcd.nonceOk = false ∧ t.b F.REC_STAT_CLEARING = true ∧
         t.f F.SEC_CMDSEQ_CSEQ = tokCseq y ∧
         t.rcd.clearing = some { scope := leNat ((tokPayload y).drop 20), slot := tokSlot y } ∧ t.rcd.nvm = s.rcd.nvm)) ∧
   ∀ s : State,
     (∃ t, exec .nonceExpiry s = .next t ∧ t.rcd = { s.rcd with nonceOk := false } ∧ (∀ n, n < 4 → t.reg (Rg.REC_NONCE n) = 0) ∧
       { t with regs := s.regs, rcd := s.rcd } = s) ∧
     (s.rcd.clearing = none → exec .recCleared s = .next s) ∧
     ∀ j, s.rcd.clearing = some j → ∃ t, exec .recCleared s = .next t ∧ t.b F.REC_STAT_CLEARING = false ∧
       t.rcd.clearing = none ∧ Raised Ev.REC_CLEARED s t ∧ Counted F.REC_SEQ_SEQ s t ∧ t.mem = s.mem ∧
       (j.scope % 2 = 1 → ∃ n, t.rcd.ring = [{ off := 0x10000, size := n, seq := s.f F.REC_SEQ_SEQ }]) ∧
       (2 ≤ j.scope → t.rcd.ffz = [] ∧ t.b F.REC_STAT_FFZFULL = false) ∧ (j.scope < 2 → t.rcd.ffz = s.rcd.ffz))

/-! ## Timeouts and the device watchdog -/

/-- Timeouts (R536 to R539): a vertical transfer whose timer has run 3,933 fc is cancelled, answered TIMEOUT and reported, be it
the oldest of a memory port, of a sequencer, of a descriptor or of the host; one whose timer has not is left alone; an access of the
register bus that nothing else ends is answered with a bus error; a request to the host that times out ends what asked for it.
The device watchdog (R541, R542, R554): KICK while it runs fills its count, anything else leaves it; it counts down by
milliseconds and expires near its end (log 84, the model's choice of clock); an expiry restarts the fabric, and the fourth within an hour of operating time resets the system with the golden image to follow.
Readings and choices of this model it rests on: log 84, 131. -/
def Obligations.TimeoutsAndTheWatchdog : Prop :=
  ((∀ (s : State) (layer : Fin 4) (port : Fin 32),
     let key := portKey layer port
     (∀ r rest, (s.port key).reqs = r :: rest → r.due = none → r.held = none → vtBound ≤ r.timer →
       ∃ t, exec (.vtTimeout (.port layer port)) s = .next t ∧ Raised Ev.VT_TIMEOUT s t ∧ Counted F.DEV_FLTCNT_VTTO s t ∧
         (t.port key).reqs = { r with data := r.zeros, status := .timeout, fill := false, due := some s.tl.fc } :: rest ∧
         t.mem.words = s.mem.words ∧ t.seqs = s.seqs ∧ ∀ k, k ≠ key → t.port k = s.port k) ∧
     (∀ r rest, (s.port key).reqs = r :: rest → (r.due ≠ none ∨ r.held ≠ none ∨ r.timer < vtBound) →
       exec (.vtTimeout (.port layer port)) s = .next s) ∧
     ((s.port key).reqs = [] → exec (.vtTimeout (.port layer port)) s = .next s) ∧
     ∀ p : PortQ, ∀ r rest, p.reqs = r :: rest → p.runTimer.reqs.tail = rest ∧ ∃ x, p.runTimer.reqs.head? = some x ∧
       x.timer = if r.due = none ∧ r.held = none then r.timer + 1 else r.timer) ∧
   (∀ (s : State) (k : Fin 4),
     (∀ op rest, (s.seq k).ports = op :: rest → max op.issued (s.seq k).portAt + vtBound ≤ s.tl.fc →
       ∃ t, exec (.vtTimeout (.seq k)) s = .next t ∧ Raised Ev.VT_TIMEOUT s t ∧ Counted F.DEV_FLTCNT_VTTO s t ∧
         (t.seq k).ports = rest ∧ (t.seq k).res = (s.seq k).res ++ [portFault k op] ∧ (t.seq k).g = (s.seq k).g ∧
         (∀ j, j ≠ k → t.seq j = s.seq j) ∧ t.mem = s.mem) ∧
     (∀ op rest, (s.seq k).ports = op :: rest → s.tl.fc < max op.issued (s.seq k).portAt + vtBound →
       exec (.vtTimeout (.seq k)) s = .next s) ∧
     ((s.seq k).ports = [] → exec (.vtTimeout (.seq k)) s = .next s)) ∧
   (∀ (s : State) (bank : Fin 32),
     (∀ x rest, s.hostWaits bank.val = x :: rest → s.hostOldest x = true → max x.since s.mem.hostAt + vtBound ≤ s.tl.fc →
       ∃ t, exec (.vtTimeout (.bar2 bank)) s = .next t ∧ Raised Ev.VT_TIMEOUT s t ∧ Counted F.DEV_FLTCNT_VTTO s t ∧
         t.hostWaits bank.val = rest ∧ t.mem.words = s.mem.words ∧ t.mem.hostAt = s.tl.fc ∧
         t.out = (if x.write = true then s.out else .cplAbort :: s.out) ∧ t.seqs = s.seqs) ∧
     (∀ x rest, s.hostWaits bank.val = x :: rest →
       (s.hostOldest x = false ∨ s.tl.fc < max x.since s.mem.hostAt + vtBound) → exec (.vtTimeout (.bar2 bank)) s = .next s) ∧
     (s.hostWaits bank.val = [] → exec (.vtTimeout (.bar2 bank)) s = .next s)) ∧
   (∀ (s : State) (c : Fin 32),
     let ended (st moved : Nat) (t : State) : Prop := t.b (F.DEV_DMA_CTL_ERR c.val) = true ∧ mfind t.dma c.val = none ∧
       t.mem = s.mem ∧ t.qs = s.qs ∧ t.out = .descDone c.val (s.f (F.DEV_DMA_HEAD_HEAD c.val))
         (BitVec.ofNat 32 (2 ^ 31 + st * 2 ^ 28 + moved % 2 ^ 28)) :: s.out
     (∀ j, mfind s.dma c.val = some j →
       (j.since + vtBound ≤ s.tl.fc → ∃ t, exec (.vtTimeout (.dma c)) s = .next t ∧ Raised Ev.VT_TIMEOUT s t ∧
         Counted F.DEV_FLTCNT_VTTO s t ∧ ended dmaAbort j.movedUnits t) ∧
       (s.tl.fc < j.since + vtBound → exec (.vtTimeout (.dma c)) s = .next s)) ∧
     (mfind s.dma c.val = none → exec (.vtTimeout (.dma c)) s = .next s ∧
       ∀ (d : Desc) (r : HostRead), s.dmaRuns c.val = true → s.closed 0 = false → s.baseDead = false → r.bytes = [] →
         (descOp d.toDescHead = 1 → s.mayPush (descQueue d.toDescHead) (partyHdma c.val) = true → (∀ w ∈ s.mem.writes, w.queue ≠ descQueue d.toDescHead) →
           0 < descCount d.toDescHead → ∃ t, exec (.pcieCompletionTimeout (.dma c d r)) s = .next t ∧ ended dmaHosterr 0 t) ∧
         (descOp d.toDescHead = 3 → 64 ≤ descCount d.toDescHead →
           ∃ t, exec (.pcieCompletionTimeout (.dma c d r)) s = .next t ∧ ended dmaHosterr 0 t))) ∧
   (∀ (s : State) (who : Who) (write : Bool) (off : Nat),
     (s.onBusStill who off = true → ∃ t, exec (.busTimeout who write off) s = .next t ∧ Counted F.DEV_FLTCNT_BUSTO s t ∧
       Raised Ev.BUS_TIMEOUT s t ∧ t.reply = (if who = .host then .abort else .busError) ∧ t.mem = s.mem ∧ t.seqs = s.seqs ∧
       RegsBut (Rg.DEV_FLTCNT :: Rg.DEV_BUSLAST :: noteRegs) s t) ∧
     (s.onBusStill who off = false → exec (.busTimeout who write off) s = .next s) ∧
     (s.onBusStill who off = true ↔ s.stopAccess who off = none ∨ s.stopAccess who off = some .held)) ∧
   ∀ s : State,
     (∀ l, s.ld = some l → l.flash = false → (s.ldStage = stHeader ∨ s.ldStage = stStream) → s.lastTry l →
       ∃ t, exec (.pcieCompletionTimeout .load) s = .next t ∧ Rejected rHosterr l.pos l.pos s t) ∧
     (s.ld = none → exec (.pcieCompletionTimeout .load) s = .next s) ∧
     (∀ x, s.rb = some x → ∃ t, exec (.pcieCompletionTimeout .readback) s = .next t ∧ t.rb = none ∧
       t.b F.CFG_RBSTAT_BUSY = false ∧ t.b F.CFG_RBSTAT_DONE = true ∧ t.f F.CFG_RBSTAT_ERR = 3 ∧ Raised Ev.CFG_RB_ERR s t) ∧
     (s.rb = none → exec (.pcieCompletionTimeout .readback) s = .next s)) ∧
  ((∀ (s : State) (who : Who) (v : Word), s.stopAccess who Rg.DEV_WDKICK = none →
     (v = 0x4B49434B → s.b F.DEV_WDCFG_HOSTKICK = true → s.wdRuns = true → ∃ t, exec (.devWdkick who v) s = .next t ∧
       t.reply = .done ∧ t.f F.DEV_WDSTAT_REMAIN = s.wdFull ∧ OnlyRegs s t ∧ RegsBut [Rg.DEV_WDKICK, Rg.DEV_WDSTAT] s t) ∧
     (v ≠ 0x4B49434B ∨ s.b F.DEV_WDCFG_HOSTKICK = false ∨ s.wdRuns = false → ∃ t, exec (.devWdkick who v) s = .next t ∧
       t.reply = .done ∧ OnlyRegs s t ∧ RegsBut [Rg.DEV_WDKICK] s t)) ∧
   ∀ (s : State) (sec : Fin 15) (flushed : Bool),
     let past := recent (s.opSeconds sec.val) s.pwr.wdTimes
     (s.wdRuns = false → s.wdTick = s ∧ s.wdLate = false) ∧
     (s.wdRuns = true → (s.wdTick.f F.DEV_WDSTAT_REMAIN =
         if s.tl.fc % 983040 = 0 then s.f F.DEV_WDSTAT_REMAIN - 1 else s.f F.DEV_WDSTAT_REMAIN) ∧ OnlyRegs s s.wdTick ∧
       (s.tl.running = true → s.b F.TL_STATUS_DEGRADED = false →
         (s.wdLate = true ↔ 10 * s.f F.DEV_WDSTAT_REMAIN ≤ s.wdFull))) ∧
     (s.wdLate = true →
       (past.length < 3 → s.mayRestart → ∃ t, exec (.devWdog sec flushed) s = .next t ∧ t.b F.DEV_WDSTAT_EXPIRED = true ∧
         t.f F.DEV_WDSTAT_WIN = past.length + 1 ∧ Raised Ev.DEV_WDOG s t ∧ Restarting byWatchdog aboveM s t) ∧
       (3 ≤ past.length → s.ldStage ≠ stCommit → ∃ t, exec (.devWdog sec flushed) s = .next t ∧ t.pwr.golden = true ∧
         t.pwr.held = 511 ∧ t.pwr.mgmtRst = true ∧ t.pwr.stable = false ∧ t.pwr.bootWait = true ∧ t.fab.torn = true ∧
         t.seqs = State.reset.seqs)) ∧
     (s.wdLate = false → exec (.devWdog sec flushed) s = .next s))

/-! ## Capture and replay -/

/-- Capture (R556 to R558, R561, R567): START begins it with an empty ring, or is refused; a freeze is asked for once, and
ends it with its cause; a gap that finds room is one record; a CRC period ends with a record, or a comparison in replay; a
snapshot's copy ends valid or with why it is not.
Readings and choices of this model it rests on: log 85, 86. -/
def Obligations.CaptureRecordsAndFreezes : Prop :=
  (∀ (s : State) (who : Who) (v : Word), s.stopAccess who Rg.RPL_CMD = none →
    (nbits v.toNat 28 4 = 1 → s.mayCapture = true → ∃ t, exec (.startCapture who v) s = .next t ∧ t.reply = .done ∧
      t.f F.RPL_STAT_MODE = 1 ∧ t.b F.RPL_STAT_FROZEN = false ∧ t.rpl = { Replay.reset with image := s.rpl.image } ∧
      (∀ b : Fin 2, t.b (F.RPL_SNAP_HI_VALID b.val) = false) ∧ t.mem = s.mem ∧ t.seqs = s.seqs) ∧
    (nbits v.toNat 28 4 = 1 → s.mayCapture = false → ∃ t, exec (.startCapture who v) s = .next t ∧ t.reply = .done ∧
      t.b F.RPL_STAT_CMDREJ = true ∧ OnlyRegs s t) ∧
    (nbits v.toNat 28 4 = 2 → s.capturing = true → ∃ t, exec (.rplFreeze who v) s = .next t ∧ t.reply = .done ∧
      t.rpl = { s.rpl with ask := some 2 } ∧ OnlyRegs { s with rpl := t.rpl } t) ∧
    (nbits v.toNat 28 4 = 2 → s.f F.RPL_STAT_MODE ≠ 1 → ∃ t, exec (.rplFreeze who v) s = .next t ∧ t.reply = .done ∧
      t.b F.RPL_STAT_CMDREJ = true ∧ OnlyRegs s t)) ∧
  (∀ s : State,
    (∀ a, s.rpl.trigAt = some a → exec .rplTrigger s = .next
      { s with rpl := { s.rpl with trigAt := none, trigDue := some (a + s.f F.RPL_TRIG_DELAY * 4096) } }) ∧
    (s.rpl.trigAt = none → exec .rplTrigger s = .next s) ∧
    (∀ c, s.freezeCause = some c → c < 8 → ∃ t, exec .rplFrozen s = .next t ∧ t.f F.RPL_STAT_MODE = 0 ∧
      t.b F.RPL_STAT_FROZEN = true ∧ t.f F.RPL_STAT_CAUSE = c ∧ Raised Ev.RPL_FROZEN s t ∧ t.seqs = s.seqs ∧ t.fab = s.fab ∧
      t.mem.words = s.mem.words) ∧
    (s.freezeCause = none → exec .rplFrozen s = .next s) ∧
    (∀ g n b, s.rpl.gap = some (g, n, b) → s.capturing = true → s.rpl.fill + 1536 * 32 ≤ bufferUnits →
      ∃ t, exec .rplGap s = .next t ∧ t.rpl.gap = none ∧ t.rpl.wr = s.rpl.wr + 32 ∧ t.rpl.seq = s.rpl.seq + 1 ∧
        Counted F.RPL_GAPS_GAPS s t ∧ Raised Ev.RPL_GAP s t ∧ t.mem.words = s.mem.words ∧ t.fab = s.fab) ∧
    (s.rpl.gap = none ∨ s.capturing = false → exec .rplGap s = .next s)) ∧
  (∀ s : State,
    (s.crcNow = false → exec .crcPeriod s = .next s) ∧
    ∀ n : Nat, s.crcNow = true → s.crcQueues = [n] →
      (s.f F.RPL_STAT_MODE = 1 → exec .crcPeriod s = .next { s with rpl := { s.rpl with
        now := s.rpl.now ++ [{ type := 5, time := s.fullTime, id := s.f (F.RPL_CRCQ_QUEUE n), payload := s.crcPayload n }],
        crc := [], crcAt := s.tl.fc + 1 } }) ∧
      (s.f F.RPL_STAT_MODE = 3 → ∀ r,
        s.findCrc n s.fullTime (s.ringSize / 16)
          (((s.rpl.snaps.get (Fin.ofNat 2 (s.f F.RPL_CMD_SNAPSEL))).map (fun x => x.pos)).getD s.rpl.rd) = some r →
        (r.payload = s.crcPayload n →
          exec .crcPeriod s = .next { s with rpl := { s.rpl with crc := [], crcAt := s.tl.fc + 1 } }) ∧
        (r.payload ≠ s.crcPayload n → ∃ t, exec .crcPeriod s = .next t ∧ Counted F.RPL_MISCNT_COUNT s t ∧
          Raised Ev.RPL_MISMATCH s t ∧ t.mem = s.mem))) ∧
  ∀ s : State,
    (s.rpl.copy = none → (∀ x, exec (.rplSnapDone x) s = .next s) ∧ exec .snapshotTimeout s = .next s) ∧
    ∀ b f, s.rpl.copy = some (b, f) →
      let failed (t : State) (why : Nat) : Prop := t.b (F.RPL_SNAP_HI_VALID b.val) = false ∧
        t.f (F.RPL_SNAP_HI_FAIL b.val) = why ∧ t.rpl.copy = none ∧ t.rpl.snaps.get b = none ∧ Raised Ev.RPL_SNAP_FAIL s t
      (s.tl.fc < f + frameFc → exec .snapshotTimeout s = .next s ∧
        (∃ t, exec (.rplSnapDone none) s = .next t ∧ t.b (F.RPL_SNAP_HI_VALID b.val) = true ∧ t.rpl.copy = none ∧
          t.rpl.snaps = s.rpl.snaps ∧ Raised Ev.RPL_SNAP_DONE s t) ∧
        (∃ t, exec (.rplSnapDone (some .cowovf)) s = .next t ∧ failed t 3) ∧
        (s.rpl.dirty = true → ∃ t, exec (.rplSnapDone (some .dirty)) s = .next t ∧ failed t 4)) ∧
      (f + frameFc ≤ s.tl.fc → (∀ x, exec (.rplSnapDone x) s = .next s) ∧ ∃ t, exec .snapshotTimeout s = .next t ∧ failed t 5)

/-- Replay (R563 to R565): ENTER is taken from a covered snapshot, or says why not; restoring ends with a new epoch 4,096 fc
before the fc behind the snapshot; a record acts in its fc, or once there is room; EXIT asks that AT return to Rinom's time
in the next fc.
Readings and choices of this model it rests on: log 87. -/
def Obligations.ReplayEntersInjectsAndExits : Prop :=
  (∀ (s : State) (who : Who) (v : Word), s.stopAccess who Rg.RPL_CMD = none →
    let w := s.writeFields Rg.RPL_CMD v
    (nbits v.toNat 28 4 = 3 →
      (s.f F.RPL_STAT_MODE = 2 → ∃ t, exec (.replayEnter who v) s = .next t ∧ t.b F.RPL_STAT_CMDREJ = true ∧ OnlyRegs s t) ∧
      (s.f F.RPL_STAT_MODE ≠ 2 → w.enterReason ≠ 0 → ∃ t, exec (.replayEnter who v) s = .next t ∧ t.reply = .done ∧
        t.f F.RPL_STAT_REJ = w.enterReason ∧ t.f F.RPL_STAT_MODE = s.f F.RPL_STAT_MODE ∧ OnlyRegs s t) ∧
      (w.enterReason = 0 → ∃ t x, exec (.replayEnter who v) s = .next t ∧ t.reply = .done ∧ t.f F.RPL_STAT_MODE = 2 ∧
        t.b F.RPL_STAT_DONE = false ∧ s.rpl.snaps.get w.snapSel = some x ∧ t.rpl.rd = x.pos ∧ t.seqs = s.seqs ∧ t.mem = s.mem)) ∧
    (nbits v.toNat 28 4 = 4 →
      (s.f F.RPL_STAT_MODE = 3 → ∃ t, exec (.replayExit who v) s = .next t ∧ t.reply = .done ∧
        t.f F.RPL_STAT_MODE = 0 ∧ t.tl = { s.tl with ask := some true } ∧ t.mem = s.mem ∧ t.fab = s.fab) ∧
      (s.f F.RPL_STAT_MODE ≠ 3 → ∃ t, exec (.replayExit who v) s = .next t ∧ t.reply = .done ∧
        t.b F.RPL_STAT_CMDREJ = true ∧ OnlyRegs s t))) ∧
  (∀ s : State,
    (∀ x, s.rpl.snaps.get s.snapSel = some x → s.f F.RPL_STAT_MODE = 2 → ∃ t, exec .replayStart s = .next t ∧
      t.f F.RPL_STAT_MODE = 3 ∧ t.tl.released = true ∧ t.tl.fc = s.tl.fc ∧ t.tl.epochs = satAdd 8 s.tl.epochs 1 ∧
      t.tl.hfn * L + t.tl.at34 = (x.time / 2 ^ 34 * L + x.time % 2 ^ 34 + 1 + 65536 * L - 4096) % (65536 * L)) ∧
    (s.rpl.snaps.get s.snapSel = none ∨ s.f F.RPL_STAT_MODE ≠ 2 → exec .replayStart s = .next s)) ∧
  ∀ s : State,
    let r := s.ringRead s.rpl.rd
    let x := s.queue r.id
    (s.f F.RPL_STAT_MODE = 3 → s.rpl.rd < s.rpl.wr → r.time ≤ s.fullTime →
      (5 ≤ r.type → ∃ t, exec .injection s = .next t ∧ t.rpl.rd = s.rpl.rd + r.size ∧ t.mem = s.mem ∧ t.seqs = s.seqs ∧
        (s.rpl.wr ≤ s.rpl.rd + r.size → t.b F.RPL_STAT_DONE = true ∧ Raised Ev.RPL_DONE s t)) ∧
      (r.type = 1 ∨ r.type = 2 →
        (x.en = false ∨ s.closed 0 = true ∨ x.free < (recordEntries x r.payload).length →
          exec .injection s = .next { s with rpl := { s.rpl with late := true } }) ∧
        (x.en = true → s.closed 0 = false → (recordEntries x r.payload).length ≤ x.free → recordEntries x r.payload ≠ [] →
          s.clearWay r.id → (∀ w ∈ s.mem.writes, w.replay = false) → s.rpl.late = false → r.time = s.fullTime →
          ∃ t, exec .injection s = .next t ∧ t.rpl.rd = s.rpl.rd + r.size ∧
            Pushed r.id (recordEntries x r.payload).length s t))) ∧
    (s.f F.RPL_STAT_MODE ≠ 3 ∨ s.rpl.wr ≤ s.rpl.rd ∨ s.fullTime < r.time → exec .injection s = .next s)

/-! ## Settings, keys, signed commands -/

/-- Settings in NVM (R571, R572, Table 25-7): STORE takes the shadows unless one runs or they do not fit; the copy not in
force takes them and LK fields lock, or the error is reported and no copy changes; NVS_IVAL sets the shadow of the register
NVS_IOFS names, and no live field.
Keys and the lifecycle by register (R574, R575, R582): PROGKEY burns an empty slot of a BLANK part, a burn that reads back
wrong revoking it; ADVANCE leaves BLANK once a slot is usable; elsewhere the result is STATE and no fuse moves; while a
command runs a write is ignored.
Readings and choices of this model it rests on: log 88, 90. -/
def Obligations.SettingsAreStoredAndKeysBurn : Prop :=
  ((∀ (s : State) (who : Who) (v : Word), s.stopAccess who Rg.NVS_CMD = none → nbits v.toNat 28 4 = 1 →
     (s.b F.NVS_STAT_BUSY = true → ∃ t, exec (.store who v) s = .next t ∧ t.reply = .done ∧ t.b F.NVS_STAT_CMDREJ = true ∧
       t.nvs = s.nvs ∧ OnlyRegs s t) ∧
     (s.b F.NVS_STAT_BUSY = false → s.nvs.shadow.length ≤ maxItems → ∃ t, exec (.store who v) s = .next t ∧ t.reply = .done ∧
       t.b F.NVS_STAT_BUSY = true ∧ t.nvs = { s.nvs with snap := some s.nvs.shadow } ∧ OnlyRegs s t) ∧
     (s.b F.NVS_STAT_BUSY = false → maxItems < s.nvs.shadow.length → ∃ t, exec (.store who v) s = .next t ∧ t.reply = .done ∧
       t.b F.NVS_STAT_BUSY = false ∧ t.b F.NVS_STAT_DONE = true ∧ t.f F.NVS_STAT_RESULT = 1 ∧ t.nvs.copies = s.nvs.copies)) ∧
   (∀ s : State, (s.nvs.snap = none → ∀ w, exec (.nvsStored w) s = .next s) ∧
     ∀ items, s.nvs.snap = some items →
       let n : Fin 2 := if s.newerCopy.isSome then Fin.ofNat 2 (s.f F.NVS_STAT_COPY + 1) else 0
       (∃ t, exec (.nvsStored true) s = .next t ∧
         t.nvs.copies.get n = some { gen := (s.f F.NVS_GEN_GEN + 1) % 2 ^ 32, items := items } ∧
         (∀ m, m ≠ n → t.nvs.copies.get m = s.nvs.copies.get m) ∧ t.nvs.locked = true ∧ t.nvs.snap = none ∧
         t.f F.NVS_STAT_COPY = n.val ∧ t.f F.NVS_GEN_GEN = (s.f F.NVS_GEN_GEN + 1) % 2 ^ 32 ∧ t.b F.NVS_STAT_BUSY = false ∧
         t.b F.NVS_STAT_DONE = true ∧ t.f F.NVS_STAT_RESULT = 0 ∧ Raised Ev.NVS_STORED s t ∧ t.mem = s.mem) ∧
       ∃ t, exec (.nvsStored false) s = .next t ∧ t.nvs.copies = s.nvs.copies ∧ t.nvs.locked = s.nvs.locked ∧ t.nvs.snap = none ∧
         t.b F.NVS_STAT_BUSY = false ∧ t.f F.NVS_STAT_RESULT = 2 ∧ Raised Ev.NVS_STORE_FAIL s t) ∧
   ∀ (s : State) (who : Who) (v : Word), s.stopAccess who Rg.NVS_IVAL = none →
     let m := nvsMask s.iofs
     (m ≠ 0 → ∃ t, exec (.nvsIval who v) s = .next t ∧ t.reply = .done ∧ t.regs = s.regs ∧
       t.shadow s.iofs = (s.shadow s.iofs &&& ~~~m) ||| (v &&& m) ∧ ∀ off, off ≠ s.iofs → t.shadow off = s.shadow off) ∧
     (m = 0 → exec (.nvsIval who v) s = .next { s with reply := .done })) ∧
  (∀ (s : State) (who : Who) (v : Word), s.stopAccess who Rg.SEC_CMD = none →
     let n : Fin 4 := Fin.ofNat 4 (s.f F.SEC_KSLOT_SLOT)
     let fin (t : State) (result : Nat) : Prop := t.reply = .done ∧ t.b F.SEC_STAT_BUSY = false ∧ t.b F.SEC_STAT_DONE = true ∧
       t.f F.SEC_STAT_RESULT = result ∧ Raised (if result = 0 then Ev.SEC_CMD_DONE else Ev.SEC_CMD_REJ) s t ∧ t.mem = s.mem
     (s.b F.SEC_STAT_BUSY = true → ∀ i : Instr, i = .progkey who v true ∨ i = .advance who v → ∃ t, exec i s = .next t ∧
       t.reply = .done ∧ t.b F.SEC_STAT_CMDREJ = true ∧ t.fuse = s.fuse ∧ OnlyRegs s t) ∧
     (s.b F.SEC_STAT_BUSY = false → nbits v.toNat 28 4 = 2 →
       (s.fuse.lcs = 0 → s.fuse.prov.get n = false →
         (∃ t, exec (.progkey who v true) s = .next t ∧ fin t 0 ∧ t.fuse.prov.get n = true ∧ t.fuse.keyHash.get n = s.khash ∧
           t.fuse.rev = s.fuse.rev ∧ t.fuse.lcs = 0 ∧ Raised Ev.SEC_KEY_ADDED s t ∧
           ∀ m, m ≠ n → t.fuse.prov.get m = s.fuse.prov.get m ∧ t.fuse.keyHash.get m = s.fuse.keyHash.get m) ∧
         ∃ t, exec (.progkey who v false) s = .next t ∧ fin t 0xA ∧ t.fuse.prov.get n = true ∧ t.fuse.rev.get n = true ∧
           t.slotUsable n.val = false) ∧
       (s.fuse.lcs ≠ 0 ∨ s.fuse.prov.get n = true → ∀ burned, ∃ t, exec (.progkey who v burned) s = .next t ∧ fin t 1 ∧
         t.fuse = s.fuse)) ∧
     (s.b F.SEC_STAT_BUSY = false → nbits v.toNat 28 4 = 3 →
       (s.fuse.lcs = 0 → s.usable ≠ [] → ∃ t, exec (.advance who v) s = .next t ∧ fin t 0 ∧ t.fuse = { s.fuse with lcs := 1 } ∧
         Raised Ev.SEC_LIFECYCLE s t) ∧
       (s.fuse.lcs ≠ 0 ∨ s.usable = [] → ∃ t, exec (.advance who v) s = .next t ∧ fin t 1 ∧ t.fuse = s.fuse)))

/-- Signed commands (R576, R578 to R582, Tables 25-4 and 25-5): one that could not be read, or fails a check, ends with that check's
result and changes nothing else; an accepted one has its CSEQ taken and its effect, or its own reason why not; none acts
unless EXEC runs, and none acts for another's opcode.
Readings and choices of this model it rests on: log 60, 89, 90. -/
def Obligations.SignedCommandsActOnceChecked : Prop :=
  ∀ (s : State) (burned : Bool),
    let run (op : Nat) (token : Option Token) : Instr :=
      if op = 3 then .srClear token else if op = 4 then .lifecycle token burned else if op = 5 then .revoke token burned
      else if op = 6 then .addKey token burned else if op = 7 then .settingsDefault token else .patch token
    let fin (t : State) (result : Nat) : Prop := t.b F.SEC_STAT_BUSY = false ∧ t.b F.SEC_STAT_DONE = true ∧
      t.f F.SEC_STAT_RESULT = result ∧ Raised (if result = 0 then Ev.SEC_CMD_DONE else Ev.SEC_CMD_REJ) s t
    let kept (t : State) : Prop := t.fuse = s.fuse ∧ t.f F.SEC_CMDSEQ_CSEQ = s.f F.SEC_CMDSEQ_CSEQ ∧ t.nvs = s.nvs ∧ t.mem = s.mem
    (∀ op ∈ secOps, ∀ token, s.b F.SEC_STAT_BUSY = false → exec (run op token) s = .next s) ∧
    (∀ op ∈ secOps, s.b F.SEC_STAT_BUSY = true → ∃ t, exec (run op none) s = .next t ∧ fin t 2 ∧ kept t) ∧
    ∀ x : Token, s.b F.SEC_STAT_BUSY = true → x.bytes.length = s.f F.SEC_CLEN_LEN →
      let p := tokPayload x
      let c := s.tokenCheck x secOps
      let op := tokOpcode x
      let taken (t : State) : Prop := t.f F.SEC_CMDSEQ_CSEQ = tokCseq x
      (c ≠ 0 → ∀ o ∈ secOps, ∃ t, exec (run o (some x)) s = .next t ∧ fin t c ∧ kept t) ∧
      (c = 0 → ∀ o ∈ secOps, o ≠ op → exec (run o (some x)) s = .next s) ∧
      (c = 0 →
        (op = 3 → (p = [] → ∃ t, exec (.srClear (some x)) s = .next t ∧ fin t 0 ∧ taken t ∧ t.mem.sr = [] ∧ t.mem.srPend = [] ∧
            t.mem.spares = s.mem.spares ∧ t.f F.ECC_SRRES_USED = 0) ∧
          (p ≠ [] → ∃ t, exec (.srClear (some x)) s = .next t ∧ fin t 9 ∧ kept t)) ∧
        (op = 4 → ((p.length = 1 ∧ leNat p = s.fuse.lcs.val + 1 ∧ leNat p ≤ 3) →
            (burned = true → ∃ t, exec (.lifecycle (some x) true) s = .next t ∧ fin t 0 ∧ taken t ∧
              t.fuse = { s.fuse with lcs := Fin.ofNat 4 (leNat p) } ∧ Raised Ev.SEC_LIFECYCLE s t) ∧
            (burned = false → ∃ t, exec (.lifecycle (some x) false) s = .next t ∧ fin t 0xA ∧ t.fuse = s.fuse)) ∧
          (¬ (p.length = 1 ∧ leNat p = s.fuse.lcs.val + 1 ∧ leNat p ≤ 3) →
            ∃ t, exec (.lifecycle (some x) burned) s = .next t ∧ fin t 9 ∧ kept t)) ∧
        (op = 5 → (s.revokeRefused p = 0 → burned = true → ∃ t, exec (.revoke (some x) true) s = .next t ∧ fin t 0 ∧ taken t ∧
            t.fuse.rev.get (Fin.ofNat 4 (leNat p)) = true ∧ t.fuse.prov = s.fuse.prov ∧ Raised Ev.SEC_REVOKED s t) ∧
          (s.revokeRefused p ≠ 0 → ∃ t, exec (.revoke (some x) burned) s = .next t ∧ fin t (s.revokeRefused p) ∧ kept t)) ∧
        (op = 6 → (s.addRefused p = 0 → burned = true → ∃ t, exec (.addKey (some x) true) s = .next t ∧ fin t 0 ∧ taken t ∧
            t.fuse.prov.get (Fin.ofNat 4 (leNat (p.take 1))) = true ∧ t.fuse.rev = s.fuse.rev ∧
            t.fuse.keyHash.get (Fin.ofNat 4 (leNat (p.take 1))) = leNat (p.drop 1) ∧ Raised Ev.SEC_KEY_ADDED s t) ∧
          (s.addRefused p ≠ 0 → ∃ t, exec (.addKey (some x) burned) s = .next t ∧ fin t (s.addRefused p) ∧ kept t)) ∧
        (op = 7 → p = [] → ∃ t, exec (.settingsDefault (some x)) s = .next t ∧ fin t 0 ∧ taken t ∧ t.nvs.locked = false ∧
          (∀ n, t.nvs.copies.get n = none) ∧ t.nvs.shadow = s.nvs.shadow ∧ t.fuse = s.fuse ∧ t.mem = s.mem) ∧
        (op = 8 → ∃ t, exec (.patch (some x)) s = .next t ∧ fin t 0 ∧ taken t ∧ t.nvs = { s.nvs with patch := p } ∧
          t.fuse = s.fuse ∧ t.mem = s.mem))
end

