-- ==== Sys2Proof/Laws/Sparse.lean ====
section
/-!
SUPPORT. Sys2Proof/Laws/Sparse.lean: reading a sparse map after a write, and the canonical form that writes keep.
-/
namespace Sys2Proof.Machine

/-- A key taken out reads the default. -/
@[simp] theorem mget_mdel_same {α : Type} (d : α) (m : NMap α) (x : Nat) : mget d (mdel m x) x = d := by
  induction m with
  | nil => rfl
  | cons e m ih =>
    obtain ⟨k, v⟩ := e
    by_cases h : k = x <;> simp [mdel, mget, h, ih]

/-- Taking a key out leaves every other key. -/
theorem mget_mdel_ne {α : Type} (d : α) (m : NMap α) {x y : Nat} (h : y ≠ x) : mget d (mdel m x) y = mget d m y := by
  induction m with
  | nil => rfl
  | cons e m ih =>
    obtain ⟨k, v⟩ := e
    by_cases hk : k = x
    · subst hk; simp [mdel, mget, ih, Ne.symm h]
    · simp [mdel, mget, hk, ih]

/-- A key just listed reads its value. -/
@[simp] theorem mget_mins_same {α : Type} (d : α) (m : NMap α) (x : Nat) (a : α) : mget d (mins m x a) x = a := by
  induction m with
  | nil => simp [mins, mget]
  | cons e m ih =>
    obtain ⟨k, v⟩ := e
    simp only [mins]
    split
    · simp [mget]
    · split
      · simp [mget]
      · next h => simp [mget, Ne.symm h, ih]

/-- Listing a key leaves every other key. -/
theorem mget_mins_ne {α : Type} (d : α) (m : NMap α) {x y : Nat} (a : α) (h : y ≠ x) : mget d (mins m x a) y = mget d m y := by
  induction m with
  | nil => simp [mins, mget, Ne.symm h]
  | cons e m ih =>
    obtain ⟨k, v⟩ := e
    simp only [mins]
    split
    · simp [mget, Ne.symm h]
    · split
      · next hk => subst hk; simp [mget, Ne.symm h]
      · simp [mget, ih]

/-- A read of the key just written gives the value written. -/
@[simp] theorem mget_mput_same {α : Type} [DecidableEq α] (d : α) (m : NMap α) (x : Nat) (a : α) :
    mget d (mput d m x a) x = a := by
  unfold mput
  split <;> simp_all

/-- A write leaves every other key. -/
theorem mget_mput_ne {α : Type} [DecidableEq α] (d e : α) (m : NMap α) {x y : Nat} (a : α) (h : y ≠ x) :
    mget d (mput e m x a) y = mget d m y := by
  unfold mput
  split
  · exact mget_mdel_ne d m h
  · exact mget_mins_ne d m a h

/-- Taking a key out keeps the keys rising above a bound. -/
theorem mrise_mdel {α : Type} (m : NMap α) (x b : Nat) (h : mrise b m = true) : mrise b (mdel m x) = true := by
  induction m generalizing b with
  | nil => rfl
  | cons e m ih =>
    obtain ⟨k, v⟩ := e
    simp only [mrise, Bool.and_eq_true, decide_eq_true_eq] at h
    simp only [mdel]
    split
    · have hk := ih (k + 1) h.2
      clear ih
      have weaken : ∀ (n : NMap α) (c : Nat), b ≤ c → mrise c n = true → mrise b n = true := by
        intro n c hc hn
        cases n with
        | nil => rfl
        | cons e n =>
          obtain ⟨j, w⟩ := e
          simp only [mrise, Bool.and_eq_true, decide_eq_true_eq] at hn ⊢
          exact ⟨by omega, hn.2⟩
      exact weaken _ (k + 1) (by omega) hk
    · simp only [mrise, Bool.and_eq_true, decide_eq_true_eq]
      exact ⟨h.1, ih (k + 1) h.2⟩

/-- Listing a key at or above the bound keeps the keys rising. -/
theorem mrise_mins {α : Type} (m : NMap α) (x b : Nat) (a : α) (hx : b ≤ x) (h : mrise b m = true) :
    mrise b (mins m x a) = true := by
  induction m generalizing b with
  | nil => simp [mins, mrise, hx]
  | cons e m ih =>
    obtain ⟨k, v⟩ := e
    simp only [mrise, Bool.and_eq_true, decide_eq_true_eq] at h
    simp only [mins]
    split
    · next hlt => simp only [mrise, Bool.and_eq_true, decide_eq_true_eq]; exact ⟨hx, by omega, h.2⟩
    · split
      · next hk => subst hk; simp only [mrise, Bool.and_eq_true, decide_eq_true_eq]; exact ⟨hx, h.2⟩
      · simp only [mrise, Bool.and_eq_true, decide_eq_true_eq]
        exact ⟨h.1, ih (k + 1) (by omega) h.2⟩

/-- The members left after taking a key out were there before. -/
theorem mem_mdel {α : Type} (m : NMap α) (x : Nat) (e : Nat × α) (h : e ∈ mdel m x) : e ∈ m := by
  induction m with
  | nil => simp [mdel] at h
  | cons f m ih =>
    obtain ⟨k, v⟩ := f
    simp only [mdel] at h
    split at h
    · exact List.mem_cons_of_mem _ (ih h)
    · rcases List.mem_cons.mp h with h | h
      · simp [h]
      · exact List.mem_cons_of_mem _ (ih h)

/-- The members after listing a key are that one and members there before. -/
theorem mem_mins {α : Type} (m : NMap α) (x : Nat) (a : α) (e : Nat × α) (h : e ∈ mins m x a) : e = (x, a) ∨ e ∈ m := by
  induction m with
  | nil => simp [mins] at h; exact .inl h
  | cons f m ih =>
    obtain ⟨k, v⟩ := f
    simp only [mins] at h
    split at h
    · rcases List.mem_cons.mp h with h | h
      · exact .inl h
      · exact .inr h
    · split at h
      · rcases List.mem_cons.mp h with h | h
        · exact .inl h
        · exact .inr (List.mem_cons_of_mem _ h)
      · rcases List.mem_cons.mp h with h | h
        · exact .inr (by simp [h])
        · rcases ih h with h | h
          · exact .inl h
          · exact .inr (List.mem_cons_of_mem _ h)

/-- A write keeps the canonical form. -/
theorem mwf_mput {α : Type} [DecidableEq α] (d : α) (m : NMap α) (x : Nat) (a : α) (h : mwf d m = true) :
    mwf d (mput d m x a) = true := by
  simp only [mwf, Bool.and_eq_true, List.all_eq_true, decide_eq_true_eq] at h ⊢
  unfold mput
  split
  · exact ⟨mrise_mdel m x 0 h.1, fun e he => h.2 e (mem_mdel m x e he)⟩
  · next ha =>
    refine ⟨mrise_mins m x 0 a (by omega) h.1, fun e he => ?_⟩
    rcases mem_mins m x a e he with he | he
    · rw [he]; exact ha
    · exact h.2 e he

/-- The keys rise above a bound: each is below every later one, and none is below the bound. -/
theorem mrise_iff {α : Type} (m : NMap α) (b : Nat) :
    mrise b m = true ↔ m.Pairwise (fun a c => a.1 < c.1) ∧ ∀ e ∈ m, b ≤ e.1 := by
  induction m generalizing b with
  | nil => simp [mrise]
  | cons e m ih =>
    obtain ⟨k, v⟩ := e
    simp only [mrise, Bool.and_eq_true, decide_eq_true_eq, ih, List.pairwise_cons, List.mem_cons, forall_eq_or_imp]
    refine ⟨fun ⟨h1, h2, h3⟩ => ⟨⟨fun a ha => h3 a ha, h2⟩, h1, fun a ha => ?_⟩, fun ⟨⟨h1, h2⟩, h3, _⟩ => ⟨h3, h2, fun a ha => h1 a ha⟩⟩
    have := h3 a ha
    omega

/-- Taking entries out keeps the keys rising. -/
theorem mrise_filter {α : Type} (p : Nat × α → Bool) (m : NMap α) (b : Nat) (h : mrise b m = true) :
    mrise b (m.filter p) = true := by
  rw [mrise_iff] at h ⊢
  exact ⟨h.1.filter p, fun e he => h.2 e (List.mem_filter.1 he).1⟩

/-- Taking entries out keeps the canonical form. -/
theorem mwf_filter {α : Type} [DecidableEq α] (d : α) (p : Nat × α → Bool) (m : NMap α) (h : mwf d m = true) :
    mwf d (m.filter p) = true := by
  simp only [mwf, Bool.and_eq_true, List.all_eq_true, decide_eq_true_eq] at h ⊢
  exact ⟨mrise_filter p m 0 h.1, fun e he => h.2 e (List.mem_filter.1 he).1⟩

/-- Replacing a stretch of entries by rising ones that lie in it keeps the keys rising. -/
theorem mrise_mpatch {α : Type} (m new : NMap α) (lo hi b : Nat) (hb : b ≤ lo) (hl : lo ≤ hi) (hm : mrise b m = true)
    (hn : new.Pairwise (fun a c => a.1 < c.1)) (hin : ∀ e ∈ new, lo ≤ e.1 ∧ e.1 < hi) : mrise b (mpatch m lo hi new) = true := by
  rw [mrise_iff] at hm ⊢
  unfold mpatch
  refine ⟨?_, ?_⟩
  · rw [List.pairwise_append, List.pairwise_append]
    refine ⟨⟨hm.1.filter _, hn, fun a ha c hc => ?_⟩, hm.1.filter _, fun a ha c hc => ?_⟩
    · have h1 := (List.mem_filter.1 ha).2
      have h2 := hin c hc
      simp only [decide_eq_true_eq] at h1
      omega
    · have h2 := (List.mem_filter.1 hc).2
      simp only [decide_eq_true_eq] at h2
      rcases List.mem_append.1 ha with ha | ha
      · have h1 := (List.mem_filter.1 ha).2
        simp only [decide_eq_true_eq] at h1
        omega
      · have h1 := hin a ha
        omega
  · intro e he
    rcases List.mem_append.1 he with he | he
    · rcases List.mem_append.1 he with he | he
      · exact hm.2 e (List.mem_filter.1 he).1
      · have := hin e he; omega
    · exact hm.2 e (List.mem_filter.1 he).1

/-- Moving a stretch of entries over another keeps the keys rising. -/
theorem mrise_mmove {α : Type} (m : NMap α) (src dst n : Nat) (h : mrise 0 m = true) : mrise 0 (mmove m src dst n) = true := by
  have hp := (mrise_iff m 0).1 h
  unfold mmove
  refine mrise_mpatch m _ dst (dst + n) 0 (by omega) (by omega) h ?_ ?_
  · rw [List.pairwise_map]
    refine (hp.1.filter (fun e => decide (src ≤ e.1 ∧ e.1 < src + n))).imp_of_mem fun {a c} ha hc hac => ?_
    have h1 := (List.mem_filter.1 ha).2
    simp only [decide_eq_true_eq] at h1
    show dst + (a.1 - src) < dst + (c.1 - src)
    omega
  · intro e he
    obtain ⟨x, hx, rfl⟩ := List.mem_map.1 he
    have h1 := (List.mem_filter.1 hx).2
    simp only [decide_eq_true_eq] at h1
    show dst ≤ dst + (x.1 - src) ∧ dst + (x.1 - src) < dst + n
    omega

/-- Moving a stretch of entries over another keeps the canonical form. -/
theorem mwf_mmove {α : Type} [DecidableEq α] (d : α) (m : NMap α) (src dst n : Nat) (h : mwf d m = true) :
    mwf d (mmove m src dst n) = true := by
  simp only [mwf, Bool.and_eq_true, List.all_eq_true, decide_eq_true_eq] at h ⊢
  refine ⟨mrise_mmove m src dst n h.1, fun e he => ?_⟩
  unfold mmove mpatch at he
  rcases List.mem_append.1 he with he | he
  · rcases List.mem_append.1 he with he | he
    · exact h.2 e (List.mem_filter.1 he).1
    · obtain ⟨x, hx, rfl⟩ := List.mem_map.1 he
      exact h.2 x (List.mem_filter.1 hx).1
  · exact h.2 e (List.mem_filter.1 he).1

end Sys2Proof.Machine
end

