-- ==== Sys2Proof/Laws/Regs.lean ====
section
/-!
SUPPORT. Sys2Proof/Laws/Regs.lean: reading a register or a field after a write.
-/
namespace Sys2Proof.Machine
open Sys2Proof

/-- A register just written reads the value. -/
@[simp] theorem State.reg_setReg_same (s : State) (off : Nat) (w : Word) : (s.setReg off w).reg off = w := by
  simp [State.reg, State.setReg]

/-- A register write leaves every other register. -/
theorem State.reg_setReg_ne (s : State) {off a : Nat} (w : Word) (h : a ≠ off) : (s.setReg off w).reg a = s.reg a := by
  simp [State.reg, State.setReg, mget_mput_ne _ _ _ _ h]

/-- A field just put reads the value, cut to its width. -/
theorem fldGet_fldPut_same (x : Fld) (w : Word) (v : Nat) (h : x.lo + x.w ≤ 32) :
    fldGet x (fldPut x w v) = v % 2 ^ x.w := by
  have hb : ∀ i, i < x.w → (fldPut x w v).getLsbD (x.lo + i) = (v % 2 ^ x.w).testBit i := by
    intro i hi
    have h32 : x.lo + i < 32 := by omega
    have e1 : (2 ^ x.w - 1) * 2 ^ x.lo = (2 ^ x.w - 1) <<< x.lo := by rw [Nat.shiftLeft_eq]
    have e2 : v % 2 ^ x.w * 2 ^ x.lo = (v % 2 ^ x.w) <<< x.lo := by rw [Nat.shiftLeft_eq]
    simp only [fldPut, BitVec.getLsbD_or, BitVec.getLsbD_and, BitVec.getLsbD_not, BitVec.getLsbD_ofNat, e1, e2,
      Nat.testBit_shiftLeft, h32, Nat.testBit_two_pow_sub_one]
    simp [hi]
  apply Nat.eq_of_testBit_eq
  intro i
  have hd : fldGet x (fldPut x w v) = ((fldPut x w v).toNat >>> x.lo) % 2 ^ x.w := by
    rw [fldGet, Nat.shiftRight_eq_div_pow]
  rw [hd, Nat.testBit_mod_two_pow, Nat.testBit_shiftRight]
  by_cases hi : i < x.w
  · have := hb i hi
    rw [BitVec.getLsbD] at this
    simp [hi, this]
  · have : (v % 2 ^ x.w).testBit i = false := by
      apply Nat.testBit_lt_two_pow
      exact Nat.lt_of_lt_of_le (Nat.mod_lt _ (Nat.two_pow_pos _)) (Nat.pow_le_pow_right (by decide) (by omega))
    simp [hi, this]

/-- A field put leaves the fields beside it. -/
theorem fldGet_fldPut_other (x y : Fld) (w : Word) (v : Nat) (h : y.lo + y.w ≤ x.lo ∨ x.lo + x.w ≤ y.lo) (hy : y.lo + y.w ≤ 32) :
    fldGet y (fldPut x w v) = fldGet y w := by
  have hb : ∀ i, i < y.w → (fldPut x w v).getLsbD (y.lo + i) = w.getLsbD (y.lo + i) := by
    intro i hi
    have h32 : y.lo + i < 32 := by omega
    have e1 : (2 ^ x.w - 1) * 2 ^ x.lo = (2 ^ x.w - 1) <<< x.lo := by rw [Nat.shiftLeft_eq]
    have e2 : v % 2 ^ x.w * 2 ^ x.lo = (v % 2 ^ x.w) <<< x.lo := by rw [Nat.shiftLeft_eq]
    have hz : x.lo ≤ y.lo + i → ¬ (y.lo + i - x.lo < x.w) := by omega
    by_cases hl : x.lo ≤ y.lo + i
    · have hv : (v % 2 ^ x.w).testBit (y.lo + i - x.lo) = false := by
        apply Nat.testBit_lt_two_pow
        exact Nat.lt_of_lt_of_le (Nat.mod_lt _ (Nat.two_pow_pos _)) (Nat.pow_le_pow_right (by decide) (by have := hz hl; omega))
      simp only [fldPut, BitVec.getLsbD_or, BitVec.getLsbD_and, BitVec.getLsbD_not, BitVec.getLsbD_ofNat, e1, e2,
        Nat.testBit_shiftLeft, h32, Nat.testBit_two_pow_sub_one, hv]
      simp [hz hl]
    · simp only [fldPut, BitVec.getLsbD_or, BitVec.getLsbD_and, BitVec.getLsbD_not, BitVec.getLsbD_ofNat, e1, e2,
        Nat.testBit_shiftLeft, h32]
      simp [hl]
  apply Nat.eq_of_testBit_eq
  intro i
  have hd : ∀ u : Word, fldGet y u = (u.toNat >>> y.lo) % 2 ^ y.w := by
    intro u; rw [fldGet, Nat.shiftRight_eq_div_pow]
  rw [hd, hd, Nat.testBit_mod_two_pow, Nat.testBit_mod_two_pow, Nat.testBit_shiftRight, Nat.testBit_shiftRight]
  by_cases hi : i < y.w
  · have := hb i hi
    rw [BitVec.getLsbD, BitVec.getLsbD] at this
    simp [hi, this]
  · simp [hi]

/-- A field just written reads the value, cut to its width. -/
theorem State.f_setF_same (s : State) (x : Fld) (v : Nat) (h : x.lo + x.w ≤ 32) : (s.setF x v).f x = v % 2 ^ x.w := by
  simp [State.f, State.setF, fldGet_fldPut_same x _ v h]

/-- A field write leaves the fields of other registers. -/
theorem State.f_setF_off (s : State) (x y : Fld) (v : Nat) (h : y.off ≠ x.off) : (s.setF x v).f y = s.f y := by
  simp [State.f, State.setF, State.reg_setReg_ne _ _ h]

/-- A field write leaves the other fields of its register. -/
theorem State.f_setF_beside (s : State) (x y : Fld) (v : Nat) (ho : y.off = x.off)
    (h : y.lo + y.w ≤ x.lo ∨ x.lo + x.w ≤ y.lo) (hy : y.lo + y.w ≤ 32) : (s.setF x v).f y = s.f y := by
  simp [State.f, State.setF, ho, fldGet_fldPut_other x y _ v h hy]

/-- A field write leaves every other register. -/
theorem State.reg_setF_ne (s : State) (x : Fld) {a : Nat} (v : Nat) (h : a ≠ x.off) : (s.setF x v).reg a = s.reg a :=
  State.reg_setReg_ne s _ h

/-- A register write leaves the fields of other registers. -/
theorem State.f_setReg_ne (s : State) {off : Nat} (y : Fld) (w : Word) (h : y.off ≠ off) : (s.setReg off w).f y = s.f y := by
  simp [State.f, State.reg_setReg_ne _ _ h]

end Sys2Proof.Machine
end

