-- ==== Sys2Proof/Laws/State.lean ====
section
/-!
SUPPORT. Sys2Proof/Laws/State.lean: what the plain updates of the state leave: one lemma for each field and update, so that no
proof unfolds a record update.
-/
namespace Sys2Proof.Machine
open Sys2Proof


/-! ## After a register write -/

@[simp] theorem State.setReg_pending (s : State) (off : Nat) (w : Word) : (s.setReg off w).pending = s.pending := rfl
@[simp] theorem State.setReg_reply (s : State) (off : Nat) (w : Word) : (s.setReg off w).reply = s.reply := rfl
@[simp] theorem State.setReg_free (s : State) (off : Nat) (w : Word) : (s.setReg off w).free = s.free := rfl
@[simp] theorem State.setReg_out (s : State) (off : Nat) (w : Word) : (s.setReg off w).out = s.out := rfl
@[simp] theorem State.setReg_lastAt (s : State) (off : Nat) (w : Word) : (s.setReg off w).lastAt = s.lastAt := rfl
@[simp] theorem State.setReg_unsampled (s : State) (off : Nat) (w : Word) : (s.setReg off w).unsampled = s.unsampled := rfl
@[simp] theorem State.setReg_shadowHi (s : State) (off : Nat) (w : Word) : (s.setReg off w).shadowHi = s.shadowHi := rfl
@[simp] theorem State.setReg_tl (s : State) (off : Nat) (w : Word) : (s.setReg off w).tl = s.tl := rfl
@[simp] theorem State.setReg_evt (s : State) (off : Nat) (w : Word) : (s.setReg off w).evt = s.evt := rfl
@[simp] theorem State.setReg_rcd (s : State) (off : Nat) (w : Word) : (s.setReg off w).rcd = s.rcd := rfl
@[simp] theorem State.setReg_seqs (s : State) (off : Nat) (w : Word) : (s.setReg off w).seqs = s.seqs := rfl
@[simp] theorem State.setReg_flags (s : State) (off : Nat) (w : Word) : (s.setReg off w).flags = s.flags := rfl
@[simp] theorem State.setReg_fab (s : State) (off : Nat) (w : Word) : (s.setReg off w).fab = s.fab := rfl
@[simp] theorem State.setReg_rin (s : State) (off : Nat) (w : Word) : (s.setReg off w).rin = s.rin := rfl
@[simp] theorem State.setReg_fuse (s : State) (off : Nat) (w : Word) : (s.setReg off w).fuse = s.fuse := rfl
@[simp] theorem State.setReg_rpl (s : State) (off : Nat) (w : Word) : (s.setReg off w).rpl = s.rpl := rfl
@[simp] theorem State.setReg_pwr (s : State) (off : Nat) (w : Word) : (s.setReg off w).pwr = s.pwr := rfl
@[simp] theorem State.setReg_thm (s : State) (off : Nat) (w : Word) : (s.setReg off w).thm = s.thm := rfl
@[simp] theorem State.setReg_nvs (s : State) (off : Nat) (w : Word) : (s.setReg off w).nvs = s.nvs := rfl
@[simp] theorem State.setReg_ld (s : State) (off : Nat) (w : Word) : (s.setReg off w).ld = s.ld := rfl
@[simp] theorem State.setReg_fl (s : State) (off : Nat) (w : Word) : (s.setReg off w).fl = s.fl := rfl
@[simp] theorem State.setReg_rb (s : State) (off : Nat) (w : Word) : (s.setReg off w).rb = s.rb := rfl
@[simp] theorem State.setReg_arm (s : State) (off : Nat) (w : Word) : (s.setReg off w).arm = s.arm := rfl
@[simp] theorem State.setReg_heldStart (s : State) (off : Nat) (w : Word) : (s.setReg off w).heldStart = s.heldStart := rfl
@[simp] theorem State.setReg_board (s : State) (off : Nat) (w : Word) : (s.setReg off w).board = s.board := rfl
@[simp] theorem State.setReg_vl (s : State) (off : Nat) (w : Word) : (s.setReg off w).vl = s.vl := rfl
@[simp] theorem State.setReg_mem (s : State) (off : Nat) (w : Word) : (s.setReg off w).mem = s.mem := rfl
@[simp] theorem State.setReg_qs (s : State) (off : Nat) (w : Word) : (s.setReg off w).qs = s.qs := rfl
@[simp] theorem State.setReg_flow (s : State) (off : Nat) (w : Word) : (s.setReg off w).flow = s.flow := rfl
@[simp] theorem State.setReg_flowPast (s : State) (off : Nat) (w : Word) : (s.setReg off w).flowPast = s.flowPast := rfl
@[simp] theorem State.setReg_dma (s : State) (off : Nat) (w : Word) : (s.setReg off w).dma = s.dma := rfl
@[simp] theorem State.setReg_fh (s : State) (off : Nat) (w : Word) : (s.setReg off w).fh = s.fh := rfl
@[simp] theorem State.setReg_pcieUp (s : State) (off : Nat) (w : Word) : (s.setReg off w).pcieUp = s.pcieUp := rfl
@[simp] theorem State.setReg_tap (s : State) (off : Nat) (w : Word) : (s.setReg off w).tap = s.tap := rfl

/-! ## After a field write -/

@[simp] theorem State.setF_pending (s : State) (x : Fld) (v : Nat) : (s.setF x v).pending = s.pending := rfl
@[simp] theorem State.setF_reply (s : State) (x : Fld) (v : Nat) : (s.setF x v).reply = s.reply := rfl
@[simp] theorem State.setF_free (s : State) (x : Fld) (v : Nat) : (s.setF x v).free = s.free := rfl
@[simp] theorem State.setF_out (s : State) (x : Fld) (v : Nat) : (s.setF x v).out = s.out := rfl
@[simp] theorem State.setF_lastAt (s : State) (x : Fld) (v : Nat) : (s.setF x v).lastAt = s.lastAt := rfl
@[simp] theorem State.setF_unsampled (s : State) (x : Fld) (v : Nat) : (s.setF x v).unsampled = s.unsampled := rfl
@[simp] theorem State.setF_shadowHi (s : State) (x : Fld) (v : Nat) : (s.setF x v).shadowHi = s.shadowHi := rfl
@[simp] theorem State.setF_tl (s : State) (x : Fld) (v : Nat) : (s.setF x v).tl = s.tl := rfl
@[simp] theorem State.setF_evt (s : State) (x : Fld) (v : Nat) : (s.setF x v).evt = s.evt := rfl
@[simp] theorem State.setF_rcd (s : State) (x : Fld) (v : Nat) : (s.setF x v).rcd = s.rcd := rfl
@[simp] theorem State.setF_seqs (s : State) (x : Fld) (v : Nat) : (s.setF x v).seqs = s.seqs := rfl
@[simp] theorem State.setF_flags (s : State) (x : Fld) (v : Nat) : (s.setF x v).flags = s.flags := rfl
@[simp] theorem State.setF_fab (s : State) (x : Fld) (v : Nat) : (s.setF x v).fab = s.fab := rfl
@[simp] theorem State.setF_rin (s : State) (x : Fld) (v : Nat) : (s.setF x v).rin = s.rin := rfl
@[simp] theorem State.setF_fuse (s : State) (x : Fld) (v : Nat) : (s.setF x v).fuse = s.fuse := rfl
@[simp] theorem State.setF_rpl (s : State) (x : Fld) (v : Nat) : (s.setF x v).rpl = s.rpl := rfl
@[simp] theorem State.setF_pwr (s : State) (x : Fld) (v : Nat) : (s.setF x v).pwr = s.pwr := rfl
@[simp] theorem State.setF_thm (s : State) (x : Fld) (v : Nat) : (s.setF x v).thm = s.thm := rfl
@[simp] theorem State.setF_nvs (s : State) (x : Fld) (v : Nat) : (s.setF x v).nvs = s.nvs := rfl
@[simp] theorem State.setF_ld (s : State) (x : Fld) (v : Nat) : (s.setF x v).ld = s.ld := rfl
@[simp] theorem State.setF_fl (s : State) (x : Fld) (v : Nat) : (s.setF x v).fl = s.fl := rfl
@[simp] theorem State.setF_rb (s : State) (x : Fld) (v : Nat) : (s.setF x v).rb = s.rb := rfl
@[simp] theorem State.setF_arm (s : State) (x : Fld) (v : Nat) : (s.setF x v).arm = s.arm := rfl
@[simp] theorem State.setF_heldStart (s : State) (x : Fld) (v : Nat) : (s.setF x v).heldStart = s.heldStart := rfl
@[simp] theorem State.setF_board (s : State) (x : Fld) (v : Nat) : (s.setF x v).board = s.board := rfl
@[simp] theorem State.setF_vl (s : State) (x : Fld) (v : Nat) : (s.setF x v).vl = s.vl := rfl
@[simp] theorem State.setF_mem (s : State) (x : Fld) (v : Nat) : (s.setF x v).mem = s.mem := rfl
@[simp] theorem State.setF_qs (s : State) (x : Fld) (v : Nat) : (s.setF x v).qs = s.qs := rfl
@[simp] theorem State.setF_flow (s : State) (x : Fld) (v : Nat) : (s.setF x v).flow = s.flow := rfl
@[simp] theorem State.setF_flowPast (s : State) (x : Fld) (v : Nat) : (s.setF x v).flowPast = s.flowPast := rfl
@[simp] theorem State.setF_dma (s : State) (x : Fld) (v : Nat) : (s.setF x v).dma = s.dma := rfl
@[simp] theorem State.setF_fh (s : State) (x : Fld) (v : Nat) : (s.setF x v).fh = s.fh := rfl
@[simp] theorem State.setF_pcieUp (s : State) (x : Fld) (v : Nat) : (s.setF x v).pcieUp = s.pcieUp := rfl
@[simp] theorem State.setF_tap (s : State) (x : Fld) (v : Nat) : (s.setF x v).tap = s.tap := rfl

/-! ## After something leaving the part -/

@[simp] theorem State.emit_pending (s : State) (o : Out) : (s.emit o).pending = s.pending := rfl
@[simp] theorem State.emit_reply (s : State) (o : Out) : (s.emit o).reply = s.reply := rfl
@[simp] theorem State.emit_free (s : State) (o : Out) : (s.emit o).free = s.free := rfl
@[simp] theorem State.emit_regs (s : State) (o : Out) : (s.emit o).regs = s.regs := rfl
@[simp] theorem State.emit_lastAt (s : State) (o : Out) : (s.emit o).lastAt = s.lastAt := rfl
@[simp] theorem State.emit_unsampled (s : State) (o : Out) : (s.emit o).unsampled = s.unsampled := rfl
@[simp] theorem State.emit_shadowHi (s : State) (o : Out) : (s.emit o).shadowHi = s.shadowHi := rfl
@[simp] theorem State.emit_tl (s : State) (o : Out) : (s.emit o).tl = s.tl := rfl
@[simp] theorem State.emit_evt (s : State) (o : Out) : (s.emit o).evt = s.evt := rfl
@[simp] theorem State.emit_rcd (s : State) (o : Out) : (s.emit o).rcd = s.rcd := rfl
@[simp] theorem State.emit_seqs (s : State) (o : Out) : (s.emit o).seqs = s.seqs := rfl
@[simp] theorem State.emit_flags (s : State) (o : Out) : (s.emit o).flags = s.flags := rfl
@[simp] theorem State.emit_fab (s : State) (o : Out) : (s.emit o).fab = s.fab := rfl
@[simp] theorem State.emit_rin (s : State) (o : Out) : (s.emit o).rin = s.rin := rfl
@[simp] theorem State.emit_fuse (s : State) (o : Out) : (s.emit o).fuse = s.fuse := rfl
@[simp] theorem State.emit_rpl (s : State) (o : Out) : (s.emit o).rpl = s.rpl := rfl
@[simp] theorem State.emit_pwr (s : State) (o : Out) : (s.emit o).pwr = s.pwr := rfl
@[simp] theorem State.emit_thm (s : State) (o : Out) : (s.emit o).thm = s.thm := rfl
@[simp] theorem State.emit_nvs (s : State) (o : Out) : (s.emit o).nvs = s.nvs := rfl
@[simp] theorem State.emit_ld (s : State) (o : Out) : (s.emit o).ld = s.ld := rfl
@[simp] theorem State.emit_fl (s : State) (o : Out) : (s.emit o).fl = s.fl := rfl
@[simp] theorem State.emit_rb (s : State) (o : Out) : (s.emit o).rb = s.rb := rfl
@[simp] theorem State.emit_arm (s : State) (o : Out) : (s.emit o).arm = s.arm := rfl
@[simp] theorem State.emit_heldStart (s : State) (o : Out) : (s.emit o).heldStart = s.heldStart := rfl
@[simp] theorem State.emit_board (s : State) (o : Out) : (s.emit o).board = s.board := rfl
@[simp] theorem State.emit_vl (s : State) (o : Out) : (s.emit o).vl = s.vl := rfl
@[simp] theorem State.emit_mem (s : State) (o : Out) : (s.emit o).mem = s.mem := rfl
@[simp] theorem State.emit_qs (s : State) (o : Out) : (s.emit o).qs = s.qs := rfl
@[simp] theorem State.emit_flow (s : State) (o : Out) : (s.emit o).flow = s.flow := rfl
@[simp] theorem State.emit_flowPast (s : State) (o : Out) : (s.emit o).flowPast = s.flowPast := rfl
@[simp] theorem State.emit_dma (s : State) (o : Out) : (s.emit o).dma = s.dma := rfl
@[simp] theorem State.emit_fh (s : State) (o : Out) : (s.emit o).fh = s.fh := rfl
@[simp] theorem State.emit_pcieUp (s : State) (o : Out) : (s.emit o).pcieUp = s.pcieUp := rfl
@[simp] theorem State.emit_tap (s : State) (o : Out) : (s.emit o).tap = s.tap := rfl

/-! ## After what the controller keeps for a source -/

@[simp] theorem State.setSrc_pending (s : State) (n : Nat) (i : SrcInfo) : (s.setSrc n i).pending = s.pending := rfl
@[simp] theorem State.setSrc_reply (s : State) (n : Nat) (i : SrcInfo) : (s.setSrc n i).reply = s.reply := rfl
@[simp] theorem State.setSrc_free (s : State) (n : Nat) (i : SrcInfo) : (s.setSrc n i).free = s.free := rfl
@[simp] theorem State.setSrc_out (s : State) (n : Nat) (i : SrcInfo) : (s.setSrc n i).out = s.out := rfl
@[simp] theorem State.setSrc_regs (s : State) (n : Nat) (i : SrcInfo) : (s.setSrc n i).regs = s.regs := rfl
@[simp] theorem State.setSrc_lastAt (s : State) (n : Nat) (i : SrcInfo) : (s.setSrc n i).lastAt = s.lastAt := rfl
@[simp] theorem State.setSrc_unsampled (s : State) (n : Nat) (i : SrcInfo) : (s.setSrc n i).unsampled = s.unsampled := rfl
@[simp] theorem State.setSrc_shadowHi (s : State) (n : Nat) (i : SrcInfo) : (s.setSrc n i).shadowHi = s.shadowHi := rfl
@[simp] theorem State.setSrc_tl (s : State) (n : Nat) (i : SrcInfo) : (s.setSrc n i).tl = s.tl := rfl
@[simp] theorem State.setSrc_rcd (s : State) (n : Nat) (i : SrcInfo) : (s.setSrc n i).rcd = s.rcd := rfl
@[simp] theorem State.setSrc_seqs (s : State) (n : Nat) (i : SrcInfo) : (s.setSrc n i).seqs = s.seqs := rfl
@[simp] theorem State.setSrc_flags (s : State) (n : Nat) (i : SrcInfo) : (s.setSrc n i).flags = s.flags := rfl
@[simp] theorem State.setSrc_fab (s : State) (n : Nat) (i : SrcInfo) : (s.setSrc n i).fab = s.fab := rfl
@[simp] theorem State.setSrc_rin (s : State) (n : Nat) (i : SrcInfo) : (s.setSrc n i).rin = s.rin := rfl
@[simp] theorem State.setSrc_fuse (s : State) (n : Nat) (i : SrcInfo) : (s.setSrc n i).fuse = s.fuse := rfl
@[simp] theorem State.setSrc_rpl (s : State) (n : Nat) (i : SrcInfo) : (s.setSrc n i).rpl = s.rpl := rfl
@[simp] theorem State.setSrc_pwr (s : State) (n : Nat) (i : SrcInfo) : (s.setSrc n i).pwr = s.pwr := rfl
@[simp] theorem State.setSrc_thm (s : State) (n : Nat) (i : SrcInfo) : (s.setSrc n i).thm = s.thm := rfl
@[simp] theorem State.setSrc_nvs (s : State) (n : Nat) (i : SrcInfo) : (s.setSrc n i).nvs = s.nvs := rfl
@[simp] theorem State.setSrc_ld (s : State) (n : Nat) (i : SrcInfo) : (s.setSrc n i).ld = s.ld := rfl
@[simp] theorem State.setSrc_fl (s : State) (n : Nat) (i : SrcInfo) : (s.setSrc n i).fl = s.fl := rfl
@[simp] theorem State.setSrc_rb (s : State) (n : Nat) (i : SrcInfo) : (s.setSrc n i).rb = s.rb := rfl
@[simp] theorem State.setSrc_arm (s : State) (n : Nat) (i : SrcInfo) : (s.setSrc n i).arm = s.arm := rfl
@[simp] theorem State.setSrc_heldStart (s : State) (n : Nat) (i : SrcInfo) : (s.setSrc n i).heldStart = s.heldStart := rfl
@[simp] theorem State.setSrc_board (s : State) (n : Nat) (i : SrcInfo) : (s.setSrc n i).board = s.board := rfl
@[simp] theorem State.setSrc_vl (s : State) (n : Nat) (i : SrcInfo) : (s.setSrc n i).vl = s.vl := rfl
@[simp] theorem State.setSrc_mem (s : State) (n : Nat) (i : SrcInfo) : (s.setSrc n i).mem = s.mem := rfl
@[simp] theorem State.setSrc_qs (s : State) (n : Nat) (i : SrcInfo) : (s.setSrc n i).qs = s.qs := rfl
@[simp] theorem State.setSrc_flow (s : State) (n : Nat) (i : SrcInfo) : (s.setSrc n i).flow = s.flow := rfl
@[simp] theorem State.setSrc_flowPast (s : State) (n : Nat) (i : SrcInfo) : (s.setSrc n i).flowPast = s.flowPast := rfl
@[simp] theorem State.setSrc_dma (s : State) (n : Nat) (i : SrcInfo) : (s.setSrc n i).dma = s.dma := rfl
@[simp] theorem State.setSrc_fh (s : State) (n : Nat) (i : SrcInfo) : (s.setSrc n i).fh = s.fh := rfl
@[simp] theorem State.setSrc_pcieUp (s : State) (n : Nat) (i : SrcInfo) : (s.setSrc n i).pcieUp = s.pcieUp := rfl
@[simp] theorem State.setSrc_tap (s : State) (n : Nat) (i : SrcInfo) : (s.setSrc n i).tap = s.tap := rfl

/-! ## After a change of one sequencer -/

@[simp] theorem State.modSeq_pending (s : State) (k : Fin 4) (h : Seq → Seq) : (s.modSeq k h).pending = s.pending := rfl
@[simp] theorem State.modSeq_reply (s : State) (k : Fin 4) (h : Seq → Seq) : (s.modSeq k h).reply = s.reply := rfl
@[simp] theorem State.modSeq_free (s : State) (k : Fin 4) (h : Seq → Seq) : (s.modSeq k h).free = s.free := rfl
@[simp] theorem State.modSeq_out (s : State) (k : Fin 4) (h : Seq → Seq) : (s.modSeq k h).out = s.out := rfl
@[simp] theorem State.modSeq_regs (s : State) (k : Fin 4) (h : Seq → Seq) : (s.modSeq k h).regs = s.regs := rfl
@[simp] theorem State.modSeq_lastAt (s : State) (k : Fin 4) (h : Seq → Seq) : (s.modSeq k h).lastAt = s.lastAt := rfl
@[simp] theorem State.modSeq_unsampled (s : State) (k : Fin 4) (h : Seq → Seq) : (s.modSeq k h).unsampled = s.unsampled := rfl
@[simp] theorem State.modSeq_shadowHi (s : State) (k : Fin 4) (h : Seq → Seq) : (s.modSeq k h).shadowHi = s.shadowHi := rfl
@[simp] theorem State.modSeq_tl (s : State) (k : Fin 4) (h : Seq → Seq) : (s.modSeq k h).tl = s.tl := rfl
@[simp] theorem State.modSeq_evt (s : State) (k : Fin 4) (h : Seq → Seq) : (s.modSeq k h).evt = s.evt := rfl
@[simp] theorem State.modSeq_rcd (s : State) (k : Fin 4) (h : Seq → Seq) : (s.modSeq k h).rcd = s.rcd := rfl
@[simp] theorem State.modSeq_flags (s : State) (k : Fin 4) (h : Seq → Seq) : (s.modSeq k h).flags = s.flags := rfl
@[simp] theorem State.modSeq_fab (s : State) (k : Fin 4) (h : Seq → Seq) : (s.modSeq k h).fab = s.fab := rfl
@[simp] theorem State.modSeq_rin (s : State) (k : Fin 4) (h : Seq → Seq) : (s.modSeq k h).rin = s.rin := rfl
@[simp] theorem State.modSeq_fuse (s : State) (k : Fin 4) (h : Seq → Seq) : (s.modSeq k h).fuse = s.fuse := rfl
@[simp] theorem State.modSeq_rpl (s : State) (k : Fin 4) (h : Seq → Seq) : (s.modSeq k h).rpl = s.rpl := rfl
@[simp] theorem State.modSeq_pwr (s : State) (k : Fin 4) (h : Seq → Seq) : (s.modSeq k h).pwr = s.pwr := rfl
@[simp] theorem State.modSeq_thm (s : State) (k : Fin 4) (h : Seq → Seq) : (s.modSeq k h).thm = s.thm := rfl
@[simp] theorem State.modSeq_nvs (s : State) (k : Fin 4) (h : Seq → Seq) : (s.modSeq k h).nvs = s.nvs := rfl
@[simp] theorem State.modSeq_ld (s : State) (k : Fin 4) (h : Seq → Seq) : (s.modSeq k h).ld = s.ld := rfl
@[simp] theorem State.modSeq_fl (s : State) (k : Fin 4) (h : Seq → Seq) : (s.modSeq k h).fl = s.fl := rfl
@[simp] theorem State.modSeq_rb (s : State) (k : Fin 4) (h : Seq → Seq) : (s.modSeq k h).rb = s.rb := rfl
@[simp] theorem State.modSeq_arm (s : State) (k : Fin 4) (h : Seq → Seq) : (s.modSeq k h).arm = s.arm := rfl
@[simp] theorem State.modSeq_heldStart (s : State) (k : Fin 4) (h : Seq → Seq) : (s.modSeq k h).heldStart = s.heldStart := rfl
@[simp] theorem State.modSeq_board (s : State) (k : Fin 4) (h : Seq → Seq) : (s.modSeq k h).board = s.board := rfl
@[simp] theorem State.modSeq_vl (s : State) (k : Fin 4) (h : Seq → Seq) : (s.modSeq k h).vl = s.vl := rfl
@[simp] theorem State.modSeq_mem (s : State) (k : Fin 4) (h : Seq → Seq) : (s.modSeq k h).mem = s.mem := rfl
@[simp] theorem State.modSeq_qs (s : State) (k : Fin 4) (h : Seq → Seq) : (s.modSeq k h).qs = s.qs := rfl
@[simp] theorem State.modSeq_flow (s : State) (k : Fin 4) (h : Seq → Seq) : (s.modSeq k h).flow = s.flow := rfl
@[simp] theorem State.modSeq_flowPast (s : State) (k : Fin 4) (h : Seq → Seq) : (s.modSeq k h).flowPast = s.flowPast := rfl
@[simp] theorem State.modSeq_dma (s : State) (k : Fin 4) (h : Seq → Seq) : (s.modSeq k h).dma = s.dma := rfl
@[simp] theorem State.modSeq_fh (s : State) (k : Fin 4) (h : Seq → Seq) : (s.modSeq k h).fh = s.fh := rfl
@[simp] theorem State.modSeq_pcieUp (s : State) (k : Fin 4) (h : Seq → Seq) : (s.modSeq k h).pcieUp = s.pcieUp := rfl
@[simp] theorem State.modSeq_tap (s : State) (k : Fin 4) (h : Seq → Seq) : (s.modSeq k h).tap = s.tap := rfl

/-! ## After a change of one layer -/

@[simp] theorem State.setLayer_pending (s : State) (ly : Fin 4) (l : Layer) : (s.setLayer ly l).pending = s.pending := rfl
@[simp] theorem State.setLayer_reply (s : State) (ly : Fin 4) (l : Layer) : (s.setLayer ly l).reply = s.reply := rfl
@[simp] theorem State.setLayer_free (s : State) (ly : Fin 4) (l : Layer) : (s.setLayer ly l).free = s.free := rfl
@[simp] theorem State.setLayer_out (s : State) (ly : Fin 4) (l : Layer) : (s.setLayer ly l).out = s.out := rfl
@[simp] theorem State.setLayer_regs (s : State) (ly : Fin 4) (l : Layer) : (s.setLayer ly l).regs = s.regs := rfl
@[simp] theorem State.setLayer_lastAt (s : State) (ly : Fin 4) (l : Layer) : (s.setLayer ly l).lastAt = s.lastAt := rfl
@[simp] theorem State.setLayer_unsampled (s : State) (ly : Fin 4) (l : Layer) : (s.setLayer ly l).unsampled = s.unsampled := rfl
@[simp] theorem State.setLayer_shadowHi (s : State) (ly : Fin 4) (l : Layer) : (s.setLayer ly l).shadowHi = s.shadowHi := rfl
@[simp] theorem State.setLayer_tl (s : State) (ly : Fin 4) (l : Layer) : (s.setLayer ly l).tl = s.tl := rfl
@[simp] theorem State.setLayer_evt (s : State) (ly : Fin 4) (l : Layer) : (s.setLayer ly l).evt = s.evt := rfl
@[simp] theorem State.setLayer_rcd (s : State) (ly : Fin 4) (l : Layer) : (s.setLayer ly l).rcd = s.rcd := rfl
@[simp] theorem State.setLayer_seqs (s : State) (ly : Fin 4) (l : Layer) : (s.setLayer ly l).seqs = s.seqs := rfl
@[simp] theorem State.setLayer_flags (s : State) (ly : Fin 4) (l : Layer) : (s.setLayer ly l).flags = s.flags := rfl
@[simp] theorem State.setLayer_rin (s : State) (ly : Fin 4) (l : Layer) : (s.setLayer ly l).rin = s.rin := rfl
@[simp] theorem State.setLayer_fuse (s : State) (ly : Fin 4) (l : Layer) : (s.setLayer ly l).fuse = s.fuse := rfl
@[simp] theorem State.setLayer_rpl (s : State) (ly : Fin 4) (l : Layer) : (s.setLayer ly l).rpl = s.rpl := rfl
@[simp] theorem State.setLayer_pwr (s : State) (ly : Fin 4) (l : Layer) : (s.setLayer ly l).pwr = s.pwr := rfl
@[simp] theorem State.setLayer_thm (s : State) (ly : Fin 4) (l : Layer) : (s.setLayer ly l).thm = s.thm := rfl
@[simp] theorem State.setLayer_nvs (s : State) (ly : Fin 4) (l : Layer) : (s.setLayer ly l).nvs = s.nvs := rfl
@[simp] theorem State.setLayer_ld (s : State) (ly : Fin 4) (l : Layer) : (s.setLayer ly l).ld = s.ld := rfl
@[simp] theorem State.setLayer_fl (s : State) (ly : Fin 4) (l : Layer) : (s.setLayer ly l).fl = s.fl := rfl
@[simp] theorem State.setLayer_rb (s : State) (ly : Fin 4) (l : Layer) : (s.setLayer ly l).rb = s.rb := rfl
@[simp] theorem State.setLayer_arm (s : State) (ly : Fin 4) (l : Layer) : (s.setLayer ly l).arm = s.arm := rfl
@[simp] theorem State.setLayer_heldStart (s : State) (ly : Fin 4) (l : Layer) : (s.setLayer ly l).heldStart = s.heldStart := rfl
@[simp] theorem State.setLayer_board (s : State) (ly : Fin 4) (l : Layer) : (s.setLayer ly l).board = s.board := rfl
@[simp] theorem State.setLayer_vl (s : State) (ly : Fin 4) (l : Layer) : (s.setLayer ly l).vl = s.vl := rfl
@[simp] theorem State.setLayer_mem (s : State) (ly : Fin 4) (l : Layer) : (s.setLayer ly l).mem = s.mem := rfl
@[simp] theorem State.setLayer_qs (s : State) (ly : Fin 4) (l : Layer) : (s.setLayer ly l).qs = s.qs := rfl
@[simp] theorem State.setLayer_flow (s : State) (ly : Fin 4) (l : Layer) : (s.setLayer ly l).flow = s.flow := rfl
@[simp] theorem State.setLayer_flowPast (s : State) (ly : Fin 4) (l : Layer) : (s.setLayer ly l).flowPast = s.flowPast := rfl
@[simp] theorem State.setLayer_dma (s : State) (ly : Fin 4) (l : Layer) : (s.setLayer ly l).dma = s.dma := rfl
@[simp] theorem State.setLayer_fh (s : State) (ly : Fin 4) (l : Layer) : (s.setLayer ly l).fh = s.fh := rfl
@[simp] theorem State.setLayer_pcieUp (s : State) (ly : Fin 4) (l : Layer) : (s.setLayer ly l).pcieUp = s.pcieUp := rfl
@[simp] theorem State.setLayer_tap (s : State) (ly : Fin 4) (l : Layer) : (s.setLayer ly l).tap = s.tap := rfl

/-! ## After a change of one region -/

@[simp] theorem State.modRegion_pending (s : State) (ly : Fin 4) (j : Fin 8) (h : Region → Region) : (s.modRegion ly j h).pending = s.pending := rfl
@[simp] theorem State.modRegion_reply (s : State) (ly : Fin 4) (j : Fin 8) (h : Region → Region) : (s.modRegion ly j h).reply = s.reply := rfl
@[simp] theorem State.modRegion_free (s : State) (ly : Fin 4) (j : Fin 8) (h : Region → Region) : (s.modRegion ly j h).free = s.free := rfl
@[simp] theorem State.modRegion_out (s : State) (ly : Fin 4) (j : Fin 8) (h : Region → Region) : (s.modRegion ly j h).out = s.out := rfl
@[simp] theorem State.modRegion_regs (s : State) (ly : Fin 4) (j : Fin 8) (h : Region → Region) : (s.modRegion ly j h).regs = s.regs := rfl
@[simp] theorem State.modRegion_lastAt (s : State) (ly : Fin 4) (j : Fin 8) (h : Region → Region) : (s.modRegion ly j h).lastAt = s.lastAt := rfl
@[simp] theorem State.modRegion_unsampled (s : State) (ly : Fin 4) (j : Fin 8) (h : Region → Region) : (s.modRegion ly j h).unsampled = s.unsampled := rfl
@[simp] theorem State.modRegion_shadowHi (s : State) (ly : Fin 4) (j : Fin 8) (h : Region → Region) : (s.modRegion ly j h).shadowHi = s.shadowHi := rfl
@[simp] theorem State.modRegion_tl (s : State) (ly : Fin 4) (j : Fin 8) (h : Region → Region) : (s.modRegion ly j h).tl = s.tl := rfl
@[simp] theorem State.modRegion_evt (s : State) (ly : Fin 4) (j : Fin 8) (h : Region → Region) : (s.modRegion ly j h).evt = s.evt := rfl
@[simp] theorem State.modRegion_rcd (s : State) (ly : Fin 4) (j : Fin 8) (h : Region → Region) : (s.modRegion ly j h).rcd = s.rcd := rfl
@[simp] theorem State.modRegion_seqs (s : State) (ly : Fin 4) (j : Fin 8) (h : Region → Region) : (s.modRegion ly j h).seqs = s.seqs := rfl
@[simp] theorem State.modRegion_flags (s : State) (ly : Fin 4) (j : Fin 8) (h : Region → Region) : (s.modRegion ly j h).flags = s.flags := rfl
@[simp] theorem State.modRegion_rin (s : State) (ly : Fin 4) (j : Fin 8) (h : Region → Region) : (s.modRegion ly j h).rin = s.rin := rfl
@[simp] theorem State.modRegion_fuse (s : State) (ly : Fin 4) (j : Fin 8) (h : Region → Region) : (s.modRegion ly j h).fuse = s.fuse := rfl
@[simp] theorem State.modRegion_rpl (s : State) (ly : Fin 4) (j : Fin 8) (h : Region → Region) : (s.modRegion ly j h).rpl = s.rpl := rfl
@[simp] theorem State.modRegion_pwr (s : State) (ly : Fin 4) (j : Fin 8) (h : Region → Region) : (s.modRegion ly j h).pwr = s.pwr := rfl
@[simp] theorem State.modRegion_thm (s : State) (ly : Fin 4) (j : Fin 8) (h : Region → Region) : (s.modRegion ly j h).thm = s.thm := rfl
@[simp] theorem State.modRegion_nvs (s : State) (ly : Fin 4) (j : Fin 8) (h : Region → Region) : (s.modRegion ly j h).nvs = s.nvs := rfl
@[simp] theorem State.modRegion_ld (s : State) (ly : Fin 4) (j : Fin 8) (h : Region → Region) : (s.modRegion ly j h).ld = s.ld := rfl
@[simp] theorem State.modRegion_fl (s : State) (ly : Fin 4) (j : Fin 8) (h : Region → Region) : (s.modRegion ly j h).fl = s.fl := rfl
@[simp] theorem State.modRegion_rb (s : State) (ly : Fin 4) (j : Fin 8) (h : Region → Region) : (s.modRegion ly j h).rb = s.rb := rfl
@[simp] theorem State.modRegion_arm (s : State) (ly : Fin 4) (j : Fin 8) (h : Region → Region) : (s.modRegion ly j h).arm = s.arm := rfl
@[simp] theorem State.modRegion_heldStart (s : State) (ly : Fin 4) (j : Fin 8) (h : Region → Region) : (s.modRegion ly j h).heldStart = s.heldStart := rfl
@[simp] theorem State.modRegion_board (s : State) (ly : Fin 4) (j : Fin 8) (h : Region → Region) : (s.modRegion ly j h).board = s.board := rfl
@[simp] theorem State.modRegion_vl (s : State) (ly : Fin 4) (j : Fin 8) (h : Region → Region) : (s.modRegion ly j h).vl = s.vl := rfl
@[simp] theorem State.modRegion_mem (s : State) (ly : Fin 4) (j : Fin 8) (h : Region → Region) : (s.modRegion ly j h).mem = s.mem := rfl
@[simp] theorem State.modRegion_qs (s : State) (ly : Fin 4) (j : Fin 8) (h : Region → Region) : (s.modRegion ly j h).qs = s.qs := rfl
@[simp] theorem State.modRegion_flow (s : State) (ly : Fin 4) (j : Fin 8) (h : Region → Region) : (s.modRegion ly j h).flow = s.flow := rfl
@[simp] theorem State.modRegion_flowPast (s : State) (ly : Fin 4) (j : Fin 8) (h : Region → Region) : (s.modRegion ly j h).flowPast = s.flowPast := rfl
@[simp] theorem State.modRegion_dma (s : State) (ly : Fin 4) (j : Fin 8) (h : Region → Region) : (s.modRegion ly j h).dma = s.dma := rfl
@[simp] theorem State.modRegion_fh (s : State) (ly : Fin 4) (j : Fin 8) (h : Region → Region) : (s.modRegion ly j h).fh = s.fh := rfl
@[simp] theorem State.modRegion_pcieUp (s : State) (ly : Fin 4) (j : Fin 8) (h : Region → Region) : (s.modRegion ly j h).pcieUp = s.pcieUp := rfl
@[simp] theorem State.modRegion_tap (s : State) (ly : Fin 4) (j : Fin 8) (h : Region → Region) : (s.modRegion ly j h).tap = s.tap := rfl

/-! ## After a change of the memory layer -/

@[simp] theorem State.modMem_pending (s : State) (h : Memory → Memory) : (s.modMem h).pending = s.pending := rfl
@[simp] theorem State.modMem_reply (s : State) (h : Memory → Memory) : (s.modMem h).reply = s.reply := rfl
@[simp] theorem State.modMem_free (s : State) (h : Memory → Memory) : (s.modMem h).free = s.free := rfl
@[simp] theorem State.modMem_out (s : State) (h : Memory → Memory) : (s.modMem h).out = s.out := rfl
@[simp] theorem State.modMem_regs (s : State) (h : Memory → Memory) : (s.modMem h).regs = s.regs := rfl
@[simp] theorem State.modMem_lastAt (s : State) (h : Memory → Memory) : (s.modMem h).lastAt = s.lastAt := rfl
@[simp] theorem State.modMem_unsampled (s : State) (h : Memory → Memory) : (s.modMem h).unsampled = s.unsampled := rfl
@[simp] theorem State.modMem_shadowHi (s : State) (h : Memory → Memory) : (s.modMem h).shadowHi = s.shadowHi := rfl
@[simp] theorem State.modMem_tl (s : State) (h : Memory → Memory) : (s.modMem h).tl = s.tl := rfl
@[simp] theorem State.modMem_evt (s : State) (h : Memory → Memory) : (s.modMem h).evt = s.evt := rfl
@[simp] theorem State.modMem_rcd (s : State) (h : Memory → Memory) : (s.modMem h).rcd = s.rcd := rfl
@[simp] theorem State.modMem_seqs (s : State) (h : Memory → Memory) : (s.modMem h).seqs = s.seqs := rfl
@[simp] theorem State.modMem_flags (s : State) (h : Memory → Memory) : (s.modMem h).flags = s.flags := rfl
@[simp] theorem State.modMem_fab (s : State) (h : Memory → Memory) : (s.modMem h).fab = s.fab := rfl
@[simp] theorem State.modMem_rin (s : State) (h : Memory → Memory) : (s.modMem h).rin = s.rin := rfl
@[simp] theorem State.modMem_fuse (s : State) (h : Memory → Memory) : (s.modMem h).fuse = s.fuse := rfl
@[simp] theorem State.modMem_rpl (s : State) (h : Memory → Memory) : (s.modMem h).rpl = s.rpl := rfl
@[simp] theorem State.modMem_pwr (s : State) (h : Memory → Memory) : (s.modMem h).pwr = s.pwr := rfl
@[simp] theorem State.modMem_thm (s : State) (h : Memory → Memory) : (s.modMem h).thm = s.thm := rfl
@[simp] theorem State.modMem_nvs (s : State) (h : Memory → Memory) : (s.modMem h).nvs = s.nvs := rfl
@[simp] theorem State.modMem_ld (s : State) (h : Memory → Memory) : (s.modMem h).ld = s.ld := rfl
@[simp] theorem State.modMem_fl (s : State) (h : Memory → Memory) : (s.modMem h).fl = s.fl := rfl
@[simp] theorem State.modMem_rb (s : State) (h : Memory → Memory) : (s.modMem h).rb = s.rb := rfl
@[simp] theorem State.modMem_arm (s : State) (h : Memory → Memory) : (s.modMem h).arm = s.arm := rfl
@[simp] theorem State.modMem_heldStart (s : State) (h : Memory → Memory) : (s.modMem h).heldStart = s.heldStart := rfl
@[simp] theorem State.modMem_board (s : State) (h : Memory → Memory) : (s.modMem h).board = s.board := rfl
@[simp] theorem State.modMem_vl (s : State) (h : Memory → Memory) : (s.modMem h).vl = s.vl := rfl
@[simp] theorem State.modMem_qs (s : State) (h : Memory → Memory) : (s.modMem h).qs = s.qs := rfl
@[simp] theorem State.modMem_flow (s : State) (h : Memory → Memory) : (s.modMem h).flow = s.flow := rfl
@[simp] theorem State.modMem_flowPast (s : State) (h : Memory → Memory) : (s.modMem h).flowPast = s.flowPast := rfl
@[simp] theorem State.modMem_dma (s : State) (h : Memory → Memory) : (s.modMem h).dma = s.dma := rfl
@[simp] theorem State.modMem_fh (s : State) (h : Memory → Memory) : (s.modMem h).fh = s.fh := rfl
@[simp] theorem State.modMem_pcieUp (s : State) (h : Memory → Memory) : (s.modMem h).pcieUp = s.pcieUp := rfl
@[simp] theorem State.modMem_tap (s : State) (h : Memory → Memory) : (s.modMem h).tap = s.tap := rfl

/-! ## After a change of one queue -/

@[simp] theorem State.setQueue_pending (s : State) (q : Nat) (x : Queue) : (s.setQueue q x).pending = s.pending := rfl
@[simp] theorem State.setQueue_reply (s : State) (q : Nat) (x : Queue) : (s.setQueue q x).reply = s.reply := rfl
@[simp] theorem State.setQueue_free (s : State) (q : Nat) (x : Queue) : (s.setQueue q x).free = s.free := rfl
@[simp] theorem State.setQueue_out (s : State) (q : Nat) (x : Queue) : (s.setQueue q x).out = s.out := rfl
@[simp] theorem State.setQueue_regs (s : State) (q : Nat) (x : Queue) : (s.setQueue q x).regs = s.regs := rfl
@[simp] theorem State.setQueue_lastAt (s : State) (q : Nat) (x : Queue) : (s.setQueue q x).lastAt = s.lastAt := rfl
@[simp] theorem State.setQueue_unsampled (s : State) (q : Nat) (x : Queue) : (s.setQueue q x).unsampled = s.unsampled := rfl
@[simp] theorem State.setQueue_shadowHi (s : State) (q : Nat) (x : Queue) : (s.setQueue q x).shadowHi = s.shadowHi := rfl
@[simp] theorem State.setQueue_tl (s : State) (q : Nat) (x : Queue) : (s.setQueue q x).tl = s.tl := rfl
@[simp] theorem State.setQueue_evt (s : State) (q : Nat) (x : Queue) : (s.setQueue q x).evt = s.evt := rfl
@[simp] theorem State.setQueue_rcd (s : State) (q : Nat) (x : Queue) : (s.setQueue q x).rcd = s.rcd := rfl
@[simp] theorem State.setQueue_seqs (s : State) (q : Nat) (x : Queue) : (s.setQueue q x).seqs = s.seqs := rfl
@[simp] theorem State.setQueue_flags (s : State) (q : Nat) (x : Queue) : (s.setQueue q x).flags = s.flags := rfl
@[simp] theorem State.setQueue_fab (s : State) (q : Nat) (x : Queue) : (s.setQueue q x).fab = s.fab := rfl
@[simp] theorem State.setQueue_rin (s : State) (q : Nat) (x : Queue) : (s.setQueue q x).rin = s.rin := rfl
@[simp] theorem State.setQueue_fuse (s : State) (q : Nat) (x : Queue) : (s.setQueue q x).fuse = s.fuse := rfl
@[simp] theorem State.setQueue_rpl (s : State) (q : Nat) (x : Queue) : (s.setQueue q x).rpl = s.rpl := rfl
@[simp] theorem State.setQueue_pwr (s : State) (q : Nat) (x : Queue) : (s.setQueue q x).pwr = s.pwr := rfl
@[simp] theorem State.setQueue_thm (s : State) (q : Nat) (x : Queue) : (s.setQueue q x).thm = s.thm := rfl
@[simp] theorem State.setQueue_nvs (s : State) (q : Nat) (x : Queue) : (s.setQueue q x).nvs = s.nvs := rfl
@[simp] theorem State.setQueue_ld (s : State) (q : Nat) (x : Queue) : (s.setQueue q x).ld = s.ld := rfl
@[simp] theorem State.setQueue_fl (s : State) (q : Nat) (x : Queue) : (s.setQueue q x).fl = s.fl := rfl
@[simp] theorem State.setQueue_rb (s : State) (q : Nat) (x : Queue) : (s.setQueue q x).rb = s.rb := rfl
@[simp] theorem State.setQueue_arm (s : State) (q : Nat) (x : Queue) : (s.setQueue q x).arm = s.arm := rfl
@[simp] theorem State.setQueue_heldStart (s : State) (q : Nat) (x : Queue) : (s.setQueue q x).heldStart = s.heldStart := rfl
@[simp] theorem State.setQueue_board (s : State) (q : Nat) (x : Queue) : (s.setQueue q x).board = s.board := rfl
@[simp] theorem State.setQueue_vl (s : State) (q : Nat) (x : Queue) : (s.setQueue q x).vl = s.vl := rfl
@[simp] theorem State.setQueue_mem (s : State) (q : Nat) (x : Queue) : (s.setQueue q x).mem = s.mem := rfl
@[simp] theorem State.setQueue_flow (s : State) (q : Nat) (x : Queue) : (s.setQueue q x).flow = s.flow := rfl
@[simp] theorem State.setQueue_flowPast (s : State) (q : Nat) (x : Queue) : (s.setQueue q x).flowPast = s.flowPast := rfl
@[simp] theorem State.setQueue_dma (s : State) (q : Nat) (x : Queue) : (s.setQueue q x).dma = s.dma := rfl
@[simp] theorem State.setQueue_fh (s : State) (q : Nat) (x : Queue) : (s.setQueue q x).fh = s.fh := rfl
@[simp] theorem State.setQueue_pcieUp (s : State) (q : Nat) (x : Queue) : (s.setQueue q x).pcieUp = s.pcieUp := rfl
@[simp] theorem State.setQueue_tap (s : State) (q : Nat) (x : Queue) : (s.setQueue q x).tap = s.tap := rfl

/-! ## After a change of Rinom -/

@[simp] theorem State.modRin_pending (s : State) (h : Rinom → Rinom) : (s.modRin h).pending = s.pending := rfl
@[simp] theorem State.modRin_reply (s : State) (h : Rinom → Rinom) : (s.modRin h).reply = s.reply := rfl
@[simp] theorem State.modRin_free (s : State) (h : Rinom → Rinom) : (s.modRin h).free = s.free := rfl
@[simp] theorem State.modRin_out (s : State) (h : Rinom → Rinom) : (s.modRin h).out = s.out := rfl
@[simp] theorem State.modRin_regs (s : State) (h : Rinom → Rinom) : (s.modRin h).regs = s.regs := rfl
@[simp] theorem State.modRin_lastAt (s : State) (h : Rinom → Rinom) : (s.modRin h).lastAt = s.lastAt := rfl
@[simp] theorem State.modRin_unsampled (s : State) (h : Rinom → Rinom) : (s.modRin h).unsampled = s.unsampled := rfl
@[simp] theorem State.modRin_shadowHi (s : State) (h : Rinom → Rinom) : (s.modRin h).shadowHi = s.shadowHi := rfl
@[simp] theorem State.modRin_tl (s : State) (h : Rinom → Rinom) : (s.modRin h).tl = s.tl := rfl
@[simp] theorem State.modRin_evt (s : State) (h : Rinom → Rinom) : (s.modRin h).evt = s.evt := rfl
@[simp] theorem State.modRin_rcd (s : State) (h : Rinom → Rinom) : (s.modRin h).rcd = s.rcd := rfl
@[simp] theorem State.modRin_seqs (s : State) (h : Rinom → Rinom) : (s.modRin h).seqs = s.seqs := rfl
@[simp] theorem State.modRin_flags (s : State) (h : Rinom → Rinom) : (s.modRin h).flags = s.flags := rfl
@[simp] theorem State.modRin_fab (s : State) (h : Rinom → Rinom) : (s.modRin h).fab = s.fab := rfl
@[simp] theorem State.modRin_fuse (s : State) (h : Rinom → Rinom) : (s.modRin h).fuse = s.fuse := rfl
@[simp] theorem State.modRin_rpl (s : State) (h : Rinom → Rinom) : (s.modRin h).rpl = s.rpl := rfl
@[simp] theorem State.modRin_pwr (s : State) (h : Rinom → Rinom) : (s.modRin h).pwr = s.pwr := rfl
@[simp] theorem State.modRin_thm (s : State) (h : Rinom → Rinom) : (s.modRin h).thm = s.thm := rfl
@[simp] theorem State.modRin_nvs (s : State) (h : Rinom → Rinom) : (s.modRin h).nvs = s.nvs := rfl
@[simp] theorem State.modRin_ld (s : State) (h : Rinom → Rinom) : (s.modRin h).ld = s.ld := rfl
@[simp] theorem State.modRin_fl (s : State) (h : Rinom → Rinom) : (s.modRin h).fl = s.fl := rfl
@[simp] theorem State.modRin_rb (s : State) (h : Rinom → Rinom) : (s.modRin h).rb = s.rb := rfl
@[simp] theorem State.modRin_arm (s : State) (h : Rinom → Rinom) : (s.modRin h).arm = s.arm := rfl
@[simp] theorem State.modRin_heldStart (s : State) (h : Rinom → Rinom) : (s.modRin h).heldStart = s.heldStart := rfl
@[simp] theorem State.modRin_board (s : State) (h : Rinom → Rinom) : (s.modRin h).board = s.board := rfl
@[simp] theorem State.modRin_vl (s : State) (h : Rinom → Rinom) : (s.modRin h).vl = s.vl := rfl
@[simp] theorem State.modRin_mem (s : State) (h : Rinom → Rinom) : (s.modRin h).mem = s.mem := rfl
@[simp] theorem State.modRin_qs (s : State) (h : Rinom → Rinom) : (s.modRin h).qs = s.qs := rfl
@[simp] theorem State.modRin_flow (s : State) (h : Rinom → Rinom) : (s.modRin h).flow = s.flow := rfl
@[simp] theorem State.modRin_flowPast (s : State) (h : Rinom → Rinom) : (s.modRin h).flowPast = s.flowPast := rfl
@[simp] theorem State.modRin_dma (s : State) (h : Rinom → Rinom) : (s.modRin h).dma = s.dma := rfl
@[simp] theorem State.modRin_fh (s : State) (h : Rinom → Rinom) : (s.modRin h).fh = s.fh := rfl
@[simp] theorem State.modRin_pcieUp (s : State) (h : Rinom → Rinom) : (s.modRin h).pcieUp = s.pcieUp := rfl
@[simp] theorem State.modRin_tap (s : State) (h : Rinom → Rinom) : (s.modRin h).tap = s.tap := rfl

/-! ## After a change of one link group -/

@[simp] theorem State.setVlGroup_pending (s : State) (joint g : Nat) (x : VlGroup) : (s.setVlGroup joint g x).pending = s.pending := rfl
@[simp] theorem State.setVlGroup_reply (s : State) (joint g : Nat) (x : VlGroup) : (s.setVlGroup joint g x).reply = s.reply := rfl
@[simp] theorem State.setVlGroup_free (s : State) (joint g : Nat) (x : VlGroup) : (s.setVlGroup joint g x).free = s.free := rfl
@[simp] theorem State.setVlGroup_out (s : State) (joint g : Nat) (x : VlGroup) : (s.setVlGroup joint g x).out = s.out := rfl
@[simp] theorem State.setVlGroup_regs (s : State) (joint g : Nat) (x : VlGroup) : (s.setVlGroup joint g x).regs = s.regs := rfl
@[simp] theorem State.setVlGroup_lastAt (s : State) (joint g : Nat) (x : VlGroup) : (s.setVlGroup joint g x).lastAt = s.lastAt := rfl
@[simp] theorem State.setVlGroup_unsampled (s : State) (joint g : Nat) (x : VlGroup) : (s.setVlGroup joint g x).unsampled = s.unsampled := rfl
@[simp] theorem State.setVlGroup_shadowHi (s : State) (joint g : Nat) (x : VlGroup) : (s.setVlGroup joint g x).shadowHi = s.shadowHi := rfl
@[simp] theorem State.setVlGroup_tl (s : State) (joint g : Nat) (x : VlGroup) : (s.setVlGroup joint g x).tl = s.tl := rfl
@[simp] theorem State.setVlGroup_evt (s : State) (joint g : Nat) (x : VlGroup) : (s.setVlGroup joint g x).evt = s.evt := rfl
@[simp] theorem State.setVlGroup_rcd (s : State) (joint g : Nat) (x : VlGroup) : (s.setVlGroup joint g x).rcd = s.rcd := rfl
@[simp] theorem State.setVlGroup_seqs (s : State) (joint g : Nat) (x : VlGroup) : (s.setVlGroup joint g x).seqs = s.seqs := rfl
@[simp] theorem State.setVlGroup_flags (s : State) (joint g : Nat) (x : VlGroup) : (s.setVlGroup joint g x).flags = s.flags := rfl
@[simp] theorem State.setVlGroup_fab (s : State) (joint g : Nat) (x : VlGroup) : (s.setVlGroup joint g x).fab = s.fab := rfl
@[simp] theorem State.setVlGroup_rin (s : State) (joint g : Nat) (x : VlGroup) : (s.setVlGroup joint g x).rin = s.rin := rfl
@[simp] theorem State.setVlGroup_fuse (s : State) (joint g : Nat) (x : VlGroup) : (s.setVlGroup joint g x).fuse = s.fuse := rfl
@[simp] theorem State.setVlGroup_rpl (s : State) (joint g : Nat) (x : VlGroup) : (s.setVlGroup joint g x).rpl = s.rpl := rfl
@[simp] theorem State.setVlGroup_pwr (s : State) (joint g : Nat) (x : VlGroup) : (s.setVlGroup joint g x).pwr = s.pwr := rfl
@[simp] theorem State.setVlGroup_thm (s : State) (joint g : Nat) (x : VlGroup) : (s.setVlGroup joint g x).thm = s.thm := rfl
@[simp] theorem State.setVlGroup_nvs (s : State) (joint g : Nat) (x : VlGroup) : (s.setVlGroup joint g x).nvs = s.nvs := rfl
@[simp] theorem State.setVlGroup_ld (s : State) (joint g : Nat) (x : VlGroup) : (s.setVlGroup joint g x).ld = s.ld := rfl
@[simp] theorem State.setVlGroup_fl (s : State) (joint g : Nat) (x : VlGroup) : (s.setVlGroup joint g x).fl = s.fl := rfl
@[simp] theorem State.setVlGroup_rb (s : State) (joint g : Nat) (x : VlGroup) : (s.setVlGroup joint g x).rb = s.rb := rfl
@[simp] theorem State.setVlGroup_arm (s : State) (joint g : Nat) (x : VlGroup) : (s.setVlGroup joint g x).arm = s.arm := rfl
@[simp] theorem State.setVlGroup_heldStart (s : State) (joint g : Nat) (x : VlGroup) : (s.setVlGroup joint g x).heldStart = s.heldStart := rfl
@[simp] theorem State.setVlGroup_board (s : State) (joint g : Nat) (x : VlGroup) : (s.setVlGroup joint g x).board = s.board := rfl
@[simp] theorem State.setVlGroup_mem (s : State) (joint g : Nat) (x : VlGroup) : (s.setVlGroup joint g x).mem = s.mem := rfl
@[simp] theorem State.setVlGroup_qs (s : State) (joint g : Nat) (x : VlGroup) : (s.setVlGroup joint g x).qs = s.qs := rfl
@[simp] theorem State.setVlGroup_flow (s : State) (joint g : Nat) (x : VlGroup) : (s.setVlGroup joint g x).flow = s.flow := rfl
@[simp] theorem State.setVlGroup_flowPast (s : State) (joint g : Nat) (x : VlGroup) : (s.setVlGroup joint g x).flowPast = s.flowPast := rfl
@[simp] theorem State.setVlGroup_dma (s : State) (joint g : Nat) (x : VlGroup) : (s.setVlGroup joint g x).dma = s.dma := rfl
@[simp] theorem State.setVlGroup_fh (s : State) (joint g : Nat) (x : VlGroup) : (s.setVlGroup joint g x).fh = s.fh := rfl
@[simp] theorem State.setVlGroup_pcieUp (s : State) (joint g : Nat) (x : VlGroup) : (s.setVlGroup joint g x).pcieUp = s.pcieUp := rfl
@[simp] theorem State.setVlGroup_tap (s : State) (joint g : Nat) (x : VlGroup) : (s.setVlGroup joint g x).tap = s.tap := rfl

end Sys2Proof.Machine
end

