-- ==== Sys2Proof/Laws/Raise.lean ====
section
/-!
SUPPORT. Sys2Proof/Laws/Raise.lean: what raising an event leaves: every part of the state but registers, events, records and
capture, and of the registers all but three.
-/
namespace Sys2Proof.Machine
open Sys2Proof

theorem OnlyNotes.refl (s : State) : OnlyNotes s s := rfl

theorem OnlyNotes.trans {s t u : State} (h : OnlyNotes s t) (g : OnlyNotes t u) : OnlyNotes s u := by
  unfold OnlyNotes at *
  rw [← h]; rw [← g]

/-- What such a step leaves of every part. -/
theorem OnlyNotes.field {α : Type} {s t : State} (h : OnlyNotes s t) (g : State → α) :
    g { t with regs := s.regs, evt := s.evt, rcd := s.rcd, rpl := s.rpl } = g s := congrArg g h

theorem RegsBut.refl (l : List Nat) (s : State) : RegsBut l s s := fun _ _ => rfl

theorem RegsBut.trans {l : List Nat} {s t u : State} (h : RegsBut l s t) (g : RegsBut l t u) : RegsBut l s u :=
  fun off ho => (g off ho).trans (h off ho)

/-- What a note of something that happened may touch. -/
def Noted (s t : State) : Prop := OnlyNotes s t ∧ RegsBut noteRegs s t

theorem Noted.refl (s : State) : Noted s s := ⟨rfl, RegsBut.refl _ _⟩

theorem Noted.trans {s t u : State} (h : Noted s t) (g : Noted t u) : Noted s u := ⟨h.1.trans g.1, h.2.trans g.2⟩

theorem noted_setF (s : State) (x : Fld) (v : Nat) (h : x.off ∈ noteRegs) : Noted s (s.setF x v) :=
  ⟨rfl, fun _ ho => State.reg_setF_ne s x v (fun e => ho (e ▸ h))⟩

theorem noted_plain {s t : State} (h : OnlyNotes s t) (g : t.regs = s.regs) : Noted s t :=
  ⟨h, fun off _ => by simp [State.reg, g]⟩

theorem noted_stage (s : State) (r : Rcd) : Noted s (s.stage r) := by
  unfold State.stage
  split
  · split
    · exact noted_plain rfl rfl
    · split
      · exact noted_plain rfl rfl
      · exact noted_setF s _ _ (by decide)
  · exact noted_plain rfl rfl

theorem noted_setSrc (s : State) (n : Nat) (i : SrcInfo) : Noted s (s.setSrc n i) := noted_plain rfl rfl

theorem noted_latchInputs (s : State) (n : Nat) : Noted s (s.latchInputs n) := by
  unfold State.latchInputs
  split
  · exact noted_plain rfl rfl
  · exact Noted.refl s

theorem noted_faultBy (s : State) (v : Sev) : Noted s (s.faultBy v) := by
  unfold State.faultBy
  split
  · exact noted_setF s _ _ (by decide)
  · exact Noted.refl s

theorem noted_kickBy (s : State) (n : Nat) : Noted s (s.kickBy n) := by
  unfold State.kickBy
  split
  · exact noted_setF s _ _ (by decide)
  · exact Noted.refl s

theorem noted_trigBy (s : State) (n : Nat) : Noted s (s.trigBy n) := by
  unfold State.trigBy
  split
  · exact noted_plain rfl rfl
  · exact Noted.refl s

theorem noted_occNow (s : State) (n : Nat) (v : Sev) : Noted s (s.occNow n v) :=
  ((((noted_setSrc s n _).trans (noted_latchInputs _ n)).trans (noted_faultBy _ v)).trans (noted_kickBy _ n)).trans (noted_trigBy _ n)

theorem noted_raise1 (s : State) (n : Nat) (v : Sev) (p : List Word) : Noted s (s.raise1 n v p) := by
  unfold State.raise1
  split
  · exact (noted_occNow s n v).trans (noted_setSrc _ _ _)
  · exact (noted_occNow s n v).trans ((noted_setF _ _ _ (by decide)).trans (noted_stage _ _))

theorem noted_raiseAt (s : State) (n : Nat) (v : Sev) (p : List Word) : Noted s (s.raiseAt n v p) := by
  unfold State.raiseAt
  split
  · exact noted_raise1 s n v p
  · exact (noted_raise1 s n v p).trans (noted_raise1 _ _ _ _)

/-- Everything an occurrence of a source may touch. -/
theorem noted_raise (s : State) (n : Nat) (p : List Nat) : Noted s (s.raise n p) := by
  unfold State.raise
  split
  · exact noted_raiseAt s n _ _
  · exact Noted.refl s

/-- A record of a block of its own touches the staging FIFO and its count of losses. -/
theorem noted_blockRecord (s : State) (sev : Sev) (type cls : Nat) (p : List Word) : Noted s (s.blockRecord sev type cls p) :=
  noted_stage s _

/-- A register that raising an event does not touch reads as before. -/
theorem State.reg_raise (s : State) (n : Nat) (p : List Nat) {off : Nat} (h : off ∉ noteRegs) : (s.raise n p).reg off = s.reg off :=
  (noted_raise s n p).2 off h

/-- A field of such a register reads as before. -/
theorem State.f_raise (s : State) (n : Nat) (p : List Nat) (x : Fld) (h : x.off ∉ noteRegs) : (s.raise n p).f x = s.f x := by
  simp [State.f, State.reg_raise s n p h]

/-! ## What the controller keeps for a source (R515) -/

@[simp] theorem State.src_setSrc_same (s : State) (n : Nat) (i : SrcInfo) : (s.setSrc n i).src n = i := by
  simp [State.src, State.setSrc]

theorem State.src_setSrc_ne (s : State) {n m : Nat} (i : SrcInfo) (h : m ≠ n) : (s.setSrc n i).src m = s.src m := by
  simp [State.src, State.setSrc, mget_mput_ne _ _ _ _ h]

@[simp] theorem State.src_setF (s : State) (x : Fld) (v n : Nat) : (s.setF x v).src n = s.src n := rfl

@[simp] theorem State.src_stage (s : State) (r : Rcd) (n : Nat) : (s.stage r).src n = s.src n := by
  unfold State.stage
  split
  · split
    · rfl
    · split <;> rfl
  · rfl

@[simp] theorem State.src_latchInputs (s : State) (n m : Nat) : (s.latchInputs n).src m = s.src m := by
  unfold State.latchInputs; split <;> rfl

@[simp] theorem State.src_faultBy (s : State) (v : Sev) (m : Nat) : (s.faultBy v).src m = s.src m := by
  unfold State.faultBy; split <;> rfl

@[simp] theorem State.src_kickBy (s : State) (n m : Nat) : (s.kickBy n).src m = s.src m := by
  unfold State.kickBy; split <;> rfl

@[simp] theorem State.src_trigBy (s : State) (n m : Nat) : (s.trigBy n).src m = s.src m := by
  unfold State.trigBy; split <;> rfl

theorem State.count_raise1 (s : State) (n : Nat) (v : Sev) (p : List Word) :
    ((s.raise1 n v p).src n).count = satAdd 16 (s.src n).count 1 := by
  unfold State.raise1
  split
  · simp [State.hold, State.occNow]
  · simp [State.overflow, State.lostRecord, State.blockRecord, State.occNow]

theorem State.src_raise1_ne (s : State) {n m : Nat} (v : Sev) (p : List Word) (h : m ≠ n) : (s.raise1 n v p).src m = s.src m := by
  unfold State.raise1
  split
  · simp [State.hold, State.occNow, State.src_setSrc_ne _ _ h]
  · simp [State.overflow, State.lostRecord, State.blockRecord, State.occNow, State.src_setSrc_ne _ _ h]

/-- An occurrence is counted, and counts once. -/
theorem raised_raiseAt (s : State) (n : Nat) (v : Sev) (p : List Word) : Raised n s (s.raiseAt n v p) := by
  unfold Raised State.raiseAt
  split
  · exact State.count_raise1 s n v p
  · next h =>
    rw [State.src_raise1_ne _ _ _ (fun e => h (.inr e))]
    exact State.count_raise1 s n v p

theorem raised_raise (s : State) (n : Nat) (p : List Nat) {v : Sev} (h : srcSev n = some v) : Raised n s (s.raise n p) := by
  simp only [State.raise, h]
  exact raised_raiseAt s n v _

/-- An occurrence of one source is none of another, but of EVT_OVERFLOW. -/
theorem State.src_raise_ne (s : State) {n m : Nat} (p : List Nat) (h : m ≠ n) (h0 : m ≠ Ev.EVT_OVERFLOW) :
    (s.raise n p).src m = s.src m := by
  unfold State.raise
  split
  · unfold State.raiseAt
    split
    · exact State.src_raise1_ne s _ _ h
    · rw [State.src_raise1_ne _ _ _ h0, State.src_raise1_ne s _ _ h]
  · rfl

/-! ## Each part of the state, as an occurrence leaves it -/

@[simp] theorem State.raise_pending (s : State) (n : Nat) (p : List Nat) : (s.raise n p).pending = s.pending :=
  (noted_raise s n p).1.field State.pending
@[simp] theorem State.raise_reply (s : State) (n : Nat) (p : List Nat) : (s.raise n p).reply = s.reply :=
  (noted_raise s n p).1.field State.reply
@[simp] theorem State.raise_free (s : State) (n : Nat) (p : List Nat) : (s.raise n p).free = s.free :=
  (noted_raise s n p).1.field State.free
@[simp] theorem State.raise_out (s : State) (n : Nat) (p : List Nat) : (s.raise n p).out = s.out :=
  (noted_raise s n p).1.field State.out
@[simp] theorem State.raise_lastAt (s : State) (n : Nat) (p : List Nat) : (s.raise n p).lastAt = s.lastAt :=
  (noted_raise s n p).1.field State.lastAt
@[simp] theorem State.raise_shadowHi (s : State) (n : Nat) (p : List Nat) : (s.raise n p).shadowHi = s.shadowHi :=
  (noted_raise s n p).1.field State.shadowHi
@[simp] theorem State.raise_tl (s : State) (n : Nat) (p : List Nat) : (s.raise n p).tl = s.tl :=
  (noted_raise s n p).1.field State.tl
@[simp] theorem State.raise_seqs (s : State) (n : Nat) (p : List Nat) : (s.raise n p).seqs = s.seqs :=
  (noted_raise s n p).1.field State.seqs
@[simp] theorem State.raise_flags (s : State) (n : Nat) (p : List Nat) : (s.raise n p).flags = s.flags :=
  (noted_raise s n p).1.field State.flags
@[simp] theorem State.raise_fab (s : State) (n : Nat) (p : List Nat) : (s.raise n p).fab = s.fab :=
  (noted_raise s n p).1.field State.fab
@[simp] theorem State.raise_rin (s : State) (n : Nat) (p : List Nat) : (s.raise n p).rin = s.rin :=
  (noted_raise s n p).1.field State.rin
@[simp] theorem State.raise_fuse (s : State) (n : Nat) (p : List Nat) : (s.raise n p).fuse = s.fuse :=
  (noted_raise s n p).1.field State.fuse
@[simp] theorem State.raise_pwr (s : State) (n : Nat) (p : List Nat) : (s.raise n p).pwr = s.pwr :=
  (noted_raise s n p).1.field State.pwr
@[simp] theorem State.raise_thm (s : State) (n : Nat) (p : List Nat) : (s.raise n p).thm = s.thm :=
  (noted_raise s n p).1.field State.thm
@[simp] theorem State.raise_nvs (s : State) (n : Nat) (p : List Nat) : (s.raise n p).nvs = s.nvs :=
  (noted_raise s n p).1.field State.nvs
@[simp] theorem State.raise_ld (s : State) (n : Nat) (p : List Nat) : (s.raise n p).ld = s.ld :=
  (noted_raise s n p).1.field State.ld
@[simp] theorem State.raise_fl (s : State) (n : Nat) (p : List Nat) : (s.raise n p).fl = s.fl :=
  (noted_raise s n p).1.field State.fl
@[simp] theorem State.raise_rb (s : State) (n : Nat) (p : List Nat) : (s.raise n p).rb = s.rb :=
  (noted_raise s n p).1.field State.rb
@[simp] theorem State.raise_arm (s : State) (n : Nat) (p : List Nat) : (s.raise n p).arm = s.arm :=
  (noted_raise s n p).1.field State.arm
@[simp] theorem State.raise_heldStart (s : State) (n : Nat) (p : List Nat) : (s.raise n p).heldStart = s.heldStart :=
  (noted_raise s n p).1.field State.heldStart
@[simp] theorem State.raise_board (s : State) (n : Nat) (p : List Nat) : (s.raise n p).board = s.board :=
  (noted_raise s n p).1.field State.board
@[simp] theorem State.raise_vl (s : State) (n : Nat) (p : List Nat) : (s.raise n p).vl = s.vl :=
  (noted_raise s n p).1.field State.vl
@[simp] theorem State.raise_mem (s : State) (n : Nat) (p : List Nat) : (s.raise n p).mem = s.mem :=
  (noted_raise s n p).1.field State.mem
@[simp] theorem State.raise_qs (s : State) (n : Nat) (p : List Nat) : (s.raise n p).qs = s.qs :=
  (noted_raise s n p).1.field State.qs
@[simp] theorem State.raise_flow (s : State) (n : Nat) (p : List Nat) : (s.raise n p).flow = s.flow :=
  (noted_raise s n p).1.field State.flow
@[simp] theorem State.raise_fh (s : State) (n : Nat) (p : List Nat) : (s.raise n p).fh = s.fh :=
  (noted_raise s n p).1.field State.fh
@[simp] theorem State.raise_pcieUp (s : State) (n : Nat) (p : List Nat) : (s.raise n p).pcieUp = s.pcieUp :=
  (noted_raise s n p).1.field State.pcieUp
@[simp] theorem State.raise_tap (s : State) (n : Nat) (p : List Nat) : (s.raise n p).tap = s.tap :=
  (noted_raise s n p).1.field State.tap
@[simp] theorem State.raiseAt_pending (s : State) (n : Nat) (v : Sev) (p : List Word) : (s.raiseAt n v p).pending = s.pending :=
  (noted_raiseAt s n v p).1.field State.pending
@[simp] theorem State.raiseAt_reply (s : State) (n : Nat) (v : Sev) (p : List Word) : (s.raiseAt n v p).reply = s.reply :=
  (noted_raiseAt s n v p).1.field State.reply
@[simp] theorem State.raiseAt_free (s : State) (n : Nat) (v : Sev) (p : List Word) : (s.raiseAt n v p).free = s.free :=
  (noted_raiseAt s n v p).1.field State.free
@[simp] theorem State.raiseAt_out (s : State) (n : Nat) (v : Sev) (p : List Word) : (s.raiseAt n v p).out = s.out :=
  (noted_raiseAt s n v p).1.field State.out
@[simp] theorem State.raiseAt_lastAt (s : State) (n : Nat) (v : Sev) (p : List Word) : (s.raiseAt n v p).lastAt = s.lastAt :=
  (noted_raiseAt s n v p).1.field State.lastAt
@[simp] theorem State.raiseAt_shadowHi (s : State) (n : Nat) (v : Sev) (p : List Word) : (s.raiseAt n v p).shadowHi = s.shadowHi :=
  (noted_raiseAt s n v p).1.field State.shadowHi
@[simp] theorem State.raiseAt_tl (s : State) (n : Nat) (v : Sev) (p : List Word) : (s.raiseAt n v p).tl = s.tl :=
  (noted_raiseAt s n v p).1.field State.tl
@[simp] theorem State.raiseAt_seqs (s : State) (n : Nat) (v : Sev) (p : List Word) : (s.raiseAt n v p).seqs = s.seqs :=
  (noted_raiseAt s n v p).1.field State.seqs
@[simp] theorem State.raiseAt_flags (s : State) (n : Nat) (v : Sev) (p : List Word) : (s.raiseAt n v p).flags = s.flags :=
  (noted_raiseAt s n v p).1.field State.flags
@[simp] theorem State.raiseAt_fab (s : State) (n : Nat) (v : Sev) (p : List Word) : (s.raiseAt n v p).fab = s.fab :=
  (noted_raiseAt s n v p).1.field State.fab
@[simp] theorem State.raiseAt_rin (s : State) (n : Nat) (v : Sev) (p : List Word) : (s.raiseAt n v p).rin = s.rin :=
  (noted_raiseAt s n v p).1.field State.rin
@[simp] theorem State.raiseAt_fuse (s : State) (n : Nat) (v : Sev) (p : List Word) : (s.raiseAt n v p).fuse = s.fuse :=
  (noted_raiseAt s n v p).1.field State.fuse
@[simp] theorem State.raiseAt_pwr (s : State) (n : Nat) (v : Sev) (p : List Word) : (s.raiseAt n v p).pwr = s.pwr :=
  (noted_raiseAt s n v p).1.field State.pwr
@[simp] theorem State.raiseAt_thm (s : State) (n : Nat) (v : Sev) (p : List Word) : (s.raiseAt n v p).thm = s.thm :=
  (noted_raiseAt s n v p).1.field State.thm
@[simp] theorem State.raiseAt_nvs (s : State) (n : Nat) (v : Sev) (p : List Word) : (s.raiseAt n v p).nvs = s.nvs :=
  (noted_raiseAt s n v p).1.field State.nvs
@[simp] theorem State.raiseAt_ld (s : State) (n : Nat) (v : Sev) (p : List Word) : (s.raiseAt n v p).ld = s.ld :=
  (noted_raiseAt s n v p).1.field State.ld
@[simp] theorem State.raiseAt_fl (s : State) (n : Nat) (v : Sev) (p : List Word) : (s.raiseAt n v p).fl = s.fl :=
  (noted_raiseAt s n v p).1.field State.fl
@[simp] theorem State.raiseAt_rb (s : State) (n : Nat) (v : Sev) (p : List Word) : (s.raiseAt n v p).rb = s.rb :=
  (noted_raiseAt s n v p).1.field State.rb
@[simp] theorem State.raiseAt_arm (s : State) (n : Nat) (v : Sev) (p : List Word) : (s.raiseAt n v p).arm = s.arm :=
  (noted_raiseAt s n v p).1.field State.arm
@[simp] theorem State.raiseAt_heldStart (s : State) (n : Nat) (v : Sev) (p : List Word) : (s.raiseAt n v p).heldStart = s.heldStart :=
  (noted_raiseAt s n v p).1.field State.heldStart
@[simp] theorem State.raiseAt_board (s : State) (n : Nat) (v : Sev) (p : List Word) : (s.raiseAt n v p).board = s.board :=
  (noted_raiseAt s n v p).1.field State.board
@[simp] theorem State.raiseAt_vl (s : State) (n : Nat) (v : Sev) (p : List Word) : (s.raiseAt n v p).vl = s.vl :=
  (noted_raiseAt s n v p).1.field State.vl
@[simp] theorem State.raiseAt_mem (s : State) (n : Nat) (v : Sev) (p : List Word) : (s.raiseAt n v p).mem = s.mem :=
  (noted_raiseAt s n v p).1.field State.mem
@[simp] theorem State.raiseAt_qs (s : State) (n : Nat) (v : Sev) (p : List Word) : (s.raiseAt n v p).qs = s.qs :=
  (noted_raiseAt s n v p).1.field State.qs
@[simp] theorem State.raiseAt_flow (s : State) (n : Nat) (v : Sev) (p : List Word) : (s.raiseAt n v p).flow = s.flow :=
  (noted_raiseAt s n v p).1.field State.flow
@[simp] theorem State.raiseAt_fh (s : State) (n : Nat) (v : Sev) (p : List Word) : (s.raiseAt n v p).fh = s.fh :=
  (noted_raiseAt s n v p).1.field State.fh
@[simp] theorem State.raiseAt_pcieUp (s : State) (n : Nat) (v : Sev) (p : List Word) : (s.raiseAt n v p).pcieUp = s.pcieUp :=
  (noted_raiseAt s n v p).1.field State.pcieUp
@[simp] theorem State.raiseAt_tap (s : State) (n : Nat) (v : Sev) (p : List Word) : (s.raiseAt n v p).tap = s.tap :=
  (noted_raiseAt s n v p).1.field State.tap
@[simp] theorem State.stage_pending (s : State) (r : Rcd) : (s.stage r).pending = s.pending :=
  (noted_stage s r).1.field State.pending
@[simp] theorem State.stage_reply (s : State) (r : Rcd) : (s.stage r).reply = s.reply :=
  (noted_stage s r).1.field State.reply
@[simp] theorem State.stage_free (s : State) (r : Rcd) : (s.stage r).free = s.free :=
  (noted_stage s r).1.field State.free
@[simp] theorem State.stage_out (s : State) (r : Rcd) : (s.stage r).out = s.out :=
  (noted_stage s r).1.field State.out
@[simp] theorem State.stage_lastAt (s : State) (r : Rcd) : (s.stage r).lastAt = s.lastAt :=
  (noted_stage s r).1.field State.lastAt
@[simp] theorem State.stage_shadowHi (s : State) (r : Rcd) : (s.stage r).shadowHi = s.shadowHi :=
  (noted_stage s r).1.field State.shadowHi
@[simp] theorem State.stage_tl (s : State) (r : Rcd) : (s.stage r).tl = s.tl :=
  (noted_stage s r).1.field State.tl
@[simp] theorem State.stage_seqs (s : State) (r : Rcd) : (s.stage r).seqs = s.seqs :=
  (noted_stage s r).1.field State.seqs
@[simp] theorem State.stage_flags (s : State) (r : Rcd) : (s.stage r).flags = s.flags :=
  (noted_stage s r).1.field State.flags
@[simp] theorem State.stage_fab (s : State) (r : Rcd) : (s.stage r).fab = s.fab :=
  (noted_stage s r).1.field State.fab
@[simp] theorem State.stage_rin (s : State) (r : Rcd) : (s.stage r).rin = s.rin :=
  (noted_stage s r).1.field State.rin
@[simp] theorem State.stage_fuse (s : State) (r : Rcd) : (s.stage r).fuse = s.fuse :=
  (noted_stage s r).1.field State.fuse
@[simp] theorem State.stage_pwr (s : State) (r : Rcd) : (s.stage r).pwr = s.pwr :=
  (noted_stage s r).1.field State.pwr
@[simp] theorem State.stage_thm (s : State) (r : Rcd) : (s.stage r).thm = s.thm :=
  (noted_stage s r).1.field State.thm
@[simp] theorem State.stage_nvs (s : State) (r : Rcd) : (s.stage r).nvs = s.nvs :=
  (noted_stage s r).1.field State.nvs
@[simp] theorem State.stage_ld (s : State) (r : Rcd) : (s.stage r).ld = s.ld :=
  (noted_stage s r).1.field State.ld
@[simp] theorem State.stage_fl (s : State) (r : Rcd) : (s.stage r).fl = s.fl :=
  (noted_stage s r).1.field State.fl
@[simp] theorem State.stage_rb (s : State) (r : Rcd) : (s.stage r).rb = s.rb :=
  (noted_stage s r).1.field State.rb
@[simp] theorem State.stage_arm (s : State) (r : Rcd) : (s.stage r).arm = s.arm :=
  (noted_stage s r).1.field State.arm
@[simp] theorem State.stage_heldStart (s : State) (r : Rcd) : (s.stage r).heldStart = s.heldStart :=
  (noted_stage s r).1.field State.heldStart
@[simp] theorem State.stage_board (s : State) (r : Rcd) : (s.stage r).board = s.board :=
  (noted_stage s r).1.field State.board
@[simp] theorem State.stage_vl (s : State) (r : Rcd) : (s.stage r).vl = s.vl :=
  (noted_stage s r).1.field State.vl
@[simp] theorem State.stage_mem (s : State) (r : Rcd) : (s.stage r).mem = s.mem :=
  (noted_stage s r).1.field State.mem
@[simp] theorem State.stage_qs (s : State) (r : Rcd) : (s.stage r).qs = s.qs :=
  (noted_stage s r).1.field State.qs
@[simp] theorem State.stage_flow (s : State) (r : Rcd) : (s.stage r).flow = s.flow :=
  (noted_stage s r).1.field State.flow
@[simp] theorem State.stage_fh (s : State) (r : Rcd) : (s.stage r).fh = s.fh :=
  (noted_stage s r).1.field State.fh
@[simp] theorem State.stage_pcieUp (s : State) (r : Rcd) : (s.stage r).pcieUp = s.pcieUp :=
  (noted_stage s r).1.field State.pcieUp
@[simp] theorem State.stage_tap (s : State) (r : Rcd) : (s.stage r).tap = s.tap :=
  (noted_stage s r).1.field State.tap

end Sys2Proof.Machine
end

