-- ==== Sys2Proof/Laws/Bus.lean ====
section
/-!
SUPPORT. Sys2Proof/Laws/Bus.lean: what a register write comes to: it is refused, or its plain fields take their bits and its
command acts.
-/
namespace Sys2Proof.Machine
open Sys2Proof

/-- A write that gets through. -/
theorem State.onBus_through (s : State) (who : Who) (off : Nat) (v : Word) (act : State → State)
    (h : s.stopAccess who off = none) : s.onBus who off v act = { act (s.writeFields off v) with reply := .done } := by
  simp [State.onBus, h]

/-- A write that is stopped. -/
theorem State.onBus_stopped (s : State) (who : Who) (off : Nat) (v : Word) (act : State → State) (r : Reply)
    (h : s.stopAccess who off = some r) : s.onBus who off v act = s.refuse who off r := by
  simp [State.onBus, h]

/-- What a write of plain fields touches: that register and its shadow. -/
theorem State.onlyRegs_writeFields (s : State) (off : Nat) (v : Word) : OnlyRegs s (s.writeFields off v) := by
  unfold State.writeFields OnlyRegs
  split
  · simp only []
    split <;> rfl
  · rfl

/-- Every other register reads as before. -/
theorem State.reg_writeFields_ne (s : State) {off a : Nat} (v : Word) (h : a ≠ off) : (s.writeFields off v).reg a = s.reg a := by
  unfold State.writeFields
  split
  · simp only []
    split
    · exact State.reg_setReg_ne s _ h
    · exact State.reg_setReg_ne s _ h
  · rfl

/-- Every field of another register reads as before. -/
theorem State.f_writeFields_ne (s : State) {off : Nat} (x : Fld) (v : Word) (h : x.off ≠ off) : (s.writeFields off v).f x = s.f x := by
  simp [State.f, State.reg_writeFields_ne s v h]

theorem State.b_writeFields_ne (s : State) {off : Nat} (x : Fld) (v : Word) (h : x.off ≠ off) : (s.writeFields off v).b x = s.b x := by
  simp [State.b, State.f_writeFields_ne s x v h]

/-- What the writer of plain fields leaves of every other part. -/
theorem OnlyRegs.field {α : Type} {s t : State} (h : OnlyRegs s t) (g : State → α) :
    g { t with regs := s.regs, nvs := s.nvs, reply := s.reply } = g s := congrArg g h

theorem OnlyRegs.refl (s : State) : OnlyRegs s s := rfl

theorem OnlyRegs.trans {s t u : State} (h : OnlyRegs s t) (g : OnlyRegs t u) : OnlyRegs s u := by
  unfold OnlyRegs at *
  rw [← h]; rw [← g]

/-! ## Each part of the state, after a write of plain fields -/

@[simp] theorem State.writeFields_pending (s : State) (off : Nat) (v : Word) : (s.writeFields off v).pending = s.pending := (s.onlyRegs_writeFields off v).field State.pending
@[simp] theorem State.writeFields_free (s : State) (off : Nat) (v : Word) : (s.writeFields off v).free = s.free := (s.onlyRegs_writeFields off v).field State.free
@[simp] theorem State.writeFields_out (s : State) (off : Nat) (v : Word) : (s.writeFields off v).out = s.out := (s.onlyRegs_writeFields off v).field State.out
@[simp] theorem State.writeFields_lastAt (s : State) (off : Nat) (v : Word) : (s.writeFields off v).lastAt = s.lastAt := (s.onlyRegs_writeFields off v).field State.lastAt
@[simp] theorem State.writeFields_shadowHi (s : State) (off : Nat) (v : Word) : (s.writeFields off v).shadowHi = s.shadowHi := (s.onlyRegs_writeFields off v).field State.shadowHi
@[simp] theorem State.writeFields_tl (s : State) (off : Nat) (v : Word) : (s.writeFields off v).tl = s.tl := (s.onlyRegs_writeFields off v).field State.tl
@[simp] theorem State.writeFields_evt (s : State) (off : Nat) (v : Word) : (s.writeFields off v).evt = s.evt := (s.onlyRegs_writeFields off v).field State.evt
@[simp] theorem State.writeFields_rcd (s : State) (off : Nat) (v : Word) : (s.writeFields off v).rcd = s.rcd := (s.onlyRegs_writeFields off v).field State.rcd
@[simp] theorem State.writeFields_seqs (s : State) (off : Nat) (v : Word) : (s.writeFields off v).seqs = s.seqs := (s.onlyRegs_writeFields off v).field State.seqs
@[simp] theorem State.writeFields_flags (s : State) (off : Nat) (v : Word) : (s.writeFields off v).flags = s.flags := (s.onlyRegs_writeFields off v).field State.flags
@[simp] theorem State.writeFields_fab (s : State) (off : Nat) (v : Word) : (s.writeFields off v).fab = s.fab := (s.onlyRegs_writeFields off v).field State.fab
@[simp] theorem State.writeFields_rin (s : State) (off : Nat) (v : Word) : (s.writeFields off v).rin = s.rin := (s.onlyRegs_writeFields off v).field State.rin
@[simp] theorem State.writeFields_fuse (s : State) (off : Nat) (v : Word) : (s.writeFields off v).fuse = s.fuse := (s.onlyRegs_writeFields off v).field State.fuse
@[simp] theorem State.writeFields_rpl (s : State) (off : Nat) (v : Word) : (s.writeFields off v).rpl = s.rpl := (s.onlyRegs_writeFields off v).field State.rpl
@[simp] theorem State.writeFields_pwr (s : State) (off : Nat) (v : Word) : (s.writeFields off v).pwr = s.pwr := (s.onlyRegs_writeFields off v).field State.pwr
@[simp] theorem State.writeFields_thm (s : State) (off : Nat) (v : Word) : (s.writeFields off v).thm = s.thm := (s.onlyRegs_writeFields off v).field State.thm
@[simp] theorem State.writeFields_ld (s : State) (off : Nat) (v : Word) : (s.writeFields off v).ld = s.ld := (s.onlyRegs_writeFields off v).field State.ld
@[simp] theorem State.writeFields_fl (s : State) (off : Nat) (v : Word) : (s.writeFields off v).fl = s.fl := (s.onlyRegs_writeFields off v).field State.fl
@[simp] theorem State.writeFields_rb (s : State) (off : Nat) (v : Word) : (s.writeFields off v).rb = s.rb := (s.onlyRegs_writeFields off v).field State.rb
@[simp] theorem State.writeFields_arm (s : State) (off : Nat) (v : Word) : (s.writeFields off v).arm = s.arm := (s.onlyRegs_writeFields off v).field State.arm
@[simp] theorem State.writeFields_heldStart (s : State) (off : Nat) (v : Word) : (s.writeFields off v).heldStart = s.heldStart := (s.onlyRegs_writeFields off v).field State.heldStart
@[simp] theorem State.writeFields_board (s : State) (off : Nat) (v : Word) : (s.writeFields off v).board = s.board := (s.onlyRegs_writeFields off v).field State.board
@[simp] theorem State.writeFields_vl (s : State) (off : Nat) (v : Word) : (s.writeFields off v).vl = s.vl := (s.onlyRegs_writeFields off v).field State.vl
@[simp] theorem State.writeFields_mem (s : State) (off : Nat) (v : Word) : (s.writeFields off v).mem = s.mem := (s.onlyRegs_writeFields off v).field State.mem
@[simp] theorem State.writeFields_qs (s : State) (off : Nat) (v : Word) : (s.writeFields off v).qs = s.qs := (s.onlyRegs_writeFields off v).field State.qs
@[simp] theorem State.writeFields_flow (s : State) (off : Nat) (v : Word) : (s.writeFields off v).flow = s.flow := (s.onlyRegs_writeFields off v).field State.flow
@[simp] theorem State.writeFields_fh (s : State) (off : Nat) (v : Word) : (s.writeFields off v).fh = s.fh := (s.onlyRegs_writeFields off v).field State.fh
@[simp] theorem State.writeFields_pcieUp (s : State) (off : Nat) (v : Word) : (s.writeFields off v).pcieUp = s.pcieUp := (s.onlyRegs_writeFields off v).field State.pcieUp
@[simp] theorem State.writeFields_tap (s : State) (off : Nat) (v : Word) : (s.writeFields off v).tap = s.tap := (s.onlyRegs_writeFields off v).field State.tap

end Sys2Proof.Machine
end

