-- ==== Sys2Proof/Laws/Issue.lean ====
section
/-!
SUPPORT. Sys2Proof/Laws/Issue.lean: reading a sequencer after an update of one, its registers, and what issuing an instruction
comes to.
-/
namespace Sys2Proof.Machine
open Sys2Proof

/-! ## Vectors -/

theorem vget_set_same {α : Type} {n : Nat} (v : Vector α n) (k : Fin n) (a : α) : (v.set k.val a k.isLt).get k = a := by
  change (v.set k.val a k.isLt)[k.val] = a
  simp

theorem vget_set_ne {α : Type} {n : Nat} (v : Vector α n) {k j : Fin n} (a : α) (h : j ≠ k) :
    (v.set k.val a k.isLt).get j = v.get j := by
  have hv : k.val ≠ j.val := fun e => h (Fin.ext e.symm)
  change (v.set k.val a k.isLt)[j.val] = v[j.val]
  simp [Vector.getElem_set_ne, hv]

/-! ## Sequencers -/

@[simp] theorem State.seq_setSeq_same (s : State) (k : Fin 4) (q : Seq) : (s.setSeq k q).seq k = q :=
  vget_set_same s.seqs k q

theorem State.seq_setSeq_ne (s : State) {k j : Fin 4} (q : Seq) (h : j ≠ k) : (s.setSeq k q).seq j = s.seq j :=
  vget_set_ne s.seqs q h

@[simp] theorem State.seq_modSeq_same (s : State) (k : Fin 4) (h : Seq → Seq) : (s.modSeq k h).seq k = h (s.seq k) :=
  s.seq_setSeq_same k _

theorem State.seq_modSeq_ne (s : State) {k j : Fin 4} (h : Seq → Seq) (hj : j ≠ k) : (s.modSeq k h).seq j = s.seq j :=
  s.seq_setSeq_ne _ hj

/-- Two changes of one sequencer are one. -/
@[simp] theorem State.modSeq_modSeq (s : State) (k : Fin 4) (f g : Seq → Seq) :
    (s.modSeq k f).modSeq k g = s.modSeq k (fun q => g (f q)) := by
  simp only [State.modSeq, State.seq_setSeq_same]
  simp [State.setSeq, Vector.set]

/-- A change of one sequencer changes no other and nothing else. -/
theorem onlySeq_modSeq (s : State) (k : Fin 4) (h : Seq → Seq) : OnlySeq k s (s.modSeq k h) :=
  ⟨rfl, fun _ hj => s.seq_modSeq_ne h hj⟩

theorem OnlySeq.refl (k : Fin 4) (s : State) : OnlySeq k s s := ⟨rfl, fun _ _ => rfl⟩

theorem OnlySeq.trans {k : Fin 4} {s t u : State} (h : OnlySeq k s t) (g : OnlySeq k t u) : OnlySeq k s u := by
  refine ⟨?_, fun j hj => (g.2 j hj).trans (h.2 j hj)⟩
  have e : u = { t with seqs := u.seqs } := by rw [← g.1]
  have f : t = { s with seqs := t.seqs } := by rw [← h.1]
  rw [e, f]

/-! ## General registers (R154) -/

@[simp] theorem Seq.rd_zero (q : Seq) : q.rd 0 = 0 := rfl

@[simp] theorem Seq.wr_zero (q : Seq) (w : Word) : q.wr 0 w = q := rfl

theorem Seq.rd_wr_same (q : Seq) {d : Fin 32} (w : Word) (h : d ≠ 0) : (q.wr d w).rd d = w := by
  simp [Seq.rd, Seq.wr, h, vget_set_same]

theorem Seq.rd_wr_ne (q : Seq) {d r : Fin 32} (w : Word) (h : r ≠ d) : (q.wr d w).rd r = q.rd r := by
  unfold Seq.rd Seq.wr
  by_cases hd : d = 0 <;> by_cases hr : r = 0 <;> simp [hd, hr]
  exact vget_set_ne q.g w h

/-- What a register reads after a write of one. -/
theorem Seq.rd_wr (q : Seq) (d r : Fin 32) (w : Word) :
    (q.wr d w).rd r = if r = d ∧ r ≠ 0 then w else q.rd r := by
  by_cases h : r = d
  · subst h
    by_cases z : r = 0
    · subst z; simp
    · simp [Seq.rd_wr_same q w z, z]
  · simp [Seq.rd_wr_ne q w h, h]

/-! ## Issue (R156, R158) -/

/-- The successor of the instruction last issued stands at the address that `peek` names (R198). -/
@[simp] theorem Seq.close_next (q : Seq) : q.close.next = q.peek := by
  unfold Seq.close Seq.peek
  cases hl : q.loops with
  | nil => simp
  | cons l r =>
    by_cases h1 : l.last = q.pc ∧ l.depth = q.calls.length
    · by_cases h2 : 1 < l.remaining <;> simp [h1, h2]
    · have h3 : ¬ (l.last = q.pc ∧ l.depth = q.calls.length ∧ 1 < l.remaining) := fun x => h1 ⟨x.1, x.2.1⟩
      simp only [if_neg h1, if_neg h3]

/-- Closing an instruction touches the next address and the loops alone. -/
theorem Seq.close_rest (q : Seq) : { q.close with next := q.next, loops := q.loops } = q := by
  unfold Seq.close
  split
  · split <;> rfl
  · rfl

/-- What closing an instruction leaves of the rest of the sequencer. -/
theorem Seq.close_field {α : Type} (q : Seq) (g : Seq → α) : g { q.close with next := q.next, loops := q.loops } = g q :=
  congrArg g q.close_rest

@[simp] theorem Seq.goOn_pc (q : Seq) (n : Nat) : (q.goOn n).pc = q.pc := q.close_field Seq.pc
@[simp] theorem Seq.goOn_g (q : Seq) (n : Nat) : (q.goOn n).g = q.g := q.close_field Seq.g
@[simp] theorem Seq.goOn_n (q : Seq) (n : Nat) : (q.goOn n).n = q.n := q.close_field Seq.n
@[simp] theorem Seq.goOn_z (q : Seq) (n : Nat) : (q.goOn n).z = q.z := q.close_field Seq.z
@[simp] theorem Seq.goOn_c (q : Seq) (n : Nat) : (q.goOn n).c = q.c := q.close_field Seq.c
@[simp] theorem Seq.goOn_v (q : Seq) (n : Nat) : (q.goOn n).v = q.v := q.close_field Seq.v
@[simp] theorem Seq.goOn_sp (q : Seq) (n : Nat) : (q.goOn n).sp = q.sp := q.close_field Seq.sp
@[simp] theorem Seq.goOn_calls (q : Seq) (n : Nat) : (q.goOn n).calls = q.calls := q.close_field Seq.calls
@[simp] theorem Seq.goOn_evin (q : Seq) (n : Nat) : (q.goOn n).evin = q.evin := q.close_field Seq.evin
@[simp] theorem Seq.goOn_evNew (q : Seq) (n : Nat) : (q.goOn n).evNew = q.evNew := q.close_field Seq.evNew
@[simp] theorem Seq.goOn_evNewAt (q : Seq) (n : Nat) : (q.goOn n).evNewAt = q.evNewAt := q.close_field Seq.evNewAt
@[simp] theorem Seq.goOn_inAlt (q : Seq) (n : Nat) : (q.goOn n).inAlt = q.inAlt := q.close_field Seq.inAlt
@[simp] theorem Seq.goOn_inFault (q : Seq) (n : Nat) : (q.goOn n).inFault = q.inFault := q.close_field Seq.inFault
@[simp] theorem Seq.goOn_altPend (q : Seq) (n : Nat) : (q.goOn n).altPend = q.altPend := q.close_field Seq.altPend
@[simp] theorem Seq.goOn_clrAlt (q : Seq) (n : Nat) : (q.goOn n).clrAlt = q.clrAlt := q.close_field Seq.clrAlt
@[simp] theorem Seq.goOn_clrFault (q : Seq) (n : Nat) : (q.goOn n).clrFault = q.clrFault := q.close_field Seq.clrFault
@[simp] theorem Seq.goOn_ports (q : Seq) (n : Nat) : (q.goOn n).ports = q.ports := q.close_field Seq.ports
@[simp] theorem Seq.goOn_portAt (q : Seq) (n : Nat) : (q.goOn n).portAt = q.portAt := q.close_field Seq.portAt
@[simp] theorem Seq.goOn_issuedAt (q : Seq) (n : Nat) : (q.goOn n).issuedAt = q.issuedAt := q.close_field Seq.issuedAt
@[simp] theorem Seq.goOn_openEnd (q : Seq) (n : Nat) : (q.goOn n).openEnd = q.openEnd := q.close_field Seq.openEnd
@[simp] theorem Seq.goOn_quiet (q : Seq) (n : Nat) : (q.goOn n).quiet = q.quiet := q.close_field Seq.quiet
@[simp] theorem Seq.goOn_stallCond (q : Seq) (n : Nat) : (q.goOn n).stallCond = q.stallCond := q.close_field Seq.stallCond
@[simp] theorem Seq.goOn_res (q : Seq) (n : Nat) : (q.goOn n).res = q.res := q.close_field Seq.res
@[simp] theorem Seq.goOn_stopReq (q : Seq) (n : Nat) : (q.goOn n).stopReq = q.stopReq := q.close_field Seq.stopReq
@[simp] theorem Seq.goOn_next (q : Seq) (n : Nat) : (q.goOn n).next = q.peek := q.close_next
@[simp] theorem Seq.goOn_due (q : Seq) (n : Nat) : (q.goOn n).due = n := rfl
@[simp] theorem Seq.goOn_mode (q : Seq) (n : Nat) : (q.goOn n).mode = .running := rfl
@[simp] theorem Seq.goOn_wait (q : Seq) (n : Nat) : (q.goOn n).wait = .none := rfl

/-- Going on touches where the sequencer runs alone. -/
theorem Seq.goOn_rest (q : Seq) (n : Nat) :
    { q.goOn n with next := q.next, loops := q.loops, mode := q.mode, wait := q.wait, due := q.due } = q :=
  congrArg (fun x : Seq => { x with mode := q.mode, wait := q.wait, due := q.due }) q.close_rest

@[simp] theorem Seq.rd_goOn (q : Seq) (n : Nat) (r : Fin 32) : (q.goOn n).rd r = q.rd r := by simp [Seq.rd]
@[simp] theorem Seq.rd_begin (q : Seq) (fc : Nat) (r : Fin 32) : (q.begin fc).rd r = q.rd r := rfl
@[simp] theorem Seq.opnd_begin (q : Seq) (fc : Nat) (o : Opnd) : (q.begin fc).opnd o = q.opnd o := by cases o <;> rfl
@[simp] theorem Seq.begin_pc (q : Seq) (fc : Nat) : (q.begin fc).pc = q.next := rfl
@[simp] theorem Seq.begin_calls (q : Seq) (fc : Nat) : (q.begin fc).calls = q.calls := rfl
@[simp] theorem Seq.begin_loops (q : Seq) (fc : Nat) : (q.begin fc).loops = q.loops := rfl
@[simp] theorem Seq.begin_sp (q : Seq) (fc : Nat) : (q.begin fc).sp = q.sp := rfl
@[simp] theorem Seq.inputs_begin (q : Seq) (fc now : Nat) : (q.begin fc).inputs now = q.inputs now := rfl
@[simp] theorem Seq.peek_begin (q : Seq) (fc : Nat) : (q.begin fc).peek = ({ q with pc := q.next } : Seq).peek := rfl

@[simp] theorem Seq.begin_issuedAt (q : Seq) (fc : Nat) : (q.begin fc).issuedAt = fc + 1 := rfl

/-- A word free of errors is fetched as it is stored. -/
@[simp] theorem State.fetched_clean (s : State) (k : Fin 4) : s.fetched k .clean = s.pgmWord k (s.seq k).next := by
  simp [State.fetched, Flaw.clean]

/-- A sequencer that issues the instruction its word spells, free of errors, runs it. -/
theorem State.issue_clean (s : State) (k : Fin 4) (i : Instr) (run : State → State) (h : s.canIssue k i) :
    s.issue k .clean i run = run (s.issued k) := by
  obtain ⟨hr, hm, hi⟩ := h
  unfold State.issue
  simp only [hr, if_true, hm, State.fetched_clean, hi]
  rfl

@[simp] theorem State.seq_issued (s : State) (k : Fin 4) :
    (s.issued k).seq k = (s.seq k).begin s.tl.fc := by
  simp [State.issued]

@[simp] theorem State.issued_tl (s : State) (k : Fin 4) : (s.issued k).tl = s.tl := rfl

@[simp] theorem State.issued_regs (s : State) (k : Fin 4) : (s.issued k).regs = s.regs := rfl

/-- A sequencer that does not issue changes nothing. -/
theorem State.issue_not (s : State) (k : Fin 4) (e : Flaw) (i : Instr) (run : State → State)
    (h : (s.seq k).ready s.tl.fc = false) : s.issue k e i run = s := by
  simp [State.issue, h]

/-- Nor does one given an instruction that its clean word does not spell (R185). -/
theorem State.issue_other (s : State) (k : Fin 4) (i : Instr) (run : State → State)
    (hm : mget Ecc.clean s.fab.pgmErr (65536 * k.val + (s.seq k).next) = .clean)
    (hi : saenoInstr k .clean (s.pgmWord k (s.seq k).next) ≠ i) : s.issue k .clean i run = s := by
  unfold State.issue
  by_cases hr : (s.seq k).ready s.tl.fc = true
  · simp only [hr, if_true, hm, State.fetched_clean, hi, if_false]
    rfl
  · simp [hr]

/-- The end of an instruction of `cost` fc is a change of its sequencer. -/
theorem State.done_modSeq (s : State) (k : Fin 4) (cost : Nat) :
    s.done k cost = s.modSeq k (fun q => q.goOn (s.tl.fc + cost)) := rfl

/-- Writing a register touches the registers alone. -/
theorem Seq.wr_rest (q : Seq) (d : Fin 32) (w : Word) : { q.wr d w with g := q.g } = q := by
  unfold Seq.wr; split <;> rfl

/-- An arithmetic instruction that issues: its sequencer's state, and nothing else, is changed. -/
theorem State.alu_issued (s : State) (k : Fin 4) (h : Seq → Seq) :
    (s.issued k).alu k h = s.modSeq k (fun q => (h (q.begin s.tl.fc)).goOn (s.tl.fc + 1)) := by
  simp only [State.alu, State.done, State.issued, State.modSeq_modSeq]
  rfl

/-- An instruction of one fc that leaves a register written and the flags set does no more than that. -/
theorem wrote_of (s : State) (k : Fin 4) (d : Fin 32) (w : Word) (n z c v : Bool) (h : Seq → Seq)
    (he : h ((s.seq k).begin s.tl.fc) = { ((s.seq k).begin s.tl.fc).wr d w with n := n, z := z, c := c, v := v }) :
    Wrote k s ((s.issued k).alu k h) d w n z c v := by
  rw [State.alu_issued]
  have e2 : (s.modSeq k (fun q => (h (q.begin s.tl.fc)).goOn (s.tl.fc + 1))).seq k
      = (h ((s.seq k).begin s.tl.fc)).goOn (s.tl.fc + 1) := s.seq_modSeq_same k _
  have hr := ((s.seq k).begin s.tl.fc).wr_rest d w
  refine ⟨onlySeq_modSeq s k _, ?_, ?_, ?_, ?_, ?_, ?_, ?_⟩
  · rw [e2, he]
    refine ⟨?_, ?_, rfl, rfl, rfl⟩
    · rw [Seq.goOn_pc]; exact congrArg Seq.pc hr
    · rw [Seq.goOn_next]; unfold Seq.wr; split <;> rfl
  · rw [e2]
    have g := (h ((s.seq k).begin s.tl.fc)).goOn_rest (s.tl.fc + 1)
    unfold Seq.onlyRun
    refine Eq.trans (congrArg (fun x : Seq => { x with
        g := (s.seq k).g, n := (s.seq k).n, z := (s.seq k).z, c := (s.seq k).c, v := (s.seq k).v, pc := (s.seq k).pc,
        next := (s.seq k).next, due := (s.seq k).due, mode := (s.seq k).mode, wait := (s.seq k).wait, loops := (s.seq k).loops,
        inAlt := (s.seq k).inAlt, inFault := (s.seq k).inFault, clrAlt := (s.seq k).clrAlt, clrFault := (s.seq k).clrFault,
        quiet := (s.seq k).quiet, issuedAt := (s.seq k).issuedAt }) g) ?_
    rw [he]
    exact congrArg (fun x : Seq => { x with
        g := (s.seq k).g, n := (s.seq k).n, z := (s.seq k).z, c := (s.seq k).c, v := (s.seq k).v, pc := (s.seq k).pc,
        next := (s.seq k).next, due := (s.seq k).due, mode := (s.seq k).mode, wait := (s.seq k).wait, loops := (s.seq k).loops,
        inAlt := (s.seq k).inAlt, inFault := (s.seq k).inFault, clrAlt := (s.seq k).clrAlt, clrFault := (s.seq k).clrFault,
        quiet := (s.seq k).quiet, issuedAt := (s.seq k).issuedAt }) hr
  · intro r
    rw [e2, Seq.rd_goOn, he]
    show (((s.seq k).begin s.tl.fc).wr d w).rd r = _
    rw [Seq.rd_wr, Seq.rd_begin]
  · rw [e2, Seq.goOn_n, he]
  · rw [e2, Seq.goOn_z, he]
  · rw [e2, Seq.goOn_c, he]
  · rw [e2, Seq.goOn_v, he]

/-- A transfer of control does no more than that to the sequencer, beside what it does to its stacks. -/
theorem jumped_of (s : State) (k : Fin 4) (target : Nat) (h : Seq → Seq) (hp : ∀ q, (h q).pc = q.pc) (hg : ∀ q, (h q).g = q.g) :
    Jumped k s ((s.issued k).jump k target h) target := by
  unfold State.jump State.issued
  rw [State.modSeq_modSeq]
  refine ⟨onlySeq_modSeq s k _, ?_, ?_, ?_, ?_, ?_, ?_⟩ <;> rw [State.seq_modSeq_same] <;> simp [hp, hg]
  rfl

/-- The sequencer a transfer of control leaves. -/
theorem State.seq_jump_issued (s : State) (k : Fin 4) (target : Nat) (h : Seq → Seq) :
    ((s.issued k).jump k target h).seq k = { h ((s.seq k).begin s.tl.fc) with
      next := target, due := s.tl.fc + 2, mode := .running, wait := .none } := by
  unfold State.jump State.issued
  rw [State.modSeq_modSeq, State.seq_modSeq_same]
  rfl

theorem srcSev_seqFault : ∀ k : Fin 4, ∃ v, srcSev (Ev.SEQ_FAULT k) = some v := by
  have h : ∀ k : Fin 4, (srcSev (Ev.SEQ_FAULT k)).isSome = true := by decide
  exact fun k => Option.isSome_iff_exists.mp (h k)

theorem seqFault_quiet : ∀ k : Fin 4, Rg.SEQ_FAULT k ∉ noteRegs := by decide

theorem Seq.rd_of_g {q u : Seq} (h : u.g = q.g) (r : Fin 32) : u.rd r = q.rd r := by simp [Seq.rd, h]

/-- The note a fault takes: SEQn_FAULT and the event (R167). -/
theorem State.faultNote (s : State) (k : Fin 4) (w : Word) (p : List Nat) :
    ((s.setReg (Rg.SEQ_FAULT k) w).raise (Ev.SEQ_FAULT k) p).reg (Rg.SEQ_FAULT k) = w ∧
    Raised (Ev.SEQ_FAULT k) s ((s.setReg (Rg.SEQ_FAULT k) w).raise (Ev.SEQ_FAULT k) p) := by
  obtain ⟨v, hv⟩ := srcSev_seqFault k
  refine ⟨?_, ?_⟩
  · rw [State.reg_raise _ _ _ (seqFault_quiet k)]
    exact s.reg_setReg_same _ _
  · exact raised_raise (s.setReg (Rg.SEQ_FAULT k) w) (Ev.SEQ_FAULT k) p hv

/-- Everything a fault in the present fc does (R167, R168). -/
theorem tookFault_seqFault (s : State) (k : Fin 4) (cause fpc nxt : Nat) :
    TookFault k s (s.seqFault k cause fpc s.tl.fc nxt) cause fpc nxt := by
  obtain ⟨h1, h2⟩ := s.faultNote k (BitVec.ofNat 32 (cause * 2 ^ 24 + fpc % 2 ^ 16)) [(s.seq k).pc, cause]
  unfold State.seqFault
  simp only []
  generalize hu : (s.setReg (Rg.SEQ_FAULT k) (BitVec.ofNat 32 (cause * 2 ^ 24 + fpc % 2 ^ 16))).raise (Ev.SEQ_FAULT k)
    [(s.seq k).pc, cause] = u at *
  have reg_mod : ∀ (h : Seq → Seq), (u.modSeq k h).reg (Rg.SEQ_FAULT k) = u.reg (Rg.SEQ_FAULT k) := fun _ => rfl
  have src_mod : ∀ (h : Seq → Seq), Raised (Ev.SEQ_FAULT k) s (u.modSeq k h) := fun _ => h2
  unfold TookFault
  cases hv : s.vector k 0 with
  | none =>
    refine ⟨(reg_mod _).trans h1, src_mod _, ?_, ?_⟩
    · intro e he; cases he
    · intro _; simp [Seq.fail]
  | some e =>
    by_cases hf : (s.seq k).inFault = true
    · simp only [hf, if_true]
      refine ⟨(reg_mod _).trans h1, src_mod _, ?_, ?_⟩
      · intro _ _ hn; cases hn
      · intro hn; cases hn
    · simp only [hf, if_false, Bool.false_eq_true]
      refine ⟨(reg_mod _).trans h1, src_mod _, ?_, ?_⟩
      rotate_left
      · intro hn; cases hn
      intro _ he _
      cases he
      refine ⟨by simp [Seq.enterFault], by simp [Seq.enterFault], by simp [Seq.enterFault], by simp [Seq.enterFault], ?_, ?_⟩
      · refine Eq.trans ?_ h1.symm
        simp only [State.seq_modSeq_same]
        show (((u.seq k).wr 30 _).wr 31 _).rd 30 = _
        rw [Seq.rd_wr_ne _ _ (by decide), Seq.rd_wr_same _ _ (by decide)]
      · simp only [State.seq_modSeq_same]
        show (((u.seq k).wr 30 _).wr 31 _).rd 31 = _
        rw [Seq.rd_wr_same _ _ (by decide)]

/-- An instruction that issues and faults at once (R167, R168). -/
theorem tookFault_issued (s : State) (k : Fin 4) (cause : Nat) :
    TookFault k s ((s.issued k).issueFault k cause) cause (s.seq k).next ({ s.seq k with pc := (s.seq k).next } : Seq).peek := by
  have h : TookFault k (s.issued k) ((s.issued k).issueFault k cause) cause ((s.issued k).seq k).pc ((s.issued k).seq k).peek :=
    tookFault_seqFault (s.issued k) k cause _ _
  generalize (s.issued k).issueFault k cause = t at *
  obtain ⟨h1, h2, h3, h4⟩ := h
  rw [State.seq_issued] at h1 h3
  refine ⟨h1, h2, fun e he hf => h3 e he ?_, h4⟩
  show ((s.seq k).inFault && !(s.seq k).clrFault) = false
  simp [hf]

end Sys2Proof.Machine
end

