-- ==== Sys2Proof/Laws/Kept.lean ====
section
/-!
SUPPORT. Sys2Proof/Laws/Kept.lean: that a shared operation neither burns a fuse nor touches the queue, one lemma for each; not
those that burn one (burnProv, burnRev, burnKey, progKey, enterLife), and not all others.
-/
namespace Sys2Proof.Machine
open Sys2Proof

set_option Elab.async false
/-- A fold keeps the fuses and the queue where its step does. -/
@[simp] theorem foldl_kept {α : Type} (f : State → α → State) (h : ∀ t a, (f t a).fuse = t.fuse ∧ (f t a).pending = t.pending) (l : List α) (s : State) :
    (l.foldl f s).fuse = s.fuse ∧ (l.foldl f s).pending = s.pending := by
  induction l generalizing s with
  | nil => exact ⟨rfl, rfl⟩
  | cons a l ih => exact ⟨(ih _).1.trans (h s a).1, (ih _).2.trans (h s a).2⟩
/-- The fuses and the queue of a choice between two states. -/
@[simp] theorem ite_kept (p : Prop) [Decidable p] (a b : State) : (if p then a else b).fuse = (if p then a.fuse else b.fuse) ∧
    (if p then a else b).pending = (if p then a.pending else b.pending) := by
  split <;> exact ⟨rfl, rfl⟩

/-- A fold that threads a state through keeps the fuses and the queue where its step does. -/
theorem foldl_kept_by {α β : Type} (g : β → State) (f : β → α → β)
    (h : ∀ b a, (g (f b a)).fuse = (g b).fuse ∧ (g (f b a)).pending = (g b).pending) (l : List α) (b : β) :
    (g (l.foldl f b)).fuse = (g b).fuse ∧ (g (l.foldl f b)).pending = (g b).pending := by
  induction l generalizing b with
  | nil => exact ⟨rfl, rfl⟩
  | cons a l ih => exact ⟨(ih _).1.trans (h b a).1, (ih _).2.trans (h b a).2⟩


@[simp] theorem State.setReg_kept (s : State) (off : Nat) (w : Word) :
    (State.setReg s off w).fuse = s.fuse ∧ (State.setReg s off w).pending = s.pending := ⟨rfl, rfl⟩

@[simp] theorem State.setF_kept (s : State) (x : Fld) (v : Nat) :
    (State.setF s x v).fuse = s.fuse ∧ (State.setF s x v).pending = s.pending := ⟨rfl, rfl⟩

@[simp] theorem State.addF_kept (s : State) (x : Fld) (n : Nat) :
    (State.addF s x n).fuse = s.fuse ∧ (State.addF s x n).pending = s.pending := ⟨rfl, rfl⟩

@[simp] theorem State.incF_kept (s : State) (x : Fld) :
    (State.incF s x).fuse = s.fuse ∧ (State.incF s x).pending = s.pending := ⟨rfl, rfl⟩

@[simp] theorem State.resetRegs_kept (s : State) (out : Nat → Bool) :
    (State.resetRegs s out).fuse = s.fuse ∧ (State.resetRegs s out).pending = s.pending := ⟨rfl, rfl⟩

@[simp] theorem State.putLeast_kept (s : State) (x : Fld) (v : Nat) :
    (State.putLeast s x v).fuse = s.fuse ∧ (State.putLeast s x v).pending = s.pending := by simp [State.putLeast]

@[simp] theorem State.draw_kept (s : State) (w : Nat) :
    (State.draw s w).2.fuse = s.fuse ∧ (State.draw s w).2.pending = s.pending := ⟨rfl, rfl⟩

@[simp] theorem State.loadCopies_kept (s : State) :
    (State.loadCopies s).fuse = s.fuse ∧ (State.loadCopies s).pending = s.pending := by simp [State.loadCopies]

@[simp] theorem State.stage_kept (s : State) (r : Rcd) :
    (State.stage s r).fuse = s.fuse ∧ (State.stage s r).pending = s.pending := by unfold State.stage; (repeat' split) <;> simp

@[simp] theorem State.blockRecord_kept (s : State) (sev : Sev) (type cls : Nat) (payload : List Word) :
    (State.blockRecord s sev type cls payload).fuse = s.fuse ∧ (State.blockRecord s sev type cls payload).pending = s.pending := by simp [State.blockRecord]

@[simp] theorem State.progRecord_kept (s : State) (sev : Sev) (type k : Nat) (payload : List Word) :
    (State.progRecord s sev type k payload).fuse = s.fuse ∧ (State.progRecord s sev type k payload).pending = s.pending := by simp [State.progRecord]

@[simp] theorem State.occRecord_kept (s : State) (o : Occ) :
    (State.occRecord s o).fuse = s.fuse ∧ (State.occRecord s o).pending = s.pending := by simp [State.occRecord]

@[simp] theorem State.lostRecord_kept (s : State) (src : Nat) :
    (State.lostRecord s src).fuse = s.fuse ∧ (State.lostRecord s src).pending = s.pending := by simp [State.lostRecord]

@[simp] theorem State.setSrc_kept (s : State) (n : Nat) (i : SrcInfo) :
    (State.setSrc s n i).fuse = s.fuse ∧ (State.setSrc s n i).pending = s.pending := ⟨rfl, rfl⟩

@[simp] theorem State.latchInputs_kept (s : State) (n : Nat) :
    (State.latchInputs s n).fuse = s.fuse ∧ (State.latchInputs s n).pending = s.pending := by simp [State.latchInputs]

@[simp] theorem State.kickBy_kept (s : State) (n : Nat) :
    (State.kickBy s n).fuse = s.fuse ∧ (State.kickBy s n).pending = s.pending := by simp [State.kickBy]

@[simp] theorem State.wdUpdate_kept (s : State) (ran : Bool) :
    (State.wdUpdate s ran).fuse = s.fuse ∧ (State.wdUpdate s ran).pending = s.pending := by simp [State.wdUpdate]

@[simp] theorem State.trigBy_kept (s : State) (n : Nat) :
    (State.trigBy s n).fuse = s.fuse ∧ (State.trigBy s n).pending = s.pending := by simp [State.trigBy]

@[simp] theorem State.askFreeze_kept (s : State) (cause : Nat) :
    (State.askFreeze s cause).fuse = s.fuse ∧ (State.askFreeze s cause).pending = s.pending := by simp [State.askFreeze]

@[simp] theorem State.faultBy_kept (s : State) (v : Sev) :
    (State.faultBy s v).fuse = s.fuse ∧ (State.faultBy s v).pending = s.pending := by simp [State.faultBy]

@[simp] theorem State.occNow_kept (s : State) (n : Nat) (v : Sev) :
    (State.occNow s n v).fuse = s.fuse ∧ (State.occNow s n v).pending = s.pending := by simp [State.occNow]

@[simp] theorem State.hold_kept (s : State) (o : Occ) :
    (State.hold s o).fuse = s.fuse ∧ (State.hold s o).pending = s.pending := ⟨rfl, rfl⟩

@[simp] theorem State.overflow_kept (s : State) (n : Nat) :
    (State.overflow s n).fuse = s.fuse ∧ (State.overflow s n).pending = s.pending := by simp [State.overflow]

@[simp] theorem State.raise1_kept (s : State) (n : Nat) (v : Sev) (payload : List Word) :
    (State.raise1 s n v payload).fuse = s.fuse ∧ (State.raise1 s n v payload).pending = s.pending := by simp [State.raise1]

@[simp] theorem State.raiseAt_kept (s : State) (n : Nat) (v : Sev) (payload : List Word) :
    (State.raiseAt s n v payload).fuse = s.fuse ∧ (State.raiseAt s n v payload).pending = s.pending := by simp [State.raiseAt]

@[simp] theorem State.raise_kept (s : State) (n : Nat) (payload : List Nat) :
    (State.raise s n payload).fuse = s.fuse ∧ (State.raise s n payload).pending = s.pending := by unfold State.raise; (repeat' split) <;> simp

@[simp] theorem State.raiseAll_kept (s : State) (l : List (Nat × List Nat)) :
    (State.raiseAll s l).fuse = s.fuse ∧ (State.raiseAll s l).pending = s.pending := by simp [State.raiseAll]

@[simp] theorem State.emit_kept (s : State) (o : Out) :
    (State.emit s o).fuse = s.fuse ∧ (State.emit s o).pending = s.pending := ⟨rfl, rfl⟩

@[simp] theorem State.endReadback_kept (s : State) (err : Nat) :
    (State.endReadback s err).fuse = s.fuse ∧ (State.endReadback s err).pending = s.pending := by simp [State.endReadback]

@[simp] theorem State.fenceReadback_kept (s : State) (die : Nat) :
    (State.fenceReadback s die).fuse = s.fuse ∧ (State.fenceReadback s die).pending = s.pending := by unfold State.fenceReadback; (repeat' split) <;> simp

@[simp] theorem State.snapFail_kept (s : State) (b : Fin 2) (reason : Nat) :
    (State.snapFail s b reason).fuse = s.fuse ∧ (State.snapFail s b reason).pending = s.pending := by simp [State.snapFail]

@[simp] theorem State.fenceSnapshot_kept (s : State) (die : Nat) :
    (State.fenceSnapshot s die).fuse = s.fuse ∧ (State.fenceSnapshot s die).pending = s.pending := by unfold State.fenceSnapshot; (repeat' split) <;> simp

@[simp] theorem State.snapDirty_kept (s : State) (touched : Bool) :
    (State.snapDirty s touched).fuse = s.fuse ∧ (State.snapDirty s touched).pending = s.pending := by simp [State.snapDirty]

@[simp] theorem State.report_kept (s : State) (off : Nat) (fields : List (Fld × Nat)) :
    (State.report s off fields).fuse = s.fuse ∧ (State.report s off fields).pending = s.pending := ⟨rfl, rfl⟩

@[simp] theorem State.reportIn_kept (s : State) (off cycle rank : Nat) (fields : List (Fld × Nat)) :
    (State.reportIn s off cycle rank fields).fuse = s.fuse ∧ (State.reportIn s off cycle rank fields).pending = s.pending := by simp [State.reportIn]

@[simp] theorem State.reportLow_kept (s : State) (off rank : Nat) (fields : List (Fld × Nat)) :
    (State.reportLow s off rank fields).fuse = s.fuse ∧ (State.reportLow s off rank fields).pending = s.pending := by simp [State.reportLow]

@[simp] theorem State.setSeq_kept (s : State) (k : Fin 4) (q : Seq) :
    (State.setSeq s k q).fuse = s.fuse ∧ (State.setSeq s k q).pending = s.pending := ⟨rfl, rfl⟩

@[simp] theorem State.modSeq_kept (s : State) (k : Fin 4) (h : Seq → Seq) :
    (State.modSeq s k h).fuse = s.fuse ∧ (State.modSeq s k h).pending = s.pending := ⟨rfl, rfl⟩

@[simp] theorem State.done_kept (s : State) (k : Fin 4) (cost : Nat) :
    (State.done s k cost).fuse = s.fuse ∧ (State.done s k cost).pending = s.pending := ⟨rfl, rfl⟩

@[simp] theorem State.doneLong_kept (s : State) (k : Fin 4) (cost : Nat) :
    (State.doneLong s k cost).fuse = s.fuse ∧ (State.doneLong s k cost).pending = s.pending := by simp [State.doneLong]

@[simp] theorem State.takeAlt_kept (s : State) (k : Fin 4) (entry reason region h nxt : Nat) :
    (State.takeAlt s k entry reason region h nxt).fuse = s.fuse ∧ (State.takeAlt s k entry reason region h nxt).pending = s.pending := by
  unfold State.takeAlt; dsimp only
  exact ⟨(State.raise_fuse _ _ _).trans ((State.modSeq_fuse _ _ _).trans (State.setReg_fuse _ _ _)),
    (State.raise_pending _ _ _).trans ((State.modSeq_pending _ _ _).trans (State.setReg_pending _ _ _))⟩

@[simp] theorem State.seqFault_kept (s : State) (k : Fin 4) (cause fpc r nxt : Nat) :
    (State.seqFault s k cause fpc r nxt).fuse = s.fuse ∧ (State.seqFault s k cause fpc r nxt).pending = s.pending := by
  unfold State.seqFault; dsimp only
  (repeat' split) <;>
    exact ⟨(State.modSeq_fuse _ _ _).trans ((State.raise_fuse _ _ _).trans (State.setReg_fuse _ _ _)),
      (State.modSeq_pending _ _ _).trans ((State.raise_pending _ _ _).trans (State.setReg_pending _ _ _))⟩

@[simp] theorem State.altCond_kept (s : State) (k : Fin 4) (reason region : Nat) :
    (State.altCond s k reason region).fuse = s.fuse ∧ (State.altCond s k reason region).pending = s.pending := by
  unfold State.altCond; dsimp only
  (repeat' split) <;> first | exact ⟨rfl, rfl⟩ | exact State.takeAlt_kept .. | exact State.seqFault_kept ..

@[simp] theorem State.putPgm_kept (s : State) (key w : Nat) :
    (State.putPgm s key w).fuse = s.fuse ∧ (State.putPgm s key w).pending = s.pending := by simp [State.putPgm]

@[simp] theorem State.owePgm_kept (s : State) (key : Nat) :
    (State.owePgm s key).fuse = s.fuse ∧ (State.owePgm s key).pending = s.pending := by simp [State.owePgm]

@[simp] theorem State.writePgmBack_kept (s : State) (key : Nat) :
    (State.writePgmBack s key).fuse = s.fuse ∧ (State.writePgmBack s key).pending = s.pending := by simp [State.writePgmBack]

@[simp] theorem State.pgmWbEnd_kept (s : State) :
    (State.pgmWbEnd s).fuse = s.fuse ∧ (State.pgmWbEnd s).pending = s.pending := by simp [State.pgmWbEnd]

@[simp] theorem State.issue_kept (s : State) (k : Fin 4) (e : Flaw) (i : Instr) (run : State → State)
    (h : ∀ t, (run t).fuse = t.fuse ∧ (run t).pending = t.pending) :
    (State.issue s k e i run).fuse = s.fuse ∧ (State.issue s k e i run).pending = s.pending := by
  unfold State.issue; dsimp only
  (repeat' split) <;> first | exact ⟨rfl, rfl⟩ | simp [h]

@[simp] theorem State.issueFault_kept (s : State) (k : Fin 4) (cause : Nat) :
    (State.issueFault s k cause).fuse = s.fuse ∧ (State.issueFault s k cause).pending = s.pending := State.seqFault_kept ..

@[simp] theorem State.seqStop_kept (s : State) (k : Fin 4) :
    (State.seqStop s k).fuse = s.fuse ∧ (State.seqStop s k).pending = s.pending := by simp [State.seqStop]

@[simp] theorem State.seqStart_kept (s : State) (k : Fin 4) :
    (State.seqStart s k).fuse = s.fuse ∧ (State.seqStart s k).pending = s.pending := by unfold State.seqStart; (repeat' split) <;> simp

@[simp] theorem State.applyRes_kept (s : State) (k : Fin 4) (r : PortRes) :
    (State.applyRes s k r).fuse = s.fuse ∧ (State.applyRes s k r).pending = s.pending := by
  unfold State.applyRes; dsimp only
  split
  · split
    · exact ⟨rfl, rfl⟩
    · exact State.seqFault_kept ..
  · exact ⟨rfl, rfl⟩

@[simp] theorem State.portFc_kept (s : State) (k : Fin 4) :
    (State.portFc s k).fuse = s.fuse ∧ (State.portFc s k).pending = s.pending := by simp [State.portFc]

@[simp] theorem State.barrierStop_kept (s : State) (k : Fin 4) :
    (State.barrierStop s k).fuse = s.fuse ∧ (State.barrierStop s k).pending = s.pending := by unfold State.barrierStop; (repeat' split) <;> simp

@[simp] theorem State.seqFc_kept (s : State) (k : Fin 4) :
    (State.seqFc s k).fuse = s.fuse ∧ (State.seqFc s k).pending = s.pending := by simp only [State.seqFc]; (repeat' split) <;> simp_all

@[simp] theorem State.refuse_kept (s : State) (who : Who) (off : Nat) (r : Reply) :
    (State.refuse s who off r).fuse = s.fuse ∧ (State.refuse s who off r).pending = s.pending := by unfold State.refuse; (repeat' split) <;> simp

@[simp] theorem State.pcieDown_kept (s : State) :
    (State.pcieDown s).fuse = s.fuse ∧ (State.pcieDown s).pending = s.pending := by simp [State.pcieDown]

@[simp] theorem State.setShadow_kept (s : State) (off : Nat) (m v : Word) :
    (State.setShadow s off m v).fuse = s.fuse ∧ (State.setShadow s off m v).pending = s.pending := ⟨rfl, rfl⟩

@[simp] theorem State.writeFields_kept (s : State) (off : Nat) (v : Word) :
    (State.writeFields s off v).fuse = s.fuse ∧ (State.writeFields s off v).pending = s.pending := by unfold State.writeFields; (repeat' split) <;> simp

@[simp] theorem State.onBus_kept (s : State) (who : Who) (off : Nat) (v : Word) (act : State → State) (h_act : ∀ x0, (act x0).fuse = x0.fuse ∧ (act x0).pending = x0.pending) :
    (State.onBus s who off v act).fuse = s.fuse ∧ (State.onBus s who off v act).pending = s.pending := by unfold State.onBus; (repeat' split) <;> simp_all

@[simp] theorem State.setMsixWord_kept (s : State) (i : Nat) (w : Word) :
    (State.setMsixWord s i w).fuse = s.fuse ∧ (State.setMsixWord s i w).pending = s.pending := ⟨rfl, rfl⟩

@[simp] theorem State.message_kept (s : State) (vec : Nat) :
    (State.message s vec).fuse = s.fuse ∧ (State.message s vec).pending = s.pending := by simp [State.message]

@[simp] theorem State.unhold_kept (s : State) :
    (State.unhold s).fuse = s.fuse ∧ (State.unhold s).pending = s.pending := by simp [State.unhold]

@[simp] theorem State.settle_kept (s : State) :
    (State.settle s).fuse = s.fuse ∧ (State.settle s).pending = s.pending := by simp [State.settle]

@[simp] theorem State.occDeliver_kept (s : State) (o : Occ) :
    (State.occDeliver s o).fuse = s.fuse ∧ (State.occDeliver s o).pending = s.pending := by simp [State.occDeliver]

@[simp] theorem State.takeFrom_kept (s : State) (n : Nat) :
    (State.takeFrom s n).fuse = s.fuse ∧ (State.takeFrom s n).pending = s.pending := by unfold State.takeFrom; (repeat' split) <;> simp

@[simp] theorem State.pendWrite_kept (s : State) (who : Who) (w : Fin 32) (v : Word) :
    (State.pendWrite s who w v).fuse = s.fuse ∧ (State.pendWrite s who w v).pending = s.pending := by simp [State.pendWrite]

@[simp] theorem State.unmask_kept (s : State) (u : Unmask) :
    (State.unmask s u).fuse = s.fuse ∧ (State.unmask s u).pending = s.pending := by unfold State.unmask; (repeat' split) <;> simp

@[simp] theorem State.recordEin_kept (s : State) (k ein : Nat) :
    (State.recordEin s k ein).fuse = s.fuse ∧ (State.recordEin s k ein).pending = s.pending := by unfold State.recordEin; (repeat' split) <;> simp

@[simp] theorem State.latchEin_kept (s : State) (k : Fin 4) (ein : Nat) :
    (State.latchEin s k ein).fuse = s.fuse ∧ (State.latchEin s k ein).pending = s.pending := by simp [State.latchEin]

@[simp] theorem State.latchLand_kept (s : State) (l : Latch) :
    (State.latchLand s l).fuse = s.fuse ∧ (State.latchLand s l).pending = s.pending := by simp [State.latchLand]

@[simp] theorem State.acceptToken_kept (s : State) (t : Token) :
    (State.acceptToken s t).fuse = s.fuse ∧ (State.acceptToken s t).pending = s.pending := ⟨rfl, rfl⟩

@[simp] theorem State.nvmPut_kept (s : State) (off : Nat) (bs : List Byte) :
    (State.nvmPut s off bs).fuse = s.fuse ∧ (State.nvmPut s off bs).pending = s.pending := ⟨rfl, rfl⟩

@[simp] theorem State.recordAt_kept (s : State) (r : Rcd) (off : Nat) :
    (State.recordAt s r off).fuse = s.fuse ∧ (State.recordAt s r off).pending = s.pending := ⟨rfl, rfl⟩

@[simp] theorem State.recordRing_kept (s : State) (r : Rcd) :
    (State.recordRing s r).fuse = s.fuse ∧ (State.recordRing s r).pending = s.pending := by simp [State.recordRing]

@[simp] theorem State.recordFfz_kept (s : State) (r : Rcd) :
    (State.recordFfz s r).fuse = s.fuse ∧ (State.recordFfz s r).pending = s.pending := by simp [State.recordFfz]

@[simp] theorem State.writeRecord_kept (s : State) (r : Rcd) :
    (State.writeRecord s r).fuse = s.fuse ∧ (State.writeRecord s r).pending = s.pending := by simp [State.writeRecord]

@[simp] theorem State.foldRecord_kept (s : State) (l r : Rcd) (off pcc : Nat) :
    (State.foldRecord s l r off pcc).fuse = s.fuse ∧ (State.foldRecord s l r off pcc).pending = s.pending := by simp [State.foldRecord]

@[simp] theorem State.putRecord_kept (s : State) (r : Rcd) :
    (State.putRecord s r).fuse = s.fuse ∧ (State.putRecord s r).pending = s.pending := by unfold State.putRecord; (repeat' split) <;> simp

@[simp] theorem State.lostOut_kept (s : State) :
    (State.lostOut s).fuse = s.fuse ∧ (State.lostOut s).pending = s.pending := by simp [State.lostOut]

@[simp] theorem State.drainOne_kept (s : State) :
    (State.drainOne s).fuse = s.fuse ∧ (State.drainOne s).pending = s.pending := by unfold State.drainOne; (repeat' split) <;> simp

@[simp] theorem State.drainAll_kept (s : State) :
    (State.drainAll s).fuse = s.fuse ∧ (State.drainAll s).pending = s.pending := by simp [State.drainAll]

@[simp] theorem State.noNonce_kept (s : State) :
    (State.noNonce s).fuse = s.fuse ∧ (State.noNonce s).pending = s.pending := ⟨rfl, rfl⟩

@[simp] theorem State.clearStart_kept (s : State) (t : Token) :
    (State.clearStart s t).fuse = s.fuse ∧ (State.clearStart s t).pending = s.pending := ⟨rfl, rfl⟩

@[simp] theorem State.clearCmd_kept (s : State) (token : Option Token) :
    (State.clearCmd s token).fuse = s.fuse ∧ (State.clearCmd s token).pending = s.pending := by simp only [State.clearCmd]; (repeat' split) <;> simp_all

@[simp] theorem State.eraseRing_kept (s : State) :
    (State.eraseRing s).fuse = s.fuse ∧ (State.eraseRing s).pending = s.pending := ⟨rfl, rfl⟩

@[simp] theorem State.eraseFfz_kept (s : State) :
    (State.eraseFfz s).fuse = s.fuse ∧ (State.eraseFfz s).pending = s.pending := ⟨rfl, rfl⟩

@[simp] theorem State.clearEnd_kept (s : State) (j : ClearJob) :
    (State.clearEnd s j).fuse = s.fuse ∧ (State.clearEnd s j).pending = s.pending := by simp [State.clearEnd]

@[simp] theorem State.setLayer_kept (s : State) (ly : Fin 4) (l : Layer) :
    (State.setLayer s ly l).fuse = s.fuse ∧ (State.setLayer s ly l).pending = s.pending := ⟨rfl, rfl⟩

@[simp] theorem State.setRegion_kept (s : State) (ly : Fin 4) (j : Fin 8) (r : Region) :
    (State.setRegion s ly j r).fuse = s.fuse ∧ (State.setRegion s ly j r).pending = s.pending := ⟨rfl, rfl⟩

@[simp] theorem State.modRegion_kept (s : State) (ly : Fin 4) (j : Fin 8) (h : Region → Region) :
    (State.modRegion s ly j h).fuse = s.fuse ∧ (State.modRegion s ly j h).pending = s.pending := ⟨rfl, rfl⟩

@[simp] theorem State.setPlane_kept (s : State) (ly : Fin 4) (j : Fin 8) (p : Fin 4) (x : Plane) :
    (State.setPlane s ly j p x).fuse = s.fuse ∧ (State.setPlane s ly j p x).pending = s.pending := ⟨rfl, rfl⟩

@[simp] theorem State.holdRegion_kept (s : State) (ly : Fin 4) (j : Fin 8) :
    (State.holdRegion s ly j).fuse = s.fuse ∧ (State.holdRegion s ly j).pending = s.pending := by simp [State.holdRegion]

@[simp] theorem State.meetHold_kept (s : State) (ly : Fin 4) (j : Fin 8) :
    (State.meetHold s ly j).fuse = s.fuse ∧ (State.meetHold s ly j).pending = s.pending := by simp [State.meetHold]

@[simp] theorem State.invalidate_kept (s : State) (ly : Fin 4) (j : Fin 8) (p : Fin 4) :
    (State.invalidate s ly j p).fuse = s.fuse ∧ (State.invalidate s ly j p).pending = s.pending := by simp [State.invalidate]

@[simp] theorem State.unrunnable_kept (s : State) (ly : Fin 4) (j : Fin 8) (slot : Fin 32) :
    (State.unrunnable s ly j slot).fuse = s.fuse ∧ (State.unrunnable s ly j slot).pending = s.pending := by simp [State.unrunnable]

@[simp] theorem State.hornSwitch_kept (s : State) (ly : Fin 4) (j : Fin 8) (old new : Fin 4) :
    (State.hornSwitch s ly j old new).fuse = s.fuse ∧ (State.hornSwitch s ly j old new).pending = s.pending := ⟨rfl, rfl⟩

@[simp] theorem State.makeCurrent_kept (s : State) (ly : Fin 4) (j : Fin 8) (q : Fin 4) :
    (State.makeCurrent s ly j q).fuse = s.fuse ∧ (State.makeCurrent s ly j q).pending = s.pending := by simp [State.makeCurrent]

@[simp] theorem State.copyBeat_kept (s : State) (ly : Fin 4) (j : Fin 8) (slot : Fin 32) (p : Fin 4) (i : Nat) :
    (State.copyBeat s ly j slot p i).fuse = s.fuse ∧ (State.copyBeat s ly j slot p i).pending = s.pending := by simp [State.copyBeat]

@[simp] theorem State.copySlot_kept (s : State) (ly : Fin 4) (j : Fin 8) (slot : Fin 32) (p : Fin 4) :
    (State.copySlot s ly j slot p).fuse = s.fuse ∧ (State.copySlot s ly j slot p).pending = s.pending := by simp only [State.copySlot]; (repeat' split) <;> simp_all

@[simp] theorem State.cancelRepairs_kept (s : State) (ly : Fin 4) (j : Fin 8) (p : Fin 4) :
    (State.cancelRepairs s ly j p).fuse = s.fuse ∧ (State.cancelRepairs s ly j p).pending = s.pending := ⟨rfl, rfl⟩

@[simp] theorem State.startRefill_kept (s : State) (ly : Fin 4) (j : Fin 8) (p : Fin 4) (slot : Fin 32) (at_ : Nat) :
    (State.startRefill s ly j p slot at_).fuse = s.fuse ∧ (State.startRefill s ly j p slot at_).pending = s.pending := ⟨rfl, rfl⟩

@[simp] theorem State.askRefill_kept (s : State) (ly : Fin 4) (j : Fin 8) (p : Fin 4) (slot : Fin 32) :
    (State.askRefill s ly j p slot).fuse = s.fuse ∧ (State.askRefill s ly j p slot).pending = s.pending := by simp [State.askRefill]

@[simp] theorem State.detect_kept (s : State) (g : Nat) (act : Bool) :
    (State.detect s g act).fuse = s.fuse ∧ (State.detect s g act).pending = s.pending := by simp [State.detect]

@[simp] theorem State.armPlane_kept (s : State) (ly : Fin 4) (j : Fin 8) (p : Fin 4) :
    (State.armPlane s ly j p).fuse = s.fuse ∧ (State.armPlane s ly j p).pending = s.pending := by simp [State.armPlane]

@[simp] theorem State.usePort_kept (s : State) (word : Nat) :
    (State.usePort s word).fuse = s.fuse ∧ (State.usePort s word).pending = s.pending := by simp [State.usePort]

@[simp] theorem State.useTile_kept (s : State) (ly : Fin 4) (t : Fin 64) :
    (State.useTile s ly t).fuse = s.fuse ∧ (State.useTile s ly t).pending = s.pending := by simp [State.useTile]

@[simp] theorem State.cfglReport_kept (s : State) (word : Nat) (uncorr browse : Bool) :
    (State.cfglReport s word uncorr browse).fuse = s.fuse ∧ (State.cfglReport s word uncorr browse).pending = s.pending := by simp [State.cfglReport]

@[simp] theorem State.slotWrong_kept (s : State) (words : List (Nat × Flaw)) :
    (State.slotWrong s words).fuse = s.fuse ∧ (State.slotWrong s words).pending = s.pending := by simp [State.slotWrong]

@[simp] theorem State.slotAsk_kept (s : State) (word : Nat) :
    (State.slotAsk s word).fuse = s.fuse ∧ (State.slotAsk s word).pending = s.pending := by simp [State.slotAsk]

@[simp] theorem State.readSlotWord_kept (s : State) (word : Nat) (found : Ecc) (browse wb : Bool) :
    (State.readSlotWord s word found browse wb).2.fuse = s.fuse ∧ (State.readSlotWord s word found browse wb).2.pending = s.pending := by simp only [State.readSlotWord]; (repeat' split) <;> simp_all

@[simp] theorem State.refillReport_kept (s : State) (ly : Fin 4) (j : Fin 8) (p : Fin 4) (bad : List Nat) :
    (State.refillReport s ly j p bad).fuse = s.fuse ∧ (State.refillReport s ly j p bad).pending = s.pending := by simp [State.refillReport]

@[simp] theorem State.copyWrong_kept (s : State) (ly : Fin 4) (j : Fin 8) (slot : Fin 32) (p : Fin 4) (errs : List (Nat × Flaw)) :
    (State.copyWrong s ly j slot p errs).fuse = s.fuse ∧ (State.copyWrong s ly j slot p errs).pending = s.pending := by simp [State.copyWrong]

@[simp] theorem State.setHorn_kept (s : State) (ly : Fin 4) (t : Fin 64) (b : Fin 32) (x : Horn) :
    (State.setHorn s ly t b x).fuse = s.fuse ∧ (State.setHorn s ly t b x).pending = s.pending := ⟨rfl, rfl⟩

@[simp] theorem State.newWindow_kept (s : State) :
    (State.newWindow s).fuse = s.fuse ∧ (State.newWindow s).pending = s.pending := by simp [State.newWindow]

@[simp] theorem State.newSched_kept (s : State) :
    (State.newSched s).fuse = s.fuse ∧ (State.newSched s).pending = s.pending := by simp [State.newSched]

@[simp] theorem State.beginEpoch_kept (s : State) (e : Int) :
    (State.beginEpoch s e).fuse = s.fuse ∧ (State.beginEpoch s e).pending = s.pending := by simp [State.beginEpoch]

@[simp] theorem State.release_kept (s : State) :
    (State.release s).fuse = s.fuse ∧ (State.release s).pending = s.pending := by simp [State.release]

@[simp] theorem State.autoRelease_kept (s : State) :
    (State.autoRelease s).fuse = s.fuse ∧ (State.autoRelease s).pending = s.pending := by simp [State.autoRelease]

@[simp] theorem State.newEpoch_kept (s : State) (begin_ : State → State) (h_begin_ : ∀ x0, (begin_ x0).fuse = x0.fuse ∧ (begin_ x0).pending = x0.pending) :
    (State.newEpoch s begin_).fuse = s.fuse ∧ (State.newEpoch s begin_).pending = s.pending := by unfold State.newEpoch; (repeat' split) <;> simp_all

@[simp] theorem State.askedEpoch_kept (s : State) :
    (State.askedEpoch s).fuse = s.fuse ∧ (State.askedEpoch s).pending = s.pending := by unfold State.askedEpoch; (repeat' split) <;> simp

@[simp] theorem State.askEpoch_kept (s : State) (x : Bool) :
    (State.askEpoch s x).fuse = s.fuse ∧ (State.askEpoch s x).pending = s.pending := by simp [State.askEpoch]

@[simp] theorem State.tlCtl_kept (s : State) (who : Who) (v : Word) :
    (State.tlCtl s who v).fuse = s.fuse ∧ (State.tlCtl s who v).pending = s.pending := by simp [State.tlCtl]

@[simp] theorem State.modMem_kept (s : State) (h : Memory → Memory) :
    (State.modMem s h).fuse = s.fuse ∧ (State.modMem s h).pending = s.pending := ⟨rfl, rfl⟩

@[simp] theorem State.memActs_kept (s : State) :
    (State.memActs s).fuse = s.fuse ∧ (State.memActs s).pending = s.pending := by simp [State.memActs]

@[simp] theorem State.mark_kept (s : State) (key : Nat) (e : Ecc) :
    (State.mark s key e).fuse = s.fuse ∧ (State.mark s key e).pending = s.pending := ⟨rfl, rfl⟩

@[simp] theorem State.memReport_kept (s : State) (key : Nat) (uncorr : Bool) (found : Nat) (lost : Bool) :
    (State.memReport s key uncorr found lost).fuse = s.fuse ∧ (State.memReport s key uncorr found lost).pending = s.pending := by simp [State.memReport]

@[simp] theorem State.queueWriteBack_kept (s : State) (key : Nat) :
    (State.queueWriteBack s key).fuse = s.fuse ∧ (State.queueWriteBack s key).pending = s.pending := by simp [State.queueWriteBack]

@[simp] theorem State.countCorr_kept (s : State) (key found : Nat) :
    (State.countCorr s key found).fuse = s.fuse ∧ (State.countCorr s key found).pending = s.pending := by simp [State.countCorr]

@[simp] theorem State.countUncorr_kept (s : State) (key found : Nat) :
    (State.countUncorr s key found).fuse = s.fuse ∧ (State.countUncorr s key found).pending = s.pending := by simp [State.countUncorr]

@[simp] theorem State.readCorr_kept (s : State) (key found : Nat) :
    (State.readCorr s key found).fuse = s.fuse ∧ (State.readCorr s key found).pending = s.pending := by simp [State.readCorr]

@[simp] theorem State.readUncorr_kept (s : State) (key found : Nat) :
    (State.readUncorr s key found).fuse = s.fuse ∧ (State.readUncorr s key found).pending = s.pending := by simp [State.readUncorr]

@[simp] theorem State.putWord_kept (s : State) (key : Nat) (w : BitVec 64) :
    (State.putWord s key w).fuse = s.fuse ∧ (State.putWord s key w).pending = s.pending := ⟨rfl, rfl⟩

@[simp] theorem State.suffer_kept (s : State) (errs : List (Nat × Flaw)) (key : Nat) :
    (State.suffer s errs key).fuse = s.fuse ∧ (State.suffer s errs key).pending = s.pending := by simp [State.suffer]

@[simp] theorem State.dropLine_kept (s : State) (line : Nat) :
    (State.dropLine s line).fuse = s.fuse ∧ (State.dropLine s line).pending = s.pending := ⟨rfl, rfl⟩

@[simp] theorem State.meetWord_kept (s : State) (e : Ecc) (key : Nat) :
    (State.meetWord s e key).fuse = s.fuse ∧ (State.meetWord s e key).pending = s.pending := by unfold State.meetWord; (repeat' split) <;> simp

@[simp] theorem State.readWord_kept (s : State) (errs : List (Nat × Flaw)) (key : Nat) :
    (State.readWord s errs key).2.2.fuse = s.fuse ∧ (State.readWord s errs key).2.2.pending = s.pending := by simp [State.readWord]

@[simp] theorem State.storeWord_kept (s : State) (errs : List (Nat × Flaw)) (key : Nat) (w : BitVec 64) (be : Nat) :
    (State.storeWord s errs key w be).2.fuse = s.fuse ∧ (State.storeWord s errs key w be).2.pending = s.pending := by unfold State.storeWord; (repeat' split) <;> simp

@[simp] theorem State.storeHalf_kept (s : State) (key : Nat) (w : Nat) (high : Bool) :
    (State.storeHalf s key w high).fuse = s.fuse ∧ (State.storeHalf s key w high).pending = s.pending := by simp [State.storeHalf]

@[simp] theorem State.storePoison_kept (s : State) (key : Nat) (w : BitVec 64) :
    (State.storePoison s key w).fuse = s.fuse ∧ (State.storePoison s key w).pending = s.pending := ⟨rfl, rfl⟩

@[simp] theorem State.putDram_kept (s : State) (w : Nat) (v : BitVec 64) (e : Ecc) :
    (State.putDram s w v e).fuse = s.fuse ∧ (State.putDram s w v e).pending = s.pending := ⟨rfl, rfl⟩

@[simp] theorem State.checkTags_kept (s : State) (errs : List (Nat × Flaw)) (a found : Nat) :
    (State.checkTags s errs a found).fuse = s.fuse ∧ (State.checkTags s errs a found).pending = s.pending := by unfold State.checkTags; exact foldl_kept _ (fun t a => by dsimp only; (repeat' split) <;> simp) _ _

@[simp] theorem State.useLine_kept (s : State) (l : Nat) (dirty : Bool) :
    (State.useLine s l dirty).fuse = s.fuse ∧ (State.useLine s l dirty).pending = s.pending := by unfold State.useLine; (repeat' split) <;> simp

@[simp] theorem State.dropIfBad_kept (s : State) (l bad : Nat) :
    (State.dropIfBad s l bad).fuse = s.fuse ∧ (State.dropIfBad s l bad).pending = s.pending := by simp [State.dropIfBad]

@[simp] theorem State.takeWindow_kept (s : State) (u : Nat) (b : Borrow) :
    (State.takeWindow s u b).fuse = s.fuse ∧ (State.takeWindow s u b).pending = s.pending := by simp [State.takeWindow]

@[simp] theorem State.returnWindow_kept (s : State) (u : Nat) :
    (State.returnWindow s u).fuse = s.fuse ∧ (State.returnWindow s u).pending = s.pending := by unfold State.returnWindow; (repeat' split) <;> simp

@[simp] theorem State.returnWindows_kept (s : State) :
    (State.returnWindows s).fuse = s.fuse ∧ (State.returnWindows s).pending = s.pending := by simp [State.returnWindows]

@[simp] theorem State.clearWords_kept (s : State) (n : Nat) (keep : List Nat) :
    (State.clearWords s n keep).fuse = s.fuse ∧ (State.clearWords s n keep).pending = s.pending := by simp [State.clearWords]

@[simp] theorem State.askClear_kept (s : State) (n : Nat) :
    (State.askClear s n).fuse = s.fuse ∧ (State.askClear s n).pending = s.pending := by simp [State.askClear]

@[simp] theorem State.clearCycle_kept (s : State) (n : Nat) :
    (State.clearCycle s n).fuse = s.fuse ∧ (State.clearCycle s n).pending = s.pending := by unfold State.clearCycle; (repeat' split) <;> simp

@[simp] theorem State.setQueue_kept (s : State) (q : Nat) (x : Queue) :
    (State.setQueue s q x).fuse = s.fuse ∧ (State.setQueue s q x).pending = s.pending := ⟨rfl, rfl⟩

@[simp] theorem State.queueChange_kept (s : State) (q : Nat) (h : Queue → Queue) :
    (State.queueChange s q h).fuse = s.fuse ∧ (State.queueChange s q h).pending = s.pending := ⟨rfl, rfl⟩

@[simp] theorem State.collision_kept (s : State) (key src : Nat) :
    (State.collision s key src).fuse = s.fuse ∧ (State.collision s key src).pending = s.pending := by simp [State.collision]

@[simp] theorem State.usePortB_kept (s : State) (bank n : Nat) :
    (State.usePortB s bank n).fuse = s.fuse ∧ (State.usePortB s bank n).pending = s.pending := by simp [State.usePortB]

@[simp] theorem State.keepOld_kept (s : State) (bank : Nat) (keys : List Nat) :
    (State.keepOld s bank keys).fuse = s.fuse ∧ (State.keepOld s bank keys).pending = s.pending := by simp [State.keepOld]

@[simp] theorem State.readB_kept (s : State) (errs : List (Nat × Flaw)) (key : Nat) :
    (State.readB s errs key).2.2.fuse = s.fuse ∧ (State.readB s errs key).2.2.pending = s.pending := by simp only [State.readB]; (repeat' split) <;> simp_all

@[simp] theorem State.ringNote_kept (s : State) (type id : Nat) (payload : List Byte) :
    (State.ringNote s type id payload).fuse = s.fuse ∧ (State.ringNote s type id payload).pending = s.pending := by simp [State.ringNote]

@[simp] theorem State.pubNote_kept (s : State) (q : Nat) (bytes : List Byte) (entries : Nat) :
    (State.pubNote s q bytes entries).fuse = s.fuse ∧ (State.pubNote s q bytes entries).pending = s.pending := by simp [State.pubNote]

@[simp] theorem State.publish_kept (s : State) (q : Nat) (metas : List Nat) (words : List (List (BitVec 64))) :
    (State.publish s q metas words).fuse = s.fuse ∧ (State.publish s q metas words).pending = s.pending := by simp [State.publish]

@[simp] theorem State.writePart_kept (s : State) (r : Rewrite) :
    (State.writePart s r).fuse = s.fuse ∧ (State.writePart s r).pending = s.pending := by simp [State.writePart]

@[simp] theorem State.publishPush_kept (s : State) (r : Rewrite) :
    (State.publishPush s r).fuse = s.fuse ∧ (State.publishPush s r).pending = s.pending := by simp [State.publishPush]

@[simp] theorem State.drainWrites_kept (s : State) (bank : Nat) :
    (State.drainWrites s bank).fuse = s.fuse ∧ (State.drainWrites s bank).pending = s.pending := by simp only [State.drainWrites]; (repeat' split) <;> simp_all

@[simp] theorem State.acceptPush_kept (s : State) (r : Rewrite) :
    (State.acceptPush s r).fuse = s.fuse ∧ (State.acceptPush s r).pending = s.pending := by simp [State.acceptPush]

@[simp] theorem State.pushBatch_kept (s : State) (q : Nat) (batch : List QEntry) (replay : Bool) :
    (State.pushBatch s q batch replay).fuse = s.fuse ∧ (State.pushBatch s q batch replay).pending = s.pending := by simp [State.pushBatch]

@[simp] theorem State.countAlloc_kept (s : State) (c : Nat) :
    (State.countAlloc s c).fuse = s.fuse ∧ (State.countAlloc s c).pending = s.pending := ⟨rfl, rfl⟩

@[simp] theorem State.freed_kept (s : State) (q : Nat) :
    (State.freed s q).fuse = s.fuse ∧ (State.freed s q).pending = s.pending := ⟨rfl, rfl⟩

@[simp] theorem State.freesFc_kept (s : State) :
    (State.freesFc s).fuse = s.fuse ∧ (State.freesFc s).pending = s.pending := by simp [State.freesFc]

@[simp] theorem State.qcPerm_kept (s : State) (q : Nat) :
    (State.qcPerm s q).fuse = s.fuse ∧ (State.qcPerm s q).pending = s.pending := by simp [State.qcPerm]

@[simp] theorem State.poisonReport_kept (s : State) (q reason seq : Nat) :
    (State.poisonReport s q reason seq).fuse = s.fuse ∧ (State.poisonReport s q reason seq).pending = s.pending := by simp [State.poisonReport]

@[simp] theorem State.readMeta_kept (s : State) (errs : List (Nat × Flaw)) (q n : Nat) :
    (State.readMeta s errs q n).2.2.fuse = s.fuse ∧ (State.readMeta s errs q n).2.2.pending = s.pending := by simp [State.readMeta]

@[simp] theorem State.dropHead_kept (s : State) (q n : Nat) :
    (State.dropHead s q n).fuse = s.fuse ∧ (State.dropHead s q n).pending = s.pending := ⟨rfl, rfl⟩

@[simp] theorem State.settlePop_kept (s : State) (q : Nat) (delivered : Bool) :
    (State.settlePop s q delivered).fuse = s.fuse ∧ (State.settlePop s q delivered).pending = s.pending := by simp [State.settlePop]

@[simp] theorem State.setPort_kept (s : State) (key : Nat) (p : PortQ) :
    (State.setPort s key p).fuse = s.fuse ∧ (State.setPort s key p).pending = s.pending := ⟨rfl, rfl⟩

@[simp] theorem State.takeOwners_kept (s : State) :
    (State.takeOwners s).fuse = s.fuse ∧ (State.takeOwners s).pending = s.pending := by simp [State.takeOwners]

@[simp] theorem State.denyReport_kept (s : State) (cycle master port addr reason : Nat) :
    (State.denyReport s cycle master port addr reason).fuse = s.fuse ∧ (State.denyReport s cycle master port addr reason).pending = s.pending := by simp [State.denyReport]

@[simp] theorem State.judge_kept (s : State) (key : Nat) (r : Req) :
    (State.judge s key r).2.fuse = s.fuse ∧ (State.judge s key r).2.pending = s.pending := by simp only [State.judge]; (repeat' split) <;> simp_all

@[simp] theorem State.abortCount_kept (s : State) (layer f : Nat) :
    (State.abortCount s layer f).fuse = s.fuse ∧ (State.abortCount s layer f).pending = s.pending := by simp [State.abortCount]

@[simp] theorem State.heldFc_kept (s : State) (key : Nat) (r : Req) :
    (State.heldFc s key r).2.fuse = s.fuse ∧ (State.heldFc s key r).2.pending = s.pending := by simp only [State.heldFc]; (repeat' split) <;> simp_all

@[simp] theorem State.addReq_kept (s : State) (key : Nat) (r : Req) (toMem fromMem : Nat) :
    (State.addReq s key r toMem fromMem).fuse = s.fuse ∧ (State.addReq s key r toMem fromMem).pending = s.pending := ⟨rfl, rfl⟩

@[simp] theorem State.linkReport_kept (s : State) (joint kind group pos : Nat) :
    (State.linkReport s joint kind group pos).fuse = s.fuse ∧ (State.linkReport s joint kind group pos).pending = s.pending := by simp [State.linkReport]

@[simp] theorem State.enter_kept (s : State) (layer : Fin 4) (port : Fin 32) (r : Req) (toMem fromMem : Nat) :
    (State.enter s layer port r toMem fromMem).fuse = s.fuse ∧ (State.enter s layer port r toMem fromMem).pending = s.pending := by unfold State.enter; (repeat' split) <;> simp

@[simp] theorem State.setHeadReq_kept (s : State) (key : Nat) (r : Req) :
    (State.setHeadReq s key r).fuse = s.fuse ∧ (State.setHeadReq s key r).pending = s.pending := ⟨rfl, rfl⟩

@[simp] theorem State.usePortA_kept (s : State) (n w wrote : Nat) :
    (State.usePortA s n w wrote).fuse = s.fuse ∧ (State.usePortA s n w wrote).pending = s.pending := by simp [State.usePortA]

@[simp] theorem State.useSlice_kept (s : State) (u : Nat) :
    (State.useSlice s u).fuse = s.fuse ∧ (State.useSlice s u).pending = s.pending := by simp [State.useSlice]

@[simp] theorem State.baseAbort_kept (s : State) (key : Nat) (r : Req) :
    (State.baseAbort s key r).2.fuse = s.fuse ∧ (State.baseAbort s key r).2.pending = s.pending := by simp [State.baseAbort]

@[simp] theorem State.rotate_kept (s : State) (u key : Nat) :
    (State.rotate s u key).fuse = s.fuse ∧ (State.rotate s u key).pending = s.pending := ⟨rfl, rfl⟩

@[simp] theorem State.openCyc_kept (s : State) (u id : Nat) :
    (State.openCyc s u id).fuse = s.fuse ∧ (State.openCyc s u id).pending = s.pending := by simp [State.openCyc]

@[simp] theorem State.settleReq_kept (s : State) (r : Req) (delivered : Bool) :
    (State.settleReq s r delivered).fuse = s.fuse ∧ (State.settleReq s r delivered).pending = s.pending := by unfold State.settleReq; (repeat' split) <;> simp

@[simp] theorem State.descEnd_kept (s : State) (c : Nat) (d : DescHead) (st moved : Nat) :
    (State.descEnd s c d st moved).fuse = s.fuse ∧ (State.descEnd s c d st moved).pending = s.pending := by simp [State.descEnd]

@[simp] theorem State.markReport_kept (s : State) (q : Nat) (batch : List QEntry) :
    (State.markReport s q batch).fuse = s.fuse ∧ (State.markReport s q batch).pending = s.pending := by simp [State.markReport]

@[simp] theorem State.dmaRefused_kept (s : State) (j : DmaJob) :
    (State.dmaRefused s j).fuse = s.fuse ∧ (State.dmaRefused s j).pending = s.pending := by simp [State.dmaRefused]

@[simp] theorem State.endJob_kept (s : State) (c : Nat) (j : DmaJob) (st : Nat) :
    (State.endJob s c j st).fuse = s.fuse ∧ (State.endJob s c j st).pending = s.pending := by simp [State.endJob]

@[simp] theorem State.dmaSettle_kept (s : State) (c : Nat) :
    (State.dmaSettle s c).fuse = s.fuse ∧ (State.dmaSettle s c).pending = s.pending := by unfold State.dmaSettle; (repeat' split) <;> simp

@[simp] theorem State.dmaFc_kept (s : State) :
    (State.dmaFc s).fuse = s.fuse ∧ (State.dmaFc s).pending = s.pending := by simp [State.dmaFc]

@[simp] theorem State.startJob_kept (s : State) (c : Nat) (d : Desc) (r : HostRead) :
    (State.startJob s c d r).fuse = s.fuse ∧ (State.startJob s c d r).pending = s.pending := by simp [State.startJob]

@[simp] theorem State.jobMoved_kept (s : State) (c : Nat) (j : DmaJob) :
    (State.jobMoved s c j).fuse = s.fuse ∧ (State.jobMoved s c j).pending = s.pending := by simp [State.jobMoved]

@[simp] theorem State.dmaPushOne_kept (s : State) (c : Nat) (j : DmaJob) :
    (State.dmaPushOne s c j).fuse = s.fuse ∧ (State.dmaPushOne s c j).pending = s.pending := by simp [State.dmaPushOne]

@[simp] theorem State.ringBytes_kept (s : State) (pos : Nat) (bytes : List Byte) :
    (State.ringBytes s pos bytes).fuse = s.fuse ∧ (State.ringBytes s pos bytes).pending = s.pending := by simp [State.ringBytes]

@[simp] theorem State.uncover_kept (s : State) (b : Fin 2) (lost : Snapshot → Bool) :
    (State.uncover s b lost).fuse = s.fuse ∧ (State.uncover s b lost).pending = s.pending := by unfold State.uncover; (repeat' split) <;> simp

@[simp] theorem State.ringPut_kept (s : State) (r : RingRec) :
    (State.ringPut s r).fuse = s.fuse ∧ (State.ringPut s r).pending = s.pending := by simp [State.ringPut]

@[simp] theorem State.ringAdd_kept (s : State) (r : RingRec) :
    (State.ringAdd s r).fuse = s.fuse ∧ (State.ringAdd s r).pending = s.pending := by unfold State.ringAdd; (repeat' split) <;> simp

@[simp] theorem State.ringFc_kept (s : State) :
    (State.ringFc s).fuse = s.fuse ∧ (State.ringFc s).pending = s.pending := by simp [State.ringFc]

@[simp] theorem State.setLanes_kept (s : State) (b g : Nat) (x : Lanes) :
    (State.setLanes s b g x).fuse = s.fuse ∧ (State.setLanes s b g x).pending = s.pending := ⟨rfl, rfl⟩

@[simp] theorem State.shaftStep_kept (s : State) :
    (State.shaftStep s).fuse = s.fuse ∧ (State.shaftStep s).pending = s.pending := by simp [State.shaftStep]

@[simp] theorem State.laneSwapped_kept (s : State) (key : Nat) (x : Lanes) :
    (State.laneSwapped s key x).fuse = s.fuse ∧ (State.laneSwapped s key x).pending = s.pending := by unfold State.laneSwapped; (repeat' split) <;> simp

@[simp] theorem State.lanesFc_kept (s : State) :
    (State.lanesFc s).fuse = s.fuse ∧ (State.lanesFc s).pending = s.pending := by simp [State.lanesFc]

@[simp] theorem State.repairReads_kept (s : State) :
    (State.repairReads s).fuse = s.fuse ∧ (State.repairReads s).pending = s.pending := by simp [State.repairReads]

@[simp] theorem State.captureRegs_kept (s : State) (ly : Fin 4) (r : CapReq) :
    (State.captureRegs s ly r).fuse = s.fuse ∧ (State.captureRegs s ly r).pending = s.pending := ⟨rfl, rfl⟩

@[simp] theorem State.captureEnd_kept (s : State) (ly : Fin 4) :
    (State.captureEnd s ly).fuse = s.fuse ∧ (State.captureEnd s ly).pending = s.pending := by unfold State.captureEnd; (repeat' split) <;> simp

@[simp] theorem State.fabricEnd_kept (s : State) :
    (State.fabricEnd s).fuse = s.fuse ∧ (State.fabricEnd s).pending = s.pending := by simp [State.fabricEnd]

@[simp] theorem State.planeStep_kept (s : State) (ly : Fin 4) (j : Fin 8) :
    (State.planeStep s ly j).fuse = s.fuse ∧ (State.planeStep s ly j).pending = s.pending := by simp only [State.planeStep]; (repeat' split) <;> simp_all

@[simp] theorem State.slotsLand_kept (s : State) :
    (State.slotsLand s).fuse = s.fuse ∧ (State.slotsLand s).pending = s.pending := by simp [State.slotsLand]

@[simp] theorem State.fenceFc_kept (s : State) (die : Nat) :
    (State.fenceFc s die).fuse = s.fuse ∧ (State.fenceFc s die).pending = s.pending := by simp [State.fenceFc]

@[simp] theorem State.fcTick_kept (s : State) :
    (State.fcTick s).fuse = s.fuse ∧ (State.fcTick s).pending = s.pending := by simp [State.fcTick]

@[simp] theorem State.hostStore_kept (s : State) (errs : List (Nat × Flaw)) (poisoned : Bool) (key : Nat) (w : BitVec 64) (be : Nat) :
    (State.hostStore s errs poisoned key w be).fuse = s.fuse ∧ (State.hostStore s errs poisoned key w be).pending = s.pending := by simp [State.hostStore]

@[simp] theorem State.hostBeat_kept (s : State) (errs : List (Nat × Flaw)) (poisoned : Bool) (a : Nat) (data : List (Option Byte)) (beat : Nat) :
    (State.hostBeat s errs poisoned a data beat).fuse = s.fuse ∧ (State.hostBeat s errs poisoned a data beat).pending = s.pending := by simp only [State.hostBeat]; (repeat' split) <;> simp_all

@[simp] theorem State.setHostWaits_kept (s : State) (bank : Nat) (l : List HostAcc) :
    (State.setHostWaits s bank l).fuse = s.fuse ∧ (State.setHostWaits s bank l).pending = s.pending := by simp [State.setHostWaits]

@[simp] theorem State.leaveHost_kept (s : State) (bank : Nat) (rest : List HostAcc) :
    (State.leaveHost s bank rest).fuse = s.fuse ∧ (State.leaveHost s bank rest).pending = s.pending := by simp [State.leaveHost]

@[simp] theorem State.hostWrite_kept (s : State) (errs : List (Nat × Flaw)) (bank : Nat) (x : HostAcc) (rest : List HostAcc) :
    (State.hostWrite s errs bank x rest).fuse = s.fuse ∧ (State.hostWrite s errs bank x rest).pending = s.pending := by simp [State.hostWrite]

@[simp] theorem State.endHost_kept (s : State) (bank : Nat) (x : HostAcc) (rest : List HostAcc) :
    (State.endHost s bank x rest).fuse = s.fuse ∧ (State.endHost s bank x rest).pending = s.pending := by simp [State.endHost]

@[simp] theorem State.endHosts_kept (s : State) (fenced : Bool) :
    (State.endHosts s fenced).fuse = s.fuse ∧ (State.endHosts s fenced).pending = s.pending := by simp [State.endHosts]

@[simp] theorem State.bankCfg_kept (s : State) (who : Who) (n : Fin 32) (v : Word) :
    (State.bankCfg s who n v).fuse = s.fuse ∧ (State.bankCfg s who n v).pending = s.pending := by simp [State.bankCfg]

@[simp] theorem State.ownedReq_kept (s : State) (n key : Nat) (r : Req) :
    (State.ownedReq s n key r).2.fuse = s.fuse ∧ (State.ownedReq s n key r).2.pending = s.pending := by unfold State.ownedReq; (repeat' split) <;> simp

@[simp] theorem State.fillReq_kept (s : State) (key : Nat) :
    (State.fillReq s key).fuse = s.fuse ∧ (State.fillReq s key).pending = s.pending := by unfold State.fillReq; (repeat' split) <;> simp

@[simp] theorem State.cmo_kept (s : State) (who : Who) (v : Word) :
    (State.cmo s who v).fuse = s.fuse ∧ (State.cmo s who v).pending = s.pending := by simp [State.cmo]

@[simp] theorem State.allocResult_kept (s : State) (c code q : Nat) :
    (State.allocResult s c code q).fuse = s.fuse ∧ (State.allocResult s c code q).pending = s.pending := by simp [State.allocResult]

@[simp] theorem State.allocated_kept (s : State) (q : Nat) (x : Queue) :
    (State.allocated s q x).fuse = s.fuse ∧ (State.allocated s q x).pending = s.pending := ⟨rfl, rfl⟩

@[simp] theorem State.doorbell_kept (s : State) (vf : Option (Fin 32)) (q : Nat) (act : State → State) (h_act : ∀ x0, (act x0).fuse = x0.fuse ∧ (act x0).pending = x0.pending) :
    (State.doorbell s vf q act).fuse = s.fuse ∧ (State.doorbell s vf q act).pending = s.pending := by unfold State.doorbell; (repeat' split) <;> simp_all

@[simp] theorem State.dbErr_kept (s : State) (q n : Nat) :
    (State.dbErr s q n).fuse = s.fuse ∧ (State.dbErr s q n).pending = s.pending := by simp [State.dbErr]

@[simp] theorem State.flowCmd_kept (s : State) (who : Who) (v : Word) :
    (State.flowCmd s who v).fuse = s.fuse ∧ (State.flowCmd s who v).pending = s.pending := by simp [State.flowCmd]

@[simp] theorem State.afterStall_kept (s : State) (k : Fin 4) (due : Nat) :
    (State.afterStall s k due).fuse = s.fuse ∧ (State.afterStall s k due).pending = s.pending := by simp only [State.afterStall]; (repeat' split) <;> simp_all

@[simp] theorem State.stallTaken_kept (s : State) (k : Fin 4) (j : Fin 8) (q : Fin 4) (since : Option Nat) :
    (State.stallTaken s k j q since).fuse = s.fuse ∧ (State.stallTaken s k j q since).pending = s.pending := by unfold State.stallTaken; (repeat' split) <;> simp

@[simp] theorem State.stallRefused_kept (s : State) (k : Fin 4) (j : Fin 8) (q : Fin 4) (since : Option Nat) :
    (State.stallRefused s k j q since).fuse = s.fuse ∧ (State.stallRefused s k j q since).pending = s.pending := by simp [State.stallRefused]

@[simp] theorem State.takePending_kept (s : State) (k : Fin 4) (reason region : Nat) :
    (State.takePending s k reason region).fuse = s.fuse ∧ (State.takePending s k reason region).pending = s.pending := by unfold State.takePending; (repeat' split) <;> simp

@[simp] theorem State.captureMissed_kept (s : State) (layer region : Nat) :
    (State.captureMissed s layer region).fuse = s.fuse ∧ (State.captureMissed s layer region).pending = s.pending := by simp [State.captureMissed]

@[simp] theorem State.jump_kept (s : State) (k : Fin 4) (target : Nat) (h : Seq → Seq) :
    (State.jump s k target h).fuse = s.fuse ∧ (State.jump s k target h).pending = s.pending := ⟨rfl, rfl⟩

@[simp] theorem State.branch_kept (s : State) (k : Fin 4) (target : Nat) :
    (State.branch s k target).fuse = s.fuse ∧ (State.branch s k target).pending = s.pending := ⟨rfl, rfl⟩

@[simp] theorem State.alu_kept (s : State) (k : Fin 4) (h : Seq → Seq) :
    (State.alu s k h).fuse = s.fuse ∧ (State.alu s k h).pending = s.pending := ⟨rfl, rfl⟩

@[simp] theorem State.setSensor_kept (s : State) (x : Nat) (v : Sensor) :
    (State.setSensor s x v).fuse = s.fuse ∧ (State.setSensor s x v).pending = s.pending := ⟨rfl, rfl⟩

@[simp] theorem State.modRin_kept (s : State) (h : Rinom → Rinom) :
    (State.modRin s h).fuse = s.fuse ∧ (State.modRin s h).pending = s.pending := ⟨rfl, rfl⟩

@[simp] theorem State.sealRcd_kept (s : State) (r : Rcd) :
    (State.sealRcd s r).fuse = s.fuse ∧ (State.sealRcd s r).pending = s.pending := by simp [State.sealRcd]

@[simp] theorem State.sealFree_kept (s : State) :
    (State.sealFree s).fuse = s.fuse ∧ (State.sealFree s).pending = s.pending := by simp [State.sealFree]

@[simp] theorem State.tickResid_kept (s : State) :
    (State.tickResid s).2.fuse = s.fuse ∧ (State.tickResid s).2.pending = s.pending := by simp only [State.tickResid]; (repeat' split) <;> simp_all

@[simp] theorem State.modRef_kept (s : State) (i : Fin 4) (h : RefIn → RefIn) :
    (State.modRef s i h).fuse = s.fuse ∧ (State.modRef s i h).pending = s.pending := ⟨rfl, rfl⟩

@[simp] theorem State.qualify_kept (s : State) (i : Fin 4) :
    (State.qualify s i).fuse = s.fuse ∧ (State.qualify s i).pending = s.pending := by simp [State.qualify]

@[simp] theorem State.disqualify_kept (s : State) (i : Fin 4) (why : Nat) :
    (State.disqualify s i why).fuse = s.fuse ∧ (State.disqualify s i why).pending = s.pending := by simp [State.disqualify]

@[simp] theorem State.refTick_kept (s : State) (i : Fin 4) (present : Bool) (bad : Nat) :
    (State.refTick s i present bad).fuse = s.fuse ∧ (State.refTick s i present bad).pending = s.pending := by simp [State.refTick]

@[simp] theorem State.ptpHear_kept (s : State) (m : PtpMeas) :
    (State.ptpHear s m).fuse = s.fuse ∧ (State.ptpHear s m).pending = s.pending := by simp [State.ptpHear]

@[simp] theorem State.ptpTick_kept (s : State) (m : PtpMeas) :
    (State.ptpTick s m).fuse = s.fuse ∧ (State.ptpTick s m).pending = s.pending := by simp only [State.ptpTick]; (repeat' split) <;> simp_all

@[simp] theorem State.synceTick_kept (s : State) (m : SynceMeas) :
    (State.synceTick s m).fuse = s.fuse ∧ (State.synceTick s m).pending = s.pending := by simp [State.synceTick]

@[simp] theorem State.ppsTick_kept (s : State) :
    (State.ppsTick s).fuse = s.fuse ∧ (State.ppsTick s).pending = s.pending := by simp [State.ppsTick]

@[simp] theorem State.freqTick_kept (s : State) (m : FreqMeas) :
    (State.freqTick s m).fuse = s.fuse ∧ (State.freqTick s m).pending = s.pending := by simp [State.freqTick]

@[simp] theorem State.selectRefs_kept (s : State) :
    (State.selectRefs s).2.fuse = s.fuse ∧ (State.selectRefs s).2.pending = s.pending := by simp [State.selectRefs]

@[simp] theorem State.checkAtOff_kept (s : State) :
    (State.checkAtOff s).fuse = s.fuse ∧ (State.checkAtOff s).pending = s.pending := by simp [State.checkAtOff]

@[simp] theorem State.timeStep_kept (s : State) (new : Int) (cause : Nat) :
    (State.timeStep s new cause).fuse = s.fuse ∧ (State.timeStep s new cause).pending = s.pending := by simp [State.timeStep]

@[simp] theorem State.labelTick_kept (s : State) (label : Option Int) :
    (State.labelTick s label).fuse = s.fuse ∧ (State.labelTick s label).pending = s.pending := by unfold State.labelTick; (repeat' split) <;> simp

@[simp] theorem State.showUtc_kept (s : State) :
    (State.showUtc s).fuse = s.fuse ∧ (State.showUtc s).pending = s.pending := ⟨rfl, rfl⟩

@[simp] theorem State.slewTick_kept (s : State) :
    (State.slewTick s).fuse = s.fuse ∧ (State.slewTick s).pending = s.pending := by simp [State.slewTick]

@[simp] theorem State.holdTick_kept (s : State) :
    (State.holdTick s).fuse = s.fuse ∧ (State.holdTick s).pending = s.pending := by simp [State.holdTick]

@[simp] theorem State.extrapTick_kept (s : State) :
    (State.extrapTick s).fuse = s.fuse ∧ (State.extrapTick s).pending = s.pending := by simp [State.extrapTick]

@[simp] theorem State.refitTick_kept (s : State) :
    (State.refitTick s).fuse = s.fuse ∧ (State.refitTick s).pending = s.pending := by simp [State.refitTick]

@[simp] theorem State.showFreq_kept (s : State) :
    (State.showFreq s).fuse = s.fuse ∧ (State.showFreq s).pending = s.pending := ⟨rfl, rfl⟩

@[simp] theorem State.applyCfg_kept (s : State) :
    (State.applyCfg s).fuse = s.fuse ∧ (State.applyCfg s).pending = s.pending := by unfold State.applyCfg; (repeat' split) <;> simp

@[simp] theorem State.applyReset_kept (s : State) :
    (State.applyReset s).fuse = s.fuse ∧ (State.applyReset s).pending = s.pending := by simp [State.applyReset]

@[simp] theorem State.applyTime_kept (s : State) :
    (State.applyTime s).fuse = s.fuse ∧ (State.applyTime s).pending = s.pending := by unfold State.applyTime; (repeat' split) <;> simp

@[simp] theorem State.utcTick_kept (s : State) (a : Option Announce) :
    (State.utcTick s a).fuse = s.fuse ∧ (State.utcTick s a).pending = s.pending := by unfold State.utcTick; (repeat' split) <;> simp

@[simp] theorem State.delayReq_kept (s : State) (send : Bool) :
    (State.delayReq s send).fuse = s.fuse ∧ (State.delayReq s send).pending = s.pending := by simp [State.delayReq]

@[simp] theorem State.teeTick_kept (s : State) (m : Meas) :
    (State.teeTick s m).fuse = s.fuse ∧ (State.teeTick s m).pending = s.pending := by simp [State.teeTick]

@[simp] theorem State.refsTick_kept (s : State) (m : Meas) :
    (State.refsTick s m).2.fuse = s.fuse ∧ (State.refsTick s m).2.pending = s.pending := by simp [State.refsTick]

@[simp] theorem State.rinomDown_kept (s : State) :
    (State.rinomDown s).fuse = s.fuse ∧ (State.rinomDown s).pending = s.pending := by simp [State.rinomDown]

@[simp] theorem State.rinomUp_kept (s : State) :
    (State.rinomUp s).fuse = s.fuse ∧ (State.rinomUp s).pending = s.pending := by simp [State.rinomUp]

@[simp] theorem State.rinomRestart_kept (s : State) :
    (State.rinomRestart s).fuse = s.fuse ∧ (State.rinomRestart s).pending = s.pending := by simp [State.rinomRestart]

@[simp] theorem State.steer_kept (s : State) (ref : Int) :
    (State.steer s ref).fuse = s.fuse ∧ (State.steer s ref).pending = s.pending := by simp [State.steer]

@[simp] theorem State.mbPut_kept (s : State) (l : List Byte) :
    (State.mbPut s l).fuse = s.fuse ∧ (State.mbPut s l).pending = s.pending := by simp [State.mbPut]

@[simp] theorem State.binBytes_kept (s : State) (i : Nat) :
    (State.binBytes s i).2.fuse = s.fuse ∧ (State.binBytes s i).2.pending = s.pending := ⟨rfl, rfl⟩

@[simp] theorem State.attest_kept (s : State) (nonce : Nat) :
    (State.attest s nonce).2.fuse = s.fuse ∧ (State.attest s nonce).2.pending = s.pending := ⟨rfl, rfl⟩

@[simp] theorem State.barrierFault_kept (s : State) (ks : List (Fin 4)) (cause : Nat) :
    (State.barrierFault s ks cause).fuse = s.fuse ∧ (State.barrierFault s ks cause).pending = s.pending := by simp [State.barrierFault]

@[simp] theorem State.releaseBarrier_kept (s : State) (flag : Fin 16) (mask : Nat) :
    (State.releaseBarrier s flag mask).fuse = s.fuse ∧ (State.releaseBarrier s flag mask).pending = s.pending := by simp [State.releaseBarrier]

@[simp] theorem State.takeFlag_kept (s : State) (k : Fin 4) (flag : Fin 16) :
    (State.takeFlag s k flag).fuse = s.fuse ∧ (State.takeFlag s k flag).pending = s.pending := ⟨rfl, rfl⟩

@[simp] theorem State.askStop_kept (s : State) (k : Fin 4) :
    (State.askStop s k).fuse = s.fuse ∧ (State.askStop s k).pending = s.pending := by simp [State.askStop]

@[simp] theorem State.startOrHold_kept (s : State) (k : Fin 4) :
    (State.startOrHold s k).fuse = s.fuse ∧ (State.startOrHold s k).pending = s.pending := by simp [State.startOrHold]

@[simp] theorem State.seqCtl_kept (s : State) (who : Who) (k : Fin 4) (v : Word) :
    (State.seqCtl s who k v).fuse = s.fuse ∧ (State.seqCtl s who k v).pending = s.pending := by simp [State.seqCtl]

@[simp] theorem State.seqBegin_kept (s : State) (k : Fin 4) (entry : Nat) :
    (State.seqBegin s k entry).fuse = s.fuse ∧ (State.seqBegin s k entry).pending = s.pending := by simp only [State.seqBegin]; (repeat' split) <;> simp_all

@[simp] theorem State.rampTo_kept (s : State) (d src : Nat) (c : Nat × Nat) :
    (State.rampTo s d src c).fuse = s.fuse ∧ (State.rampTo s d src c).pending = s.pending := ⟨rfl, rfl⟩

@[simp] theorem State.stopClk_kept (s : State) (d : Nat) :
    (State.stopClk s d).fuse = s.fuse ∧ (State.stopClk s d).pending = s.pending := ⟨rfl, rfl⟩

@[simp] theorem State.quieten_kept (s : State) (d : Nat) :
    (State.quieten s d).fuse = s.fuse ∧ (State.quieten s d).pending = s.pending := by simp [State.quieten]

@[simp] theorem State.tripDomain_kept (s : State) (d : Nat) :
    (State.tripDomain s d).fuse = s.fuse ∧ (State.tripDomain s d).pending = s.pending := by simp [State.tripDomain]

@[simp] theorem State.stopOnFosc_kept (s : State) (d : Nat) :
    (State.stopOnFosc s d).fuse = s.fuse ∧ (State.stopOnFosc s d).pending = s.pending := by simp [State.stopOnFosc]

@[simp] theorem State.reference_kept (s : State) (i : Nat) :
    (State.reference s i).fuse = s.fuse ∧ (State.reference s i).pending = s.pending := by simp [State.reference]

@[simp] theorem State.degradeAt_kept (s : State) :
    (State.degradeAt s).fuse = s.fuse ∧ (State.degradeAt s).pending = s.pending := by simp [State.degradeAt]

@[simp] theorem State.tripFamily_kept (s : State) :
    (State.tripFamily s).fuse = s.fuse ∧ (State.tripFamily s).pending = s.pending := by simp [State.tripFamily]

@[simp] theorem State.trip_kept (s : State) (src : ClkSrc) :
    (State.trip s src).fuse = s.fuse ∧ (State.trip s src).pending = s.pending := by unfold State.trip; (repeat' split) <;> simp

@[simp] theorem State.resumeClk_kept (s : State) (first : Bool) (d : Nat) :
    (State.resumeClk s first d).fuse = s.fuse ∧ (State.resumeClk s first d).pending = s.pending := by simp [State.resumeClk]

@[simp] theorem State.degradeClk_kept (s : State) (d : Nat) :
    (State.degradeClk s d).fuse = s.fuse ∧ (State.degradeClk s d).pending = s.pending := by simp [State.degradeClk]

@[simp] theorem State.sourceGood_kept (s : State) (src : ClkSrc) :
    (State.sourceGood s src).fuse = s.fuse ∧ (State.sourceGood s src).pending = s.pending := by unfold State.sourceGood; (repeat' split) <;> simp

@[simp] theorem State.stableNow_kept (s : State) :
    (State.stableNow s).fuse = s.fuse ∧ (State.stableNow s).pending = s.pending := by simp [State.stableNow]

@[simp] theorem State.toPrimary_kept (s : State) (d : Nat) :
    (State.toPrimary s d).fuse = s.fuse ∧ (State.toPrimary s d).pending = s.pending := by simp [State.toPrimary]

@[simp] theorem State.endDegraded_kept (s : State) :
    (State.endDegraded s).fuse = s.fuse ∧ (State.endDegraded s).pending = s.pending := by simp [State.endDegraded]

@[simp] theorem State.returnClk_kept (s : State) (d : Nat) :
    (State.returnClk s d).fuse = s.fuse ∧ (State.returnClk s d).pending = s.pending := by simp [State.returnClk]

@[simp] theorem State.stopAll_kept (s : State) :
    (State.stopAll s).fuse = s.fuse ∧ (State.stopAll s).pending = s.pending := by simp [State.stopAll]

@[simp] theorem State.wdAround_kept (s : State) (h : State → State) (h_h : ∀ x0, (h x0).fuse = x0.fuse ∧ (h x0).pending = x0.pending) :
    (State.wdAround s h).fuse = s.fuse ∧ (State.wdAround s h).pending = s.pending := by unfold State.wdAround; (repeat' split) <;> simp_all

@[simp] theorem State.endReplay_kept (s : State) :
    (State.endReplay s).fuse = s.fuse ∧ (State.endReplay s).pending = s.pending := by simp [State.endReplay]

@[simp] theorem State.startLoad_kept (s : State) (flash auto : Bool) (slot cap : Nat) (rest : List Nat) :
    (State.startLoad s flash auto slot cap rest).fuse = s.fuse ∧ (State.startLoad s flash auto slot cap rest).pending = s.pending := by simp [State.startLoad]

@[simp] theorem State.actHeld_kept (s : State) :
    (State.actHeld s).fuse = s.fuse ∧ (State.actHeld s).pending = s.pending := by simp [State.actHeld]

@[simp] theorem State.beginRegion_kept (s : State) (ly : Fin 4) (j : Fin 8) :
    (State.beginRegion s ly j).fuse = s.fuse ∧ (State.beginRegion s ly j).pending = s.pending := by simp [State.beginRegion]

@[simp] theorem State.setRegions_kept (s : State) :
    (State.setRegions s).fuse = s.fuse ∧ (State.setRegions s).pending = s.pending := by simp [State.setRegions]

@[simp] theorem State.clearCoefs_kept (s : State) :
    (State.clearCoefs s).fuse = s.fuse ∧ (State.clearCoefs s).pending = s.pending := ⟨rfl, rfl⟩

@[simp] theorem State.releaseStores_kept (s : State) :
    (State.releaseStores s).fuse = s.fuse ∧ (State.releaseStores s).pending = s.pending := ⟨rfl, rfl⟩

@[simp] theorem State.holdAtRelease_kept (s : State) (ly : Fin 4) (j : Fin 8) :
    (State.holdAtRelease s ly j).fuse = s.fuse ∧ (State.holdAtRelease s ly j).pending = s.pending := by simp [State.holdAtRelease]

@[simp] theorem State.resetSeqs_kept (s : State) :
    (State.resetSeqs s).fuse = s.fuse ∧ (State.resetSeqs s).pending = s.pending := by simp [State.resetSeqs]

@[simp] theorem State.restartRegions_kept (s : State) :
    (State.restartRegions s).fuse = s.fuse ∧ (State.restartRegions s).pending = s.pending := by simp [State.restartRegions]

@[simp] theorem State.absorbed_kept (s : State) (trigger : Nat) :
    (State.absorbed s trigger).fuse = s.fuse ∧ (State.absorbed s trigger).pending = s.pending := by simp [State.absorbed]

@[simp] theorem State.closeGates_kept (s : State) :
    (State.closeGates s).fuse = s.fuse ∧ (State.closeGates s).pending = s.pending := by simp [State.closeGates]

@[simp] theorem State.holdDrained_kept (s : State) :
    (State.holdDrained s).fuse = s.fuse ∧ (State.holdDrained s).pending = s.pending := by simp only [State.holdDrained]; (repeat' split) <;> simp_all

@[simp] theorem State.takeGuard_kept (s : State) (n : Nat) :
    (State.takeGuard s n).fuse = s.fuse ∧ (State.takeGuard s n).pending = s.pending := by simp [State.takeGuard]

@[simp] theorem State.takeGuards_kept (s : State) :
    (State.takeGuards s).fuse = s.fuse ∧ (State.takeGuards s).pending = s.pending := by simp [State.takeGuards]

@[simp] theorem State.sysrefWrite_kept (s : State) (who : Who) (i : Fin 4) (v : Word) :
    (State.sysrefWrite s who i v).fuse = s.fuse ∧ (State.sysrefWrite s who i v).pending = s.pending := by simp [State.sysrefWrite]

@[simp] theorem State.ppsRise_kept (s : State) :
    (State.ppsRise s).fuse = s.fuse ∧ (State.ppsRise s).pending = s.pending := by simp [State.ppsRise]

@[simp] theorem State.copyFails_kept (s : State) (copy : Fin 5) :
    (State.copyFails s copy).fuse = s.fuse ∧ (State.copyFails s copy).pending = s.pending := by simp [State.copyFails]

@[simp] theorem State.depWrite_kept (s : State) (who : Who) (v : Word) :
    (State.depWrite s who v).fuse = s.fuse ∧ (State.depWrite s who v).pending = s.pending := by simp [State.depWrite]

@[simp] theorem State.reloadCopies_kept (s : State) :
    (State.reloadCopies s).fuse = s.fuse ∧ (State.reloadCopies s).pending = s.pending := by simp [State.reloadCopies]

@[simp] theorem State.frame_kept (s : State) (ref : Int) :
    (State.frame s ref).fuse = s.fuse ∧ (State.frame s ref).pending = s.pending := by simp [State.frame]

@[simp] theorem State.sampleAt_kept (s : State) :
    (State.sampleAt s).fuse = s.fuse ∧ (State.sampleAt s).pending = s.pending := ⟨rfl, rfl⟩

@[simp] theorem State.inactive_kept (s : State) (p : Nat) :
    (State.inactive s p).fuse = s.fuse ∧ (State.inactive s p).pending = s.pending := by simp [State.inactive]

@[simp] theorem State.linkDown_kept (s : State) (p : Nat) (leaving : Bool) :
    (State.linkDown s p leaving).fuse = s.fuse ∧ (State.linkDown s p leaving).pending = s.pending := by unfold State.linkDown; (repeat' split) <;> simp

@[simp] theorem State.jesdDown_kept (s : State) (k : Nat) :
    (State.jesdDown s k).fuse = s.fuse ∧ (State.jesdDown s k).pending = s.pending := by simp [State.jesdDown]

@[simp] theorem State.portWrite_kept (s : State) (who : Who) (p : Fin 32) (v : Word) :
    (State.portWrite s who p v).fuse = s.fuse ∧ (State.portWrite s who p v).pending = s.pending := by simp [State.portWrite]

@[simp] theorem State.linkWrite_kept (s : State) (who : Who) (k : Fin 16) (v : Word) :
    (State.linkWrite s who k v).fuse = s.fuse ∧ (State.linkWrite s who k v).pending = s.pending := by simp [State.linkWrite]

@[simp] theorem State.startRef_kept (s : State) (key : Nat) (temp : Int) :
    (State.startRef s key temp).fuse = s.fuse ∧ (State.startRef s key temp).pending = s.pending := ⟨rfl, rfl⟩

@[simp] theorem State.countLane_kept (s : State) (p : Nat) :
    (State.countLane s p).fuse = s.fuse ∧ (State.countLane s p).pending = s.pending := ⟨rfl, rfl⟩

@[simp] theorem State.stampOf_kept (s : State) (x : RxFrame) :
    (State.stampOf s x).2.fuse = s.fuse ∧ (State.stampOf s x).2.pending = s.pending := by unfold State.stampOf; (repeat' split) <;> simp

@[simp] theorem State.queueBar_kept (s : State) (p q reason : Nat) :
    (State.queueBar s p q reason).fuse = s.fuse ∧ (State.queueBar s p q reason).pending = s.pending := by simp [State.queueBar]

@[simp] theorem State.dropFrame_kept (s : State) (p q reason : Nat) :
    (State.dropFrame s p q reason).fuse = s.fuse ∧ (State.dropFrame s p q reason).pending = s.pending := by simp [State.dropFrame]

@[simp] theorem State.deliver_kept (s : State) (p q : Nat) (bytes : List Byte) :
    (State.deliver s p q bytes).2.fuse = s.fuse ∧ (State.deliver s p q bytes).2.pending = s.pending := by unfold State.deliver; (repeat' split) <;> simp

@[simp] theorem State.classify_kept (s : State) (p : Nat) (x : RxFrame) :
    (State.classify s p x).fuse = s.fuse ∧ (State.classify s p x).pending = s.pending := by simp only [State.classify]; (repeat' split) <;> simp_all

@[simp] theorem State.send_kept (s : State) (port q : Nat) (r : HeadRec) :
    (State.send s port q r).fuse = s.fuse ∧ (State.send s port q r).pending = s.pending := by simp [State.send]

@[simp] theorem State.depDrop_kept (s : State) (port q reason : Nat) :
    (State.depDrop s port q reason).fuse = s.fuse ∧ (State.depDrop s port q reason).pending = s.pending := by simp [State.depDrop]

@[simp] theorem State.hclast_kept (s : State) (ly : Fin 4) (t : Fin 64) (b : Fin 32) (addr : Nat) (uncorr : Bool) :
    (State.hclast s ly t b addr uncorr).fuse = s.fuse ∧ (State.hclast s ly t b addr uncorr).pending = s.pending := by simp [State.hclast]

@[simp] theorem State.writeCoef_kept (s : State) (key : Nat) (w : Option Word) (mark : Ecc) :
    (State.writeCoef s key w mark).fuse = s.fuse ∧ (State.writeCoef s key w mark).pending = s.pending := by simp [State.writeCoef]

@[simp] theorem State.foundCoef_kept (s : State) (key : Nat) (w : Word) (mark : Ecc) :
    (State.foundCoef s key w mark).fuse = s.fuse ∧ (State.foundCoef s key w mark).pending = s.pending := by simp [State.foundCoef]

@[simp] theorem State.takeCyc_kept (s : State) (u : Nat) :
    (State.takeCyc s u).fuse = s.fuse ∧ (State.takeCyc s u).pending = s.pending := by simp [State.takeCyc]

@[simp] theorem State.addRepair_kept (s : State) (cls unit sub row src : Nat) :
    (State.addRepair s cls unit sub row src).2.2.fuse = s.fuse ∧ (State.addRepair s cls unit sub row src).2.2.pending = s.pending := by simp only [State.addRepair]; (repeat' split) <;> simp_all

@[simp] theorem State.queueRepair_kept (s : State) (cls unit sub row src : Nat) :
    (State.queueRepair s cls unit sub row src).2.fuse = s.fuse ∧ (State.queueRepair s cls unit sub row src).2.pending = s.pending := by simp only [State.queueRepair]; (repeat' split) <;> simp_all

@[simp] theorem State.setBrowsePos_kept (s : State) (e : BrowseEng) (p : BrowsePos) :
    (State.setBrowsePos s e p).fuse = s.fuse ∧ (State.setBrowsePos s e p).pending = s.pending := by simp [State.setBrowsePos]

@[simp] theorem State.browseBand_kept (s : State) :
    (State.browseBand s).fuse = s.fuse ∧ (State.browseBand s).pending = s.pending := by unfold State.browseBand; exact foldl_kept _ (fun t a => by dsimp only; (repeat' split) <;> simp) _ _

@[simp] theorem State.browseStart_kept (s : State) (die : Nat) :
    (State.browseStart s die).fuse = s.fuse ∧ (State.browseStart s die).pending = s.pending := by simp [State.browseStart]

@[simp] theorem State.browseStop_kept (s : State) (die : Nat) :
    (State.browseStop s die).fuse = s.fuse ∧ (State.browseStop s die).pending = s.pending := by simp [State.browseStop]

@[simp] theorem State.browseLate_kept (s : State) (e : BrowseEng) :
    (State.browseLate s e).fuse = s.fuse ∧ (State.browseLate s e).pending = s.pending := by unfold State.browseLate; (repeat' split) <;> simp

@[simp] theorem State.browseCorrected_kept (s : State) (a : BrowseAt) :
    (State.browseCorrected s a).fuse = s.fuse ∧ (State.browseCorrected s a).pending = s.pending := by unfold State.browseCorrected; (repeat' split) <;> simp

@[simp] theorem State.browseEnd_kept (s : State) (e : BrowseEng) (d : Nat) :
    (State.browseEnd s e d).fuse = s.fuse ∧ (State.browseEnd s e d).pending = s.pending := by simp [State.browseEnd]

@[simp] theorem State.browseSlot_kept (s : State) (w : Nat) (found : Flaw) :
    (State.browseSlot s w found).fuse = s.fuse ∧ (State.browseSlot s w found).pending = s.pending := by simp only [State.browseSlot]; (repeat' split) <;> simp_all

@[simp] theorem State.browsePlane_kept (s : State) (ly p : Fin 4) (t : Fin 64) (group : Nat) :
    (State.browsePlane s ly p t group).fuse = s.fuse ∧ (State.browsePlane s ly p t group).pending = s.pending := by simp [State.browsePlane]

@[simp] theorem State.browseMem_kept (s0 : State) (key : Nat) (found : Flaw) :
    (State.browseMem s0 key found).fuse = s0.fuse ∧ (State.browseMem s0 key found).pending = s0.pending := by simp only [State.browseMem]; (repeat' split) <;> simp_all

@[simp] theorem State.browsePgm_kept (s : State) (k : Fin 4) (a : BitVec 16) (found : Flaw) :
    (State.browsePgm s k a found).fuse = s.fuse ∧ (State.browsePgm s k a found).pending = s.pending := by simp only [State.browsePgm]; (repeat' split) <;> simp_all

@[simp] theorem State.rowFailed_kept (s : State) (u w row : Nat) :
    (State.rowFailed s u w row).fuse = s.fuse ∧ (State.rowFailed s u w row).pending = s.pending := by unfold State.rowFailed; (repeat' split) <;> simp

@[simp] theorem State.breakSensor_kept (s : State) (x : Nat) :
    (State.breakSensor s x).fuse = s.fuse ∧ (State.breakSensor s x).pending = s.pending := by simp [State.breakSensor]

@[simp] theorem State.refreshRates_kept (s : State) :
    (State.refreshRates s).fuse = s.fuse ∧ (State.refreshRates s).pending = s.pending := by simp [State.refreshRates]

@[simp] theorem State.remoteOne_kept (s : State) (x : Nat) :
    (State.remoteOne s x).fuse = s.fuse ∧ (State.remoteOne s x).pending = s.pending := by simp [State.remoteOne]

@[simp] theorem State.spreadOne_kept (s : State) (n : Nat) :
    (State.spreadOne s n).fuse = s.fuse ∧ (State.spreadOne s n).pending = s.pending := ⟨rfl, rfl⟩

@[simp] theorem State.triggered_kept (s : State) (key : Nat) (temp : Int) (thr : Nat) :
    (State.triggered s key temp thr).2.fuse = s.fuse ∧ (State.triggered s key temp thr).2.pending = s.pending := by unfold State.triggered; (repeat' split) <;> simp

@[simp] theorem State.startAdapt_kept (s : State) (p : Nat) :
    (State.startAdapt s p).fuse = s.fuse ∧ (State.startAdapt s p).pending = s.pending := ⟨rfl, rfl⟩

@[simp] theorem State.laneTrigger_kept (s : State) (p : Nat) :
    (State.laneTrigger s p).fuse = s.fuse ∧ (State.laneTrigger s p).pending = s.pending := by simp [State.laneTrigger]

@[simp] theorem State.askRun_kept (s : State) (die : Nat) :
    (State.askRun s die).fuse = s.fuse ∧ (State.askRun s die).pending = s.pending := ⟨rfl, rfl⟩

@[simp] theorem State.dieTrigger_kept (s : State) (die : Nat) :
    (State.dieTrigger s die).fuse = s.fuse ∧ (State.dieTrigger s die).pending = s.pending := by unfold State.dieTrigger; (repeat' split) <;> simp

@[simp] theorem State.ddrTrigger_kept (s : State) (n : Nat) :
    (State.ddrTrigger s n).fuse = s.fuse ∧ (State.ddrTrigger s n).pending = s.pending := by simp [State.ddrTrigger]

@[simp] theorem State.endRun_kept (s : State) (die : Nat) :
    (State.endRun s die).fuse = s.fuse ∧ (State.endRun s die).pending = s.pending := by simp [State.endRun]

@[simp] theorem State.hotRuns_kept (s : State) (l : List (Fin 62 × Option Int)) :
    (State.hotRuns s l).fuse = s.fuse ∧ (State.hotRuns s l).pending = s.pending := by simp [State.hotRuns]

@[simp] theorem State.setEye_kept (s : State) (p width height : Nat) :
    (State.setEye s p width height).fuse = s.fuse ∧ (State.setEye s p width height).pending = s.pending := ⟨rfl, rfl⟩

@[simp] theorem State.flipGroup_kept (s : State) (g : Nat) (flip : BitVec 65) :
    (State.flipGroup s g flip).fuse = s.fuse ∧ (State.flipGroup s g flip).pending = s.pending := by simp [State.flipGroup]

@[simp] theorem State.undetect_kept (s : State) (g : Nat) :
    (State.undetect s g).fuse = s.fuse ∧ (State.undetect s g).pending = s.pending := by unfold State.undetect; (repeat' split) <;> simp

@[simp] theorem State.checkParity_kept (s : State) (armed : Bool) (g : Nat) (act : Bool) :
    (State.checkParity s armed g act).fuse = s.fuse ∧ (State.checkParity s armed g act).pending = s.pending := by simp [State.checkParity]

@[simp] theorem State.upsetReport_kept (s : State) (layer plane : Fin 4) (tile : Fin 64) (group : Nat) (uncorr current : Bool) :
    (State.upsetReport s layer plane tile group uncorr current).fuse = s.fuse ∧ (State.upsetReport s layer plane tile group uncorr current).pending = s.pending := by simp [State.upsetReport]

@[simp] theorem State.dropDriven_kept (s : State) (ly : Fin 4) (upperB : Bool) (g : Nat) :
    (State.dropDriven s ly upperB g).fuse = s.fuse ∧ (State.dropDriven s ly upperB g).pending = s.pending := by simp [State.dropDriven]

@[simp] theorem State.failGroup_kept (s : State) (b : Fin 3) (g : Nat) :
    (State.failGroup s b g).fuse = s.fuse ∧ (State.failGroup s b g).pending = s.pending := by simp [State.failGroup]

@[simp] theorem State.failPosition_kept (s : State) (b : Fin 3) (g pos : Nat) :
    (State.failPosition s b g pos).fuse = s.fuse ∧ (State.failPosition s b g pos).pending = s.pending := by unfold State.failPosition; (repeat' split) <;> simp

@[simp] theorem State.shaftCorrect_kept (s : State) (b : Fin 3) (g pos : Nat) :
    (State.shaftCorrect s b g pos).fuse = s.fuse ∧ (State.shaftCorrect s b g pos).pending = s.pending := by simp [State.shaftCorrect]

@[simp] theorem State.receive_kept (s : State) (key : Nat) (flip : BitVec 71) :
    (State.receive s key flip).fuse = s.fuse ∧ (State.receive s key flip).pending = s.pending := by simp [State.receive]

@[simp] theorem State.clearCount_kept (s : State) (x : Fld) (n : Nat) :
    (State.clearCount s x n).fuse = s.fuse ∧ (State.clearCount s x n).pending = s.pending := by simp [State.clearCount]

@[simp] theorem State.setLoad_kept (s : State) (l : Load) :
    (State.setLoad s l).fuse = s.fuse ∧ (State.setLoad s l).pending = s.pending := ⟨rfl, rfl⟩

@[simp] theorem State.cfgReject_kept (s : State) :
    (State.cfgReject s).fuse = s.fuse ∧ (State.cfgReject s).pending = s.pending := ⟨rfl, rfl⟩

@[simp] theorem State.putSlot_kept (s : State) (base n x : Nat) :
    (State.putSlot s base n x).fuse = s.fuse ∧ (State.putSlot s base n x).pending = s.pending := ⟨rfl, rfl⟩

@[simp] theorem State.writeSlotFrame_kept (s : State) (far x : Nat) :
    (State.writeSlotFrame s far x).fuse = s.fuse ∧ (State.writeSlotFrame s far x).pending = s.pending := by simp [State.writeSlotFrame]

@[simp] theorem State.writeFrame_kept (s : State) (l : Load) (far w : Nat) (data : Option Nat) :
    (State.writeFrame s l far w data).1.fuse = s.fuse ∧ (State.writeFrame s l far w data).1.pending = s.pending := by simp only [State.writeFrame]; (repeat' split) <;> simp_all

@[simp] theorem State.streamError_kept (s : State) (l : Load) (reason info word : Nat) :
    (State.streamError s l reason info word).fuse = s.fuse ∧ (State.streamError s l reason info word).pending = s.pending := ⟨rfl, rfl⟩

@[simp] theorem State.toTag_kept (s : State) (l : Load) :
    (State.toTag s l).fuse = s.fuse ∧ (State.toTag s l).pending = s.pending := ⟨rfl, rfl⟩

@[simp] theorem State.registerPacket_kept (s : State) (l : Load) (h : Nat) (body : List Word) :
    (State.registerPacket s l h body).fuse = s.fuse ∧ (State.registerPacket s l h body).pending = s.pending := by unfold State.registerPacket; (repeat' split) <;> simp

@[simp] theorem State.judgeSlot_kept (s : State) (e : Nat × Nat × Nat) :
    (State.judgeSlot s e).fuse = s.fuse ∧ (State.judgeSlot s e).pending = s.pending := by simp [State.judgeSlot]

@[simp] theorem State.loadPcfg_kept (s : State) (k : Fin 4) :
    (State.loadPcfg s k).fuse = s.fuse ∧ (State.loadPcfg s k).pending = s.pending := ⟨rfl, rfl⟩

@[simp] theorem State.showBarriers_kept (s : State) :
    (State.showBarriers s).fuse = s.fuse ∧ (State.showBarriers s).pending = s.pending := ⟨rfl, rfl⟩

@[simp] theorem State.commitFull_kept (s : State) (l : Load) :
    (State.commitFull s l).fuse = s.fuse ∧ (State.commitFull s l).pending = s.pending := by simp [State.commitFull]

@[simp] theorem State.commitEnd_kept (s : State) (l : Load) :
    (State.commitEnd s l).fuse = s.fuse ∧ (State.commitEnd s l).pending = s.pending := by simp [State.commitEnd]

@[simp] theorem State.commitPartial_kept (s : State) (l : Load) :
    (State.commitPartial s l).fuse = s.fuse ∧ (State.commitPartial s l).pending = s.pending := by simp [State.commitPartial]

@[simp] theorem State.flashStart_kept (s : State) (n : Nat) (aligned : Bool) (data : Option (List Byte)) :
    (State.flashStart s n aligned data).fuse = s.fuse ∧ (State.flashStart s n aligned data).pending = s.pending := by simp [State.flashStart]

@[simp] theorem State.flashWrite_kept (s : State) (v : Word) (op : Nat) (act : State → State) (h_act : ∀ x0, (act x0).fuse = x0.fuse ∧ (act x0).pending = x0.pending) :
    (State.flashWrite s v op act).fuse = s.fuse ∧ (State.flashWrite s v op act).pending = s.pending := by unfold State.flashWrite; (repeat' split) <;> simp_all

@[simp] theorem State.putFlash_kept (s : State) (a : Nat) (data : List Byte) :
    (State.putFlash s a data).fuse = s.fuse ∧ (State.putFlash s a data).pending = s.pending := ⟨rfl, rfl⟩

@[simp] theorem State.resetBlock_kept (s : State) (out : Nat → Bool) :
    (State.resetBlock s out).fuse = s.fuse ∧ (State.resetBlock s out).pending = s.pending := by simp [State.resetBlock]

@[simp] theorem State.pcieReset_kept (s : State) :
    (State.pcieReset s).fuse = s.fuse ∧ (State.pcieReset s).pending = s.pending := by simp [State.pcieReset]

@[simp] theorem State.descriptor_kept (s : State) (c : Nat) (d : DescHead) (op : Nat) (act : State → State) (h_act : ∀ x0, (act x0).fuse = x0.fuse ∧ (act x0).pending = x0.pending) :
    (State.descriptor s c d op act).fuse = s.fuse ∧ (State.descriptor s c d op act).pending = s.pending := by unfold State.descriptor; (repeat' split) <;> simp_all

@[simp] theorem State.setVlGroup_kept (s : State) (joint g : Nat) (x : VlGroup) :
    (State.setVlGroup s joint g x).fuse = s.fuse ∧ (State.setVlGroup s joint g x).pending = s.pending := ⟨rfl, rfl⟩

@[simp] theorem State.phaseSample_kept (s : State) (joint : Nat) (offset : Int) :
    (State.phaseSample s joint offset).fuse = s.fuse ∧ (State.phaseSample s joint offset).pending = s.pending := ⟨rfl, rfl⟩

@[simp] theorem State.testShaft_kept (s : State) (b : Fin 3) (g pos : Nat) :
    (State.testShaft s b g pos).fuse = s.fuse ∧ (State.testShaft s b g pos).pending = s.pending := by unfold State.testShaft; (repeat' split) <;> simp

@[simp] theorem State.fuseShaft_kept (s : State) (b g : Nat) :
    (State.fuseShaft s b g).fuse = s.fuse ∧ (State.fuseShaft s b g).pending = s.pending := by simp [State.fuseShaft]

@[simp] theorem State.fuseShafts_kept (s : State) :
    (State.fuseShafts s).fuse = s.fuse ∧ (State.fuseShafts s).pending = s.pending := by simp [State.fuseShafts]

@[simp] theorem State.untestShaft_kept (s : State) (b g : Nat) :
    (State.untestShaft s b g).fuse = s.fuse ∧ (State.untestShaft s b g).pending = s.pending := ⟨rfl, rfl⟩

@[simp] theorem State.testBond_kept (s : State) (tine lanes : Nat) :
    (State.testBond s tine lanes).fuse = s.fuse ∧ (State.testBond s tine lanes).pending = s.pending := by simp [State.testBond]

@[simp] theorem State.cancelReq_kept (s : State) (die key : Nat) (r : Req) :
    (State.cancelReq s die key r).2.fuse = s.fuse ∧ (State.cancelReq s die key r).2.pending = s.pending := by unfold State.cancelReq; (repeat' split) <;> simp

@[simp] theorem State.arriveReq_kept (s : State) (die key : Nat) (r : Req) :
    (State.arriveReq s die key r).2.fuse = s.fuse ∧ (State.arriveReq s die key r).2.pending = s.pending := by unfold State.arriveReq; (repeat' split) <;> simp

@[simp] theorem State.railSample_kept (s : State) (r mv : Nat) :
    (State.railSample s r mv).fuse = s.fuse ∧ (State.railSample s r mv).pending = s.pending := ⟨rfl, rfl⟩

@[simp] theorem State.cause_kept (s : State) (code rail : Nat) :
    (State.cause s code rail).fuse = s.fuse ∧ (State.cause s code rail).pending = s.pending := ⟨rfl, rfl⟩

@[simp] theorem State.keepF_kept (s old : State) (l : List Fld) :
    (State.keepF s old l).fuse = s.fuse ∧ (State.keepF s old l).pending = s.pending := by simp [State.keepF]

@[simp] theorem State.flashCut_kept (s : State) :
    (State.flashCut s).fuse = s.fuse ∧ (State.flashCut s).pending = s.pending := by unfold State.flashCut; (repeat' split) <;> simp

@[simp] theorem State.loseLines_kept (s : State) :
    (State.loseLines s).fuse = s.fuse ∧ (State.loseLines s).pending = s.pending := by simp [State.loseLines]

@[simp] theorem State.emptyCache_kept (s : State) :
    (State.emptyCache s).fuse = s.fuse ∧ (State.emptyCache s).pending = s.pending := ⟨rfl, rfl⟩

@[simp] theorem State.emptyPorts_kept (s : State) :
    (State.emptyPorts s).fuse = s.fuse ∧ (State.emptyPorts s).pending = s.pending := ⟨rfl, rfl⟩

@[simp] theorem State.dropLoad_kept (s : State) (reason info : Nat) :
    (State.dropLoad s reason info).fuse = s.fuse ∧ (State.dropLoad s reason info).pending = s.pending := by unfold State.dropLoad; (repeat' split) <;> simp

@[simp] theorem State.resetFabric_kept (s : State) :
    (State.resetFabric s).fuse = s.fuse ∧ (State.resetFabric s).pending = s.pending := by simp [State.resetFabric]

@[simp] theorem State.recordWaiting_kept (s : State) :
    (State.recordWaiting s).fuse = s.fuse ∧ (State.recordWaiting s).pending = s.pending := by simp [State.recordWaiting]

@[simp] theorem State.drainForReset_kept (s : State) :
    (State.drainForReset s).fuse = s.fuse ∧ (State.drainForReset s).pending = s.pending := by simp [State.drainForReset]

@[simp] theorem State.keepFailed_kept (s old : State) :
    (State.keepFailed s old).fuse = s.fuse ∧ (State.keepFailed s old).pending = s.pending := by simp [State.keepFailed]

@[simp] theorem State.resetBlocks_kept (s : State) :
    (State.resetBlocks s).fuse = s.fuse ∧ (State.resetBlocks s).pending = s.pending := by simp [State.resetBlocks]

@[simp] theorem State.resetCause_kept (s : State) (code : Nat) :
    (State.resetCause s code).fuse = s.fuse ∧ (State.resetCause s code).pending = s.pending := by simp [State.resetCause]

@[simp] theorem State.mgmtReset_kept (s : State) (code : Nat) :
    (State.mgmtReset s code).fuse = s.fuse ∧ (State.mgmtReset s code).pending = s.pending := ⟨rfl, rfl⟩

@[simp] theorem State.loadSettings_kept (s : State) :
    (State.loadSettings s).fuse = s.fuse ∧ (State.loadSettings s).pending = s.pending := by unfold State.loadSettings; (repeat' split) <;> simp

@[simp] theorem State.startFamily_kept (s : State) :
    (State.startFamily s).fuse = s.fuse ∧ (State.startFamily s).pending = s.pending := by simp [State.startFamily]

@[simp] theorem State.startM_kept (s : State) :
    (State.startM s).fuse = s.fuse ∧ (State.startM s).pending = s.pending := by simp [State.startM]

@[simp] theorem State.startLaneTest_kept (s : State) :
    (State.startLaneTest s).fuse = s.fuse ∧ (State.startLaneTest s).pending = s.pending := ⟨rfl, rfl⟩

@[simp] theorem State.reached_kept (s : State) (target : Nat) :
    (State.reached s target).fuse = s.fuse ∧ (State.reached s target).pending = s.pending := by simp [State.reached]

@[simp] theorem State.startWake_kept (s : State) :
    (State.startWake s).fuse = s.fuse ∧ (State.startWake s).pending = s.pending := ⟨rfl, rfl⟩

@[simp] theorem State.startStack_kept (s : State) :
    (State.startStack s).fuse = s.fuse ∧ (State.startStack s).pending = s.pending := by simp [State.startStack]

@[simp] theorem State.leaveSelfRefresh_kept (s : State) :
    (State.leaveSelfRefresh s).fuse = s.fuse ∧ (State.leaveSelfRefresh s).pending = s.pending := by simp [State.leaveSelfRefresh]

@[simp] theorem State.blackout_kept (s : State) (dies : Nat) :
    (State.blackout s dies).fuse = s.fuse ∧ (State.blackout s dies).pending = s.pending := by simp [State.blackout]

@[simp] theorem State.serdesLost_kept (s : State) :
    (State.serdesLost s).fuse = s.fuse ∧ (State.serdesLost s).pending = s.pending := by simp [State.serdesLost]

@[simp] theorem State.dramLost_kept (s : State) :
    (State.dramLost s).fuse = s.fuse ∧ (State.dramLost s).pending = s.pending := by simp [State.dramLost]

@[simp] theorem State.outOfOrder_kept (s : State) (r : Nat) :
    (State.outOfOrder s r).fuse = s.fuse ∧ (State.outOfOrder s r).pending = s.pending := by simp [State.outOfOrder]

@[simp] theorem State.autoStart_kept (s : State) :
    (State.autoStart s).fuse = s.fuse ∧ (State.autoStart s).pending = s.pending := by simp [State.autoStart]

@[simp] theorem State.holdRegions_kept (s : State) :
    (State.holdRegions s).fuse = s.fuse ∧ (State.holdRegions s).pending = s.pending := by simp [State.holdRegions]

@[simp] theorem State.rbCommand_kept (s : State) (v : Word) (op : Nat) (act : State → State) (h_act : ∀ x0, (act x0).fuse = x0.fuse ∧ (act x0).pending = x0.pending) :
    (State.rbCommand s v op act).fuse = s.fuse ∧ (State.rbCommand s v op act).pending = s.pending := by unfold State.rbCommand; (repeat' split) <;> simp_all

@[simp] theorem State.rbStart_kept (s : State) :
    (State.rbStart s).fuse = s.fuse ∧ (State.rbStart s).pending = s.pending := ⟨rfl, rfl⟩

@[simp] theorem State.takeFrame_kept (s : State) (far : Nat) :
    (State.takeFrame s far).fuse = s.fuse ∧ (State.takeFrame s far).pending = s.pending := by simp [State.takeFrame]

@[simp] theorem State.putFlops_kept (s : State) (far x : Nat) :
    (State.putFlops s far x).fuse = s.fuse ∧ (State.putFlops s far x).pending = s.pending := ⟨rfl, rfl⟩

@[simp] theorem State.putAccs_kept (s : State) (far x : Nat) :
    (State.putAccs s far x).fuse = s.fuse ∧ (State.putAccs s far x).pending = s.pending := ⟨rfl, rfl⟩

@[simp] theorem State.putCoefs_kept (s : State) (far x : Nat) :
    (State.putCoefs s far x).fuse = s.fuse ∧ (State.putCoefs s far x).pending = s.pending := by simp [State.putCoefs]

@[simp] theorem State.putState_kept (s : State) (far x : Nat) :
    (State.putState s far x).fuse = s.fuse ∧ (State.putState s far x).pending = s.pending := by unfold State.putState; (repeat' split) <;> simp

@[simp] theorem State.releaseMask_kept (s : State) (mask : Nat) :
    (State.releaseMask s mask).fuse = s.fuse ∧ (State.releaseMask s mask).pending = s.pending := by simp [State.releaseMask]

@[simp] theorem State.disarm_kept (s : State) :
    (State.disarm s).fuse = s.fuse ∧ (State.disarm s).pending = s.pending := ⟨rfl, rfl⟩

@[simp] theorem State.armCapture_kept (s : State) (v : Nat) :
    (State.armCapture s v).fuse = s.fuse ∧ (State.armCapture s v).pending = s.pending := by simp [State.armCapture]

@[simp] theorem State.capWrite_kept (s : State) (v : Nat) :
    (State.capWrite s v).fuse = s.fuse ∧ (State.capWrite s v).pending = s.pending := by simp [State.capWrite]

@[simp] theorem State.rplReject_kept (s : State) :
    (State.rplReject s).fuse = s.fuse ∧ (State.rplReject s).pending = s.pending := ⟨rfl, rfl⟩

@[simp] theorem State.startCapture_kept (s : State) :
    (State.startCapture s).fuse = s.fuse ∧ (State.startCapture s).pending = s.pending := by simp [State.startCapture]

@[simp] theorem State.freezeRing_kept (s : State) (cause : Nat) :
    (State.freezeRing s cause).fuse = s.fuse ∧ (State.freezeRing s cause).pending = s.pending := by simp only [State.freezeRing]; (repeat' split) <;> simp_all

@[simp] theorem State.mismatch_kept (s : State) (n : Nat) :
    (State.mismatch s n).fuse = s.fuse ∧ (State.mismatch s n).pending = s.pending := by simp [State.mismatch]

@[simp] theorem State.crcOne_kept (s : State) (n : Nat) :
    (State.crcOne s n).fuse = s.fuse ∧ (State.crcOne s n).pending = s.pending := by unfold State.crcOne; (repeat' split) <;> simp

@[simp] theorem State.releaseScope_kept (s : State) :
    (State.releaseScope s).fuse = s.fuse ∧ (State.releaseScope s).pending = s.pending := by simp [State.releaseScope]

@[simp] theorem State.restoreMemory_kept (s : State) (x : Snapshot) :
    (State.restoreMemory s x).fuse = s.fuse ∧ (State.restoreMemory s x).pending = s.pending := by simp [State.restoreMemory]

@[simp] theorem State.restoreRegion_kept (s : State) (ly : Fin 4) (j : Fin 8) (r : Region) :
    (State.restoreRegion s ly j r).fuse = s.fuse ∧ (State.restoreRegion s ly j r).pending = s.pending := by simp [State.restoreRegion]

@[simp] theorem State.restoreFabric_kept (s : State) (x : Snapshot) :
    (State.restoreFabric s x).fuse = s.fuse ∧ (State.restoreFabric s x).pending = s.pending := ⟨rfl, rfl⟩

@[simp] theorem State.replaySeq_kept (s : State) (k : Fin 4) :
    (State.replaySeq s k).fuse = s.fuse ∧ (State.replaySeq s k).pending = s.pending := by simp only [State.replaySeq]; (repeat' split) <;> simp_all

@[simp] theorem State.replayDone_kept (s : State) :
    (State.replayDone s).fuse = s.fuse ∧ (State.replayDone s).pending = s.pending := by simp [State.replayDone]

@[simp] theorem State.advanceRing_kept (s : State) (r : RingRec) :
    (State.advanceRing s r).fuse = s.fuse ∧ (State.advanceRing s r).pending = s.pending := by simp [State.advanceRing]

@[simp] theorem State.injectEntries_kept (s : State) (r : RingRec) :
    (State.injectEntries s r).fuse = s.fuse ∧ (State.injectEntries s r).pending = s.pending := by simp [State.injectEntries]

@[simp] theorem State.injectInputs_kept (s : State) (r : RingRec) :
    (State.injectInputs s r).fuse = s.fuse ∧ (State.injectInputs s r).pending = s.pending := by simp [State.injectInputs]

@[simp] theorem State.inject_kept (s : State) (r : RingRec) :
    (State.inject s r).fuse = s.fuse ∧ (State.inject s r).pending = s.pending := by simp [State.inject]

@[simp] theorem State.endStore_kept (s : State) (result : Nat) :
    (State.endStore s result).fuse = s.fuse ∧ (State.endStore s result).pending = s.pending := ⟨rfl, rfl⟩

@[simp] theorem State.storeStart_kept (s : State) :
    (State.storeStart s).fuse = s.fuse ∧ (State.storeStart s).pending = s.pending := by simp [State.storeStart]

@[simp] theorem State.storeDone_kept (s : State) (items : NMap Word) :
    (State.storeDone s items).fuse = s.fuse ∧ (State.storeDone s items).pending = s.pending := by simp [State.storeDone]

@[simp] theorem State.ivalWrite_kept (s : State) (who : Who) (v : Word) :
    (State.ivalWrite s who v).fuse = s.fuse ∧ (State.ivalWrite s who v).pending = s.pending := by unfold State.ivalWrite; (repeat' split) <;> simp

@[simp] theorem State.endSec_kept (s : State) (code result : Nat) :
    (State.endSec s code result).fuse = s.fuse ∧ (State.endSec s code result).pending = s.pending := by simp [State.endSec]

@[simp] theorem State.clearRepairs_kept (s : State) :
    (State.clearRepairs s).fuse = s.fuse ∧ (State.clearRepairs s).pending = s.pending := ⟨rfl, rfl⟩

@[simp] theorem State.eraseSettings_kept (s : State) :
    (State.eraseSettings s).fuse = s.fuse ∧ (State.eraseSettings s).pending = s.pending := ⟨rfl, rfl⟩

@[simp] theorem State.refusedAt_kept (s : State) (q : Nat) :
    (State.refusedAt s q).fuse = s.fuse ∧ (State.refusedAt s q).pending = s.pending := by simp [State.refusedAt]

@[simp] theorem State.portEnd_kept (s : State) (k : Fin 4) (op : PortOp) (r : PortRes) :
    (State.portEnd s k op r).fuse = s.fuse ∧ (State.portEnd s k op r).pending = s.pending := ⟨rfl, rfl⟩

@[simp] theorem State.seqPush_kept (s : State) (k : Fin 4) (q : Nat) (data : List Word) (issue pc : Nat) :
    (State.seqPush s k q data issue pc).fuse = s.fuse ∧ (State.seqPush s k q data issue pc).pending = s.pending := by simp [State.seqPush]

@[simp] theorem State.putCoef_kept (s : State) (k : Fin 4) (tile : Fin 64) (b : Fin 32) (addr : Nat) (w : Word) (bad : Bool) :
    (State.putCoef s k tile b addr w bad).fuse = s.fuse ∧ (State.putCoef s k tile b addr w bad).pending = s.pending := ⟨rfl, rfl⟩

@[simp] theorem State.hcoefWord_kept (s : State) (k : Fin 4) (pc : Nat) (tile : Fin 64) (mask addr : Nat) (w : BitVec 64) (bad : Bool) :
    (State.hcoefWord s k pc tile mask addr w bad).fuse = s.fuse ∧ (State.hcoefWord s k pc tile mask addr w bad).pending = s.pending := by simp [State.hcoefWord]

@[simp] theorem State.vtReport_kept (s : State) (master port addr : Nat) :
    (State.vtReport s master port addr).fuse = s.fuse ∧ (State.vtReport s master port addr).pending = s.pending := by simp [State.vtReport]

@[simp] theorem State.clearRc_kept (s : State) (off : Nat) :
    (State.clearRc s off).fuse = s.fuse ∧ (State.clearRc s off).pending = s.pending := by unfold State.clearRc; (repeat' split) <;> simp

@[simp] theorem State.metAfter_kept (t : State) (same : List Meet) (off : Nat) (v : Word) :
    (State.metAfter t same off v).fuse = t.fuse ∧ (State.metAfter t same off v).pending = t.pending := by simp [State.metAfter]

@[simp] theorem State.metKept_kept (t : State) (same : List Meet) (off : Nat) (v : Word) :
    (State.metKept t same off v).fuse = t.fuse ∧ (State.metKept t same off v).pending = t.pending := by unfold State.metKept; (repeat' split) <;> simp

@[simp] theorem State.latchHi_kept (s : State) (off : Nat) :
    (State.latchHi s off).fuse = s.fuse ∧ (State.latchHi s off).pending = s.pending := by unfold State.latchHi; (repeat' split) <;> simp

@[simp] theorem State.readNvm_kept (s : State) :
    (State.readNvm s).fuse = s.fuse ∧ (State.readNvm s).pending = s.pending := ⟨rfl, rfl⟩

@[simp] theorem State.readReg_kept (s : State) (off : Nat) (same : List Meet) :
    (State.readReg s off same).fuse = s.fuse ∧ (State.readReg s off same).pending = s.pending := by unfold State.readReg; (repeat' split) <;> simp

@[simp] theorem State.tableWrite_kept (s : State) (i : Nat) (v : Word) :
    (State.tableWrite s i v).fuse = s.fuse ∧ (State.tableWrite s i v).pending = s.pending := by simp [State.tableWrite]

@[simp] theorem State.aborts_kept (s : State) :
    (State.aborts s).fuse = s.fuse ∧ (State.aborts s).pending = s.pending := ⟨rfl, rfl⟩

@[simp] theorem State.accessBar4_kept (s : State) (vf : Option (Fin 32)) (off : Nat) (wr : Option Word) :
    (State.accessBar4 s vf off wr).fuse = s.fuse ∧ (State.accessBar4 s vf off wr).pending = s.pending := by unfold State.accessBar4; (repeat' split) <;> simp

end Sys2Proof.Machine
end

