-- ==== Sys2Proof/Laws/Memory.lean ====
section
/-!
SUPPORT. Sys2Proof/Laws/Memory.lean: reading a word after a write, and the canonical form of memory, which every operation
over memory keeps and which memory has at reset.
-/
namespace Sys2Proof.Machine
open Sys2Proof

/-! ## The canonical form -/

/-- The four maps of memory. -/
theorem Memory.wf_iff (m : Memory) : m.wf = true ↔
    mrise 0 m.words = true ∧ mwf Ecc.clean m.marks = true ∧ mwf (0 : BitVec 64) m.dram = true ∧
      mwf Ecc.clean m.dramMarks = true := by
  simp [Memory.wf, and_assoc]

/-- What leaves the four maps alone keeps their form. -/
theorem Memory.wf_congr {m n : Memory} (h : m.wf = true) (a : n.words = m.words) (b : n.marks = m.marks) (c : n.dram = m.dram)
    (d : n.dramMarks = m.dramMarks) : n.wf = true := by
  rw [Memory.wf_iff] at h ⊢; rw [a, b, c, d]; exact h

/-- A change of the memory layer that leaves the four maps alone keeps their form. -/
theorem State.modMem_wf {s : State} (f : Memory → Memory)
    (hf : ∀ m, (f m).words = m.words ∧ (f m).marks = m.marks ∧ (f m).dram = m.dram ∧ (f m).dramMarks = m.dramMarks)
    (h : s.mem.wf = true) : (s.modMem f).mem.wf = true :=
  Memory.wf_congr h (hf _).1 (hf _).2.1 (hf _).2.2.1 (hf _).2.2.2

/-- Memory at reset has the form. -/
theorem memory_wf_reset : State.reset.mem.wf = true := by decide

/-- A fold keeps what each of its steps keeps. -/
theorem foldl_keeps {α β : Type} (P : β → Prop) (f : β → α → β) (l : List α) (b : β) (hb : P b)
    (h : ∀ x, x ∈ l → ∀ c, P c → P (f c x)) : P (l.foldl f b) := by
  induction l generalizing b with
  | nil => exact hb
  | cons a l ih =>
    exact ih _ (h a List.mem_cons_self _ hb) fun x hx => h x (List.mem_cons_of_mem _ hx)

/-! ## Words -/

@[simp] theorem State.modMem_mem (s : State) (f : Memory → Memory) : (s.modMem f).mem = f s.mem := rfl

/-- Remembering what a clear cycle writes touches the clears alone. -/
theorem Memory.keepWord_rest (m : Memory) (u a : Nat) : ∃ c, m.keepWord u a = { m with clears := c } := by
  unfold Memory.keepWord
  split
  · split
    · exact ⟨_, rfl⟩
    · exact ⟨m.clears, rfl⟩
  · exact ⟨m.clears, rfl⟩

@[simp] theorem Memory.keepWord_words (m : Memory) (u a : Nat) : (m.keepWord u a).words = m.words := by
  obtain ⟨c, h⟩ := m.keepWord_rest u a; rw [h]
@[simp] theorem Memory.keepWord_marks (m : Memory) (u a : Nat) : (m.keepWord u a).marks = m.marks := by
  obtain ⟨c, h⟩ := m.keepWord_rest u a; rw [h]
@[simp] theorem Memory.keepWord_dram (m : Memory) (u a : Nat) : (m.keepWord u a).dram = m.dram := by
  obtain ⟨c, h⟩ := m.keepWord_rest u a; rw [h]
@[simp] theorem Memory.keepWord_dramMarks (m : Memory) (u a : Nat) : (m.keepWord u a).dramMarks = m.dramMarks := by
  obtain ⟨c, h⟩ := m.keepWord_rest u a; rw [h]
@[simp] theorem Memory.keepWord_borrow (m : Memory) (u a : Nat) : (m.keepWord u a).borrow = m.borrow := by
  obtain ⟨c, h⟩ := m.keepWord_rest u a; rw [h]

/-- Where a word stands follows from the borrowed windows alone. -/
theorem State.home_congr {s t : State} (h : t.mem.borrow = s.mem.borrow) (key : Nat) : t.home key = s.home key := by
  unfold State.home State.borrowed; rw [h]

@[simp] theorem State.home_putWord (s : State) (key k : Nat) (w : BitVec 64) : (s.putWord key w).home k = s.home k :=
  State.home_congr (by simp [State.putWord]) k

@[simp] theorem State.home_mark (s : State) (key k : Nat) (e : Ecc) : (s.mark key e).home k = s.home k :=
  State.home_congr rfl k

/-- Two bank or cache words do not stand in one place (R336). -/
theorem State.home_ne (s : State) {key k : Nat} (hk : k < 2 ^ 27) (hkey : key < 2 ^ 27) (h : k ≠ key) : s.home k ≠ s.home key := by
  unfold State.home
  by_cases a : s.borrowed k = true <;> by_cases b : s.borrowed key = true <;> simp only [a, b, if_true, if_false, Bool.false_eq_true]
  · intro e
    unfold saveKey at e
    have hu : k / 2 ^ 20 = key / 2 ^ 20 := by omega
    unfold State.borrowed at a b
    rw [hu] at a
    cases hm : mfind s.mem.borrow (key / 2 ^ 20) with
    | none => rw [hm] at b; cases b
    | some x =>
      rw [hm] at a b
      simp only [beq_iff_eq] at a b
      omega
  · unfold saveKey; omega
  · unfold saveKey; omega
  · exact h

/-- A word reads as it was put. -/
@[simp] theorem State.word_putWord_same (s : State) (key : Nat) (w : BitVec 64) : (s.putWord key w).word key = w := by
  show mget 0 (s.putWord key w).mem.words ((s.putWord key w).home key) = w
  rw [State.home_putWord]
  exact mget_mins_same _ _ _ _

/-- A word that stands elsewhere reads as before. -/
theorem State.word_putWord_of_home (s : State) {key k : Nat} (w : BitVec 64) (h : s.home k ≠ s.home key) :
    (s.putWord key w).word k = s.word k := by
  show mget 0 (s.putWord key w).mem.words ((s.putWord key w).home k) = mget 0 s.mem.words (s.home k)
  rw [State.home_putWord]
  exact mget_mins_ne _ _ _ h

/-- Every other word reads as before. -/
theorem State.word_putWord_ne (s : State) {key k : Nat} (w : BitVec 64) (hk : k < 2 ^ 27) (hkey : key < 2 ^ 27) (h : k ≠ key) :
    (s.putWord key w).word k = s.word k := s.word_putWord_of_home w (s.home_ne hk hkey h)

/-- A mark changes no word. -/
@[simp] theorem State.word_mark (s : State) (key k : Nat) (e : Ecc) : (s.mark key e).word k = s.word k := rfl

theorem State.mark_wf {s : State} (key : Nat) (e : Ecc) (h : s.mem.wf = true) : (s.mark key e).mem.wf = true := by
  rw [Memory.wf_iff] at h ⊢
  exact ⟨h.1, mwf_mput _ _ _ _ h.2.1, h.2.2⟩

theorem State.putWord_wf {s : State} (key : Nat) (w : BitVec 64) (h : s.mem.wf = true) : (s.putWord key w).mem.wf = true := by
  rw [Memory.wf_iff] at h ⊢
  simp only [State.putWord, State.modMem_mem, Memory.keepWord_marks, Memory.keepWord_dram, Memory.keepWord_dramMarks]
  exact ⟨mrise_mins _ _ _ _ (Nat.zero_le _) h.1, h.2⟩

theorem State.suffer_wf {s : State} (errs : List (Nat × Flaw)) (key : Nat) (h : s.mem.wf = true) : (s.suffer errs key).mem.wf = true := by
  unfold State.suffer; dsimp only
  split
  · exact h
  · exact State.putWord_wf _ _ h

theorem State.putDram_wf {s : State} (w : Nat) (v : BitVec 64) (e : Ecc) (h : s.mem.wf = true) :
    (s.putDram w v e).mem.wf = true := by
  rw [Memory.wf_iff] at h ⊢
  exact ⟨h.1, h.2.1, mwf_mput _ _ _ _ h.2.2.1, mwf_mput _ _ _ _ h.2.2.2⟩

theorem State.storePoison_wf {s : State} (key : Nat) (w : BitVec 64) (h : s.mem.wf = true) :
    (s.storePoison key w).mem.wf = true :=
  State.mark_wf _ _ (State.putWord_wf _ _ h)

theorem State.dropLine_wf {s : State} (line : Nat) (h : s.mem.wf = true) : (s.dropLine line).mem.wf = true := by
  rw [Memory.wf_iff] at h ⊢
  exact ⟨mrise_filter _ _ _ h.1, mwf_filter _ _ _ h.2.1, h.2.2⟩

/-! ## What reports leave of memory -/

@[simp] theorem State.addF_mem (s : State) (x : Fld) (n : Nat) : (s.addF x n).mem = s.mem := rfl

@[simp] theorem State.incF_mem (s : State) (x : Fld) : (s.incF x).mem = s.mem := rfl

@[simp] theorem State.report_mem (s : State) (off : Nat) (l : List (Fld × Nat)) : (s.report off l).mem = s.mem := rfl

@[simp] theorem State.reportIn_mem (s : State) (off cycle rank : Nat) (l : List (Fld × Nat)) :
    (s.reportIn off cycle rank l).mem = s.mem := by
  unfold State.reportIn; dsimp only; split <;> rfl

@[simp] theorem State.reportLow_mem (s : State) (off rank : Nat) (l : List (Fld × Nat)) : (s.reportLow off rank l).mem = s.mem :=
  s.reportIn_mem off s.tl.fc rank l

@[simp] theorem State.memReport_mem (s : State) (key : Nat) (u : Bool) (found : Nat) (lost : Bool) :
    (s.memReport key u found lost).mem = s.mem := by
  simp [State.memReport]

@[simp] theorem State.snapDirty_mem (s : State) (b : Bool) : (s.snapDirty b).mem = s.mem := by
  unfold State.snapDirty; split <;> rfl

/-! ## Reading through the code -/

theorem State.queueWriteBack_wf {s : State} (key : Nat) (h : s.mem.wf = true) : (s.queueWriteBack key).mem.wf = true := by
  unfold State.queueWriteBack; dsimp only
  split
  · exact h
  · split
    · exact Memory.wf_congr h rfl rfl rfl rfl
    · simpa using h

theorem State.readCorr_wf {s : State} (key found : Nat) (h : s.mem.wf = true) : (s.readCorr key found).mem.wf = true := by
  simp only [State.readCorr, State.countCorr, State.raise_mem, State.memReport_mem, State.incF_mem]
  exact State.mark_wf _ _ h

theorem State.readUncorr_wf {s : State} (key found : Nat) (h : s.mem.wf = true) : (s.readUncorr key found).mem.wf = true := by
  simp only [State.readUncorr, State.countUncorr, State.raise_mem, State.memReport_mem, State.incF_mem]
  exact State.mark_wf _ _ h

theorem State.meetWord_wf {s : State} (e : Ecc) (key : Nat) (h : s.mem.wf = true) : (s.meetWord e key).mem.wf = true := by
  cases e
  · exact h
  · exact State.queueWriteBack_wf _ (State.readCorr_wf _ _ h)
  · exact State.readUncorr_wf _ _ h

theorem State.readWord_wf {s : State} (errs : List (Nat × Flaw)) (key : Nat) (h : s.mem.wf = true) :
    (s.readWord errs key).2.2.mem.wf = true :=
  State.meetWord_wf _ _ (State.suffer_wf _ _ h)

theorem State.countCorr_wf {s : State} (key found : Nat) (h : s.mem.wf = true) : (s.countCorr key found).mem.wf = true := by
  simpa only [State.countCorr, State.raise_mem, State.memReport_mem, State.incF_mem] using h

theorem State.countUncorr_wf {s : State} (key found : Nat) (h : s.mem.wf = true) : (s.countUncorr key found).mem.wf = true := by
  simpa only [State.countUncorr, State.raise_mem, State.memReport_mem, State.incF_mem] using h

theorem State.readB_wf {s : State} (errs : List (Nat × Flaw)) (key : Nat) (h : s.mem.wf = true) :
    (s.readB errs key).2.2.mem.wf = true := by
  unfold State.readB
  split
  · dsimp only
    split
    · exact h
    · exact State.countCorr_wf _ _ h
    · exact State.countUncorr_wf _ _ h
  · exact State.readWord_wf _ _ h

theorem State.readBeat_wf {s : State} (errs : List (Nat × Flaw)) (base : Nat) (h : s.mem.wf = true) :
    (s.readBeat errs base).2.2.mem.wf = true :=
  foldl_keeps (fun b : List (BitVec 64) × Nat × State => b.2.2.mem.wf = true) _ _ _ h
    fun _ _ _ hc => State.readWord_wf _ _ hc

/-! ## Storing -/

theorem State.storeWord_wf {s : State} (errs : List (Nat × Flaw)) (key : Nat) (w : BitVec 64) (be : Nat) (h : s.mem.wf = true) :
    (s.storeWord errs key w be).2.mem.wf = true := by
  unfold State.storeWord; dsimp only
  split
  · exact h
  · split
    · exact State.putWord_wf _ _ (Memory.wf_congr (State.mark_wf key .clean h) rfl rfl rfl rfl)
    · have g := State.suffer_wf errs key h
      split
      · exact State.mark_wf _ _ g
      · exact State.putWord_wf _ _ (Memory.wf_congr (State.mark_wf key .clean g) rfl rfl rfl rfl)

theorem State.storeHalf_wf {s : State} (key w : Nat) (high : Bool) (h : s.mem.wf = true) : (s.storeHalf key w high).mem.wf = true :=
  State.storeWord_wf _ _ _ _ h

theorem State.writeBeat_wf {s : State} (errs : List (Nat × Flaw)) (base : Nat) (ws : List (BitVec 64)) (be : Nat)
    (h : s.mem.wf = true) : (s.writeBeat errs base ws be).2.mem.wf = true :=
  foldl_keeps (fun b : Bool × State => b.2.mem.wf = true) _ _ _ h fun _ _ _ hc => State.storeWord_wf _ _ _ _ hc

theorem State.hostStore_wf {s : State} (errs : List (Nat × Flaw)) (p : Bool) (key : Nat) (w : BitVec 64) (be : Nat)
    (h : s.mem.wf = true) : (s.hostStore errs p key w be).mem.wf = true := by
  unfold State.hostStore; dsimp only
  split
  · exact h
  · split
    · exact State.readUncorr_wf _ _ (State.storeWord_wf _ _ _ _ h)
    · split
      · exact State.mark_wf _ _ (State.storeWord_wf _ _ _ _ h)
      · exact State.storeWord_wf _ _ _ _ h

theorem State.clearWords_wf {s : State} (n : Nat) (keep : List Nat) (h : s.mem.wf = true) : (s.clearWords n keep).mem.wf = true := by
  unfold State.clearWords; dsimp only
  rw [State.snapDirty_mem, Memory.wf_iff]
  rw [Memory.wf_iff] at h
  exact ⟨mrise_filter _ _ _ h.1, mwf_filter _ _ _ h.2.1, h.2.2⟩

theorem State.askClear_wf {s : State} (n : Nat) (h : s.mem.wf = true) : (s.askClear n).mem.wf = true :=
  Memory.wf_congr h rfl rfl rfl rfl

theorem State.clearCycle_wf {s : State} (n : Nat) (h : s.mem.wf = true) : (s.clearCycle n).mem.wf = true := by
  unfold State.clearCycle
  split
  · split
    · exact Memory.wf_congr h rfl rfl rfl rfl
    · exact State.clearWords_wf _ _ h
  · exact h

/-! ## Save buffers (R336, R337) -/

theorem State.takeWindow_wf {s : State} (u : Nat) (b : Borrow) (h : s.mem.wf = true) : (s.takeWindow u b).mem.wf = true := by
  rw [Memory.wf_iff] at h ⊢
  exact ⟨mrise_mmove _ _ _ _ h.1, mwf_mmove _ _ _ _ _ h.2.1, h.2.2⟩

theorem State.returnWindow_wf {s : State} (u : Nat) (h : s.mem.wf = true) : (s.returnWindow u).mem.wf = true := by
  unfold State.returnWindow
  split
  · rw [Memory.wf_iff] at h ⊢
    exact ⟨mrise_filter _ _ _ (mrise_mmove _ _ _ _ h.1), mwf_filter _ _ _ (mwf_mmove _ _ _ _ _ h.2.1), h.2.2⟩
  · exact h

theorem State.returnWindows_wf {s : State} (h : s.mem.wf = true) : s.returnWindows.mem.wf = true :=
  foldl_keeps (fun t : State => t.mem.wf = true) _ _ _ h fun _ _ _ ht => State.returnWindow_wf _ ht

/-! ## Lines of the shared cache -/

theorem State.checkTags_wf {s : State} (errs : List (Nat × Flaw)) (a found : Nat) (h : s.mem.wf = true) :
    (s.checkTags errs a found).mem.wf = true := by
  unfold State.checkTags
  refine foldl_keeps (fun t : State => t.mem.wf = true) _ _ _ h fun w _ t ht => ?_
  dsimp only
  split
  · split
    · exact ht
    · exact State.queueWriteBack_wf _ (State.readCorr_wf _ _ ht)
    · split
      · exact State.dropLine_wf _ (by simpa using ht)
      · exact State.dropLine_wf _ (State.readUncorr_wf _ _ ht)
  · exact ht

theorem State.useLine_wf {s : State} (l : Nat) (dirty : Bool) (h : s.mem.wf = true) : (s.useLine l dirty).mem.wf = true := by
  unfold State.useLine
  split
  · exact Memory.wf_congr h rfl rfl rfl rfl
  · exact h

theorem State.cleanLine_wf {s : State} (l : Nat) (h : s.mem.wf = true) : (s.cleanLine l).mem.wf = true := by
  unfold State.cleanLine
  split
  · split
    · exact State.modMem_wf _ (fun _ => ⟨rfl, rfl, rfl, rfl⟩)
        (foldl_keeps (fun t : State => t.mem.wf = true) _ _ _ h fun _ _ _ ht => State.putDram_wf _ _ _ ht)
    · exact h
  · exact h

theorem State.evict_wf {s : State} (l : Nat) (h : s.mem.wf = true) : (s.evict l).mem.wf = true := by
  unfold State.evict
  split
  · exact h
  · exact State.dropLine_wf _ (State.cleanLine_wf _ h)

theorem State.fillLine_wf {s : State} (a master : Nat) (errs : List (Nat × Flaw)) (h : s.mem.wf = true) :
    (s.fillLine a master errs).2.mem.wf = true := by
  unfold State.fillLine; dsimp only
  refine State.modMem_wf _ (fun _ => ⟨rfl, rfl, rfl, rfl⟩)
    (foldl_keeps (fun t : State => t.mem.wf = true) _ _ _ (State.evict_wf _ h) fun w _ t ht => ?_)
  exact State.mark_wf _ _ (State.putWord_wf _ _ ht)

theorem State.dropIfBad_wf {s : State} (l bad : Nat) (h : s.mem.wf = true) : (s.dropIfBad l bad).mem.wf = true := by
  unfold State.dropIfBad
  split
  · exact State.dropLine_wf _ h
  · exact h

theorem State.cmoSet_wf {s : State} (op base : Nat) (h : s.mem.wf = true) : (s.cmoSet op base).mem.wf = true := by
  unfold State.cmoSet
  refine foldl_keeps (fun t : State => t.mem.wf = true) _ _ _ h fun l _ t ht => ?_
  split
  · exact State.cleanLine_wf _ ht
  · split
    · exact State.evict_wf _ ht
    · exact State.dropLine_wf _ ht

theorem State.cmoCycle_wf {s : State} (u : Nat) (h : s.mem.wf = true) : (s.cmoCycle u).mem.wf = true := by
  unfold State.cmoCycle; dsimp only
  split
  · exact Memory.wf_congr (State.cmoSet_wf _ _ h) rfl rfl rfl rfl
  · exact h

/-! ## Beats, queue entries, ring records -/

theorem State.setHeadReq_wf {s : State} (key : Nat) (r : Req) (h : s.mem.wf = true) : (s.setHeadReq key r).mem.wf = true :=
  Memory.wf_congr h rfl rfl rfl rfl

theorem State.usePortA_wf {s : State} (n w wrote : Nat) (h : s.mem.wf = true) : (s.usePortA n w wrote).mem.wf = true :=
  Memory.wf_congr h rfl rfl rfl rfl

theorem State.bankBeat_wf {s : State} (errs : List (Nat × Flaw)) (n id key : Nat) (r : Req) (h : s.mem.wf = true) :
    (s.bankBeat errs n id key r).mem.wf = true := by
  unfold State.bankBeat; dsimp only
  split
  · exact State.setHeadReq_wf _ _ (State.writeBeat_wf _ _ _ _ (State.usePortA_wf _ _ _ h))
  · exact State.setHeadReq_wf _ _ (State.readBeat_wf _ _ (State.usePortA_wf _ _ _ h))

theorem State.lineBeat_wf {s : State} (errs : List (Nat × Flaw)) (l lat id key : Nat) (r : Req) (h : s.mem.wf = true) :
    (s.lineBeat errs l lat id key r).mem.wf = true := by
  unfold State.lineBeat; dsimp only
  split
  · exact State.setHeadReq_wf _ _ (State.writeBeat_wf _ _ _ _ (State.useLine_wf _ _ h))
  · exact State.setHeadReq_wf _ _ (State.dropIfBad_wf _ _ (State.readBeat_wf _ _ (State.useLine_wf _ _ h)))

theorem State.lookUp_wf {s : State} (errs : List (Nat × Flaw)) (u a : Nat) (count : Bool) (h : s.mem.wf = true) :
    (s.lookUp errs u a count).2.mem.wf = true := by
  have g : ((s.useSlice u).checkTags errs a 0).mem.wf = true :=
    State.checkTags_wf errs a 0 (s := s.useSlice u) (Memory.wf_congr h rfl rfl rfl rfl)
  unfold State.lookUp; dsimp only
  split
  · split
    · rw [State.incF_mem]; exact g
    · exact g
  · rw [State.incF_mem]; exact g

theorem State.abortCount_mem (s : State) (layer f : Nat) : (s.abortCount layer f).mem = s.mem := by
  simp [State.abortCount]

theorem State.sliceBeat_wf {s : State} (errs : List (Nat × Flaw)) (u id key : Nat) (r : Req) (h : s.mem.wf = true) :
    (s.sliceBeat errs u id key r).mem.wf = true := by
  have g := State.lookUp_wf errs u (r.beatAddr - dramBase) (r.done == 0 && !r.filled) h
  unfold State.sliceBeat; dsimp only
  split
  · exact State.lineBeat_wf _ _ _ _ _ _ g
  · split
    · exact State.setHeadReq_wf _ _ (by rw [State.baseAbort, State.abortCount_mem]; exact g)
    · exact State.setHeadReq_wf _ _ g

theorem State.usePortB_wf {s : State} (bank n : Nat) (h : s.mem.wf = true) : (s.usePortB bank n).mem.wf = true :=
  Memory.wf_congr h rfl rfl rfl rfl

theorem State.keepOld_wf {s : State} (bank : Nat) (keys : List Nat) (h : s.mem.wf = true) : (s.keepOld bank keys).mem.wf = true :=
  Memory.wf_congr h rfl rfl rfl rfl

theorem State.writePart_wf {s : State} (r : Rewrite) (h : s.mem.wf = true) : (s.writePart r).mem.wf = true := by
  have g := foldl_keeps (fun t : State => t.mem.wf = true)
    (fun t w => (t.storeWord [] (entryKey r.queue (s.queue r.queue) ((s.queue r.queue).push + (r.at (s.queue r.queue)).1) + w)
      ((((r.batch[(r.at (s.queue r.queue)).1]?).getD { words := [], sof := false, poison := false }).words[w]?).getD 0) 255).2)
    (r.places (s.queue r.queue)) _ (State.keepOld_wf (r.queue / 1024) (r.keys (s.queue r.queue)) h)
    fun _ _ _ ht => State.storeWord_wf _ _ _ _ ht
  unfold State.writePart; dsimp only
  split
  · exact State.storeHalf_wf _ _ _ g
  · exact g

theorem State.readMeta_wf {s : State} (errs : List (Nat × Flaw)) (q n : Nat) (h : s.mem.wf = true) :
    (s.readMeta errs q n).2.2.mem.wf = true :=
  State.readB_wf _ _ h

theorem State.ringBytes_wf {s : State} (pos : Nat) (bytes : List Byte) (h : s.mem.wf = true) :
    (s.ringBytes pos bytes).mem.wf = true :=
  foldl_keeps (fun t : State => t.mem.wf = true) _ _ _ h fun _ _ _ ht => State.putDram_wf _ _ _ ht

/-! ## Losing contents -/

theorem State.emptyCache_wf {s : State} (h : s.mem.wf = true) : s.emptyCache.mem.wf = true := by
  rw [Memory.wf_iff] at h ⊢
  exact ⟨mrise_filter _ _ _ h.1, mwf_filter _ _ _ h.2.1, h.2.2⟩

theorem State.emptyPorts_wf {s : State} (h : s.mem.wf = true) : s.emptyPorts.mem.wf = true :=
  Memory.wf_congr h rfl rfl rfl rfl

end Sys2Proof.Machine
end

