-- ==== Sys2Proof/Machine/Pins.lean ====
section
/-!
DEFINITION. Sys2Proof/Machine/Pins.lean: the levels the part drives on its pins, from power-on reset on (R376, R494, R518,
R519, R237, R239, R597). They are functions of the state; no command reads them.
-/
namespace Sys2Proof.Machine
open Sys2Proof

/-- What an LVCMOS pin does: off with its supply, disabled with a weak pull, driven to a level, or driven by the fabric with the
drive, slew and pull its setting names. -/
inductive PinState where
  | off
  | pullDown
  | pullUp
  | drive (level : Bool)
  | fabric (strength : Nat) (slow : Bool) (pull : Nat)
  deriving DecidableEq, Repr

/-- The safe state of a GP pin that CFG_GPSAFEw names (Table 14-10). -/
def State.safePin (s : State) (n : Fin 64) : PinState :=
  match nbits (s.reg (Rg.CFG_GPSAFE (n.val / 16))).toNat (2 * (n.val % 16)) 2 with
  | 0 => .pullDown
  | 1 => .pullUp
  | 2 => .drive false
  | _ => .drive true

/-- The first setting byte of a GP pin (Table 14-5). -/
def State.pinByte (s : State) (n : Fin 64) : Nat := (mget 0 s.fab.io (512 * (n.val / 16) + 256 + 4 * (n.val % 16))).toNat

/-- VDD_IO is above its reset level: below it every LVCMOS output is disabled and every pull is off (R597). -/
def State.ioOn (s : State) : Bool := s.railOk 2

/-- An output that drives a level while VDD_IO lasts. -/
def State.outPin (s : State) (level : Bool) : PinState := if s.ioOn then .drive level else .off

/-- A GP pin: off without VDD_IO, weakly pulled down until the settings load, safe until commit, driven by the fabric after
it where the image uses it (R376, R597, Table 20-4). -/
def State.gpPin (s : State) (n : Fin 64) : PinState :=
  if s.ioOn = false then .off
  else if s.pwr.booted = false then .pullDown
  else if s.b F.CFG_STATUS_DONE = true ∧ nbits (s.pinByte n) 0 1 = 1 then
    .fabric ([2, 4, 8, 12].getD (nbits (s.pinByte n) 1 2) 2) (nbits (s.pinByte n) 3 1 == 1) (nbits (s.pinByte n) 4 2)
  else s.safePin n

/-- DONE is high (Table 20-4). -/
def State.donePin (s : State) : PinState := s.outPin (s.b F.CFG_STATUS_DONE)

/-- ALERT_N is low while asserted (R518). -/
def State.alertPin (s : State) : Bool := !s.b F.EVT_STAT_ALERT

/-- FAULT_N is low while FAULT is 1, and until the management firmware runs (R519). -/
def State.faultPin (s : State) : Bool := !s.faultLow

/-- PPS_OUT is high (R239). -/
def State.ppsPin (s : State) : PinState := s.outPin (decide (s.tl.fc < s.tl.ppsLow))

/-- SYSREF_OUT[i] is high (R237). -/
def State.sysrefPin (s : State) (i : Fin 4) : PinState := s.outPin (s.sysrefHigh i)

end Sys2Proof.Machine
end

