-- ==== Sys2Proof/WellFormed.lean ====
section
/-!
DEFINITION. Sys2Proof/WellFormed.lean: what the spec says of the data a command brings: lengths, alignments, ranges, and lists
that name a thing once. A meaning answers on every command; a sender keeps to these.
-/
namespace Sys2Proof

/-- A list that names nothing twice. -/
def noRepeat {α : Type} [DecidableEq α] : List α → Bool
  | [] => true
  | a :: l => !l.contains a && noRepeat l

/-- A list of keyed entries with no key twice: a code finds one thing in a word. -/
def distinctKeys {α : Type} (l : List (Nat × α)) : Bool := noRepeat (l.map (fun e => e.1))

/-- A word in which a code finds nothing is delivered as it was stored (R322). -/
def Flaw.wf (e : Flaw) : Bool := e.ecc != .clean || e.wrong == 0

/-- What codes find in words an access reads: one thing in each. -/
def errsOk (l : List (Nat × Flaw)) : Bool := distinctKeys l && l.all (fun e => e.2.wf)

/-- An access of the buses is of 1, 2, 4 or 8 bytes (R14). -/
def Access.wf (a : Access) : Bool := a.size == 1 || a.size == 2 || a.size == 4 || a.size == 8

/-- A request of a vertical port: one or two 64-byte beats, aligned to their own length; a write brings eight words for each beat
and a read none; byte enables cover no more than the beats, and a read has none (R276). -/
def MemReq.wf (r : MemReq) : Bool :=
  (r.beats == 1 || r.beats == 2) && r.addr % (64 * r.beats) == 0 && decide (r.be < 2 ^ (64 * r.beats))
    && (if r.write then r.data.length == 8 * r.beats else r.data.isEmpty && r.be == 0)

/-- A push brings the words of an entry of 16, 32, 64 or 128 bytes (R296). -/
def QueueOp.wf : QueueOp → Bool
  | .push entry _ _ => [2, 4, 8, 16].contains entry.length
  | .pop => true

/-- A received frame holds both addresses and a type, and its header arrives after its first byte (R306, R311). -/
def RxFrame.wf (x : RxFrame) : Bool := decide (14 ≤ x.bytes.length) && decide (x.hdrAge ≤ x.age)

/-- A source that returns words returns at least one (R369). -/
def SrcRead.wf : SrcRead → Bool
  | .words l => !l.isEmpty
  | .ended | .flashErr | .hostErr | .linkFail _ => true

/-- A poisoned word lies within the bytes returned (R458). -/
def HostRead.wf (r : HostRead) : Bool := r.poisoned.all (fun i => decide (8 * i < r.bytes.length))

/-- A browse engine reads a parity group of a plane that exists. -/
def BrowseAt.wf : BrowseAt → Bool
  | .plane _ _ _ group => decide (group < 2 ^ 17)
  | .slot _ | .mem _ | .coef _ | .pgm _ _ => true

/-- The data a command brings is as the spec says it is. -/
def Instr.wf : Instr → Bool
  | .plainWrite a => a.wf
  | .upset _ _ _ group flip => decide (group < 2 ^ 17) && flip != 0
  | .planeUpset _ _ _ group found => decide (group < 2 ^ 17) && found.wf
  | .refillComplete _ _ _ errs => errsOk errs
  | .hcoefGroupWrite _ _ errs => errsOk errs
  | .departure _ _ errs => errsOk errs
  | .shaftCorr _ _ flip => flip != 0
  | .vlCorr _ _ flip => flip != 0
  | .portRequest _ _ r => r.wf
  | .performCycle _ _ errs => errsOk errs
  | .bar2Read _ _ len errs => decide (0 < len) && errsOk errs
  | .bar2Write _ _ data _ errs => !data.isEmpty && errsOk errs
  | .lineFill _ errs => errsOk errs
  | .queueRequest _ _ _ op => op.wf
  | .frame _ x => x.wf
  | .qcHol _ errs => errsOk errs
  | .browseRead at_ found => at_.wf && found.wf
  | .borrow _ errs => errsOk errs
  | .grazeWriteBack _ failed => noRepeat failed
  | .powerUpLaneTest bad shaft bond => noRepeat bad && noRepeat shaft && distinctKeys bond
  | .header r => r.wf
  | .registerWrite r => r.wf
  | .frameBlock r => r.wf
  | .noOp r => r.wf
  | .fill r => r.wf
  | .endPacket r => r.wf
  | .restore _ _ r => r.wf
  | .readbackFrame errs => errsOk errs
  | .sensorSample l => noRepeat (l.map (fun e => e.1))
  | .receiveMultiblock _ _ crc => decide (crc < 2 ^ 12)
  | .transmitMultiblock _ errs => errsOk errs
  | .hostToQueue _ _ r => r.wf
  | .hostToMla _ _ r _ => r.wf
  | .ddrTraining failed => noRepeat failed
  | .refreshRateRead rates => noRepeat (rates.map (fun e => e.1))
  | .sensorRun _ _ bad => noRepeat bad
  | .brownoutStart _ mv => decide (mv < 2 ^ 16)
  | .brownoutWarn _ mn mv _ => decide (mn ≤ mv) && decide (mv < 2 ^ 16)
  | .railReset _ mv => decide (mv < 2 ^ 16)
  | .railAboveReset _ mv => decide (mv < 2 ^ 16)
  | .tlAtLo _ | .recRddata _ | .sfnCycleWrap | .frameBoundary _ | .setResetRelease | .regionalSetResetRelease _ _
  | .shaftSwap _ _ | .correctionWindow | .vlShclr _ _ | .eccPuclr _ _ | .eccHcclr _ _
  | .waitat _ _ _ | .waitatr _ _ _ _ | .waitrel _ _ _ | .align _ _ _ _ | .timelineWaitEnd _ | .prefetch _ _ _
  | .switch _ _ _ | .switchStall _ | .pendingAlt _ | .flopsel _ _ _ | .capture _ _ _ | .br _ _ _ | .brc _ _ _ _
  | .call _ _ _ | .ret _ _ | .loop _ _ _ _ | .halt _ _ | .nop _ _ | .programWriteBack _ _ | .movi _ _ _ _
  | .add _ _ _ _ _ | .sub _ _ _ _ _ | .and _ _ _ _ _ | .or _ _ _ _ _ | .xor _ _ _ _ _ | .shl _ _ _ _ _
  | .shr _ _ _ _ _ _ | .cmp _ _ _ _ | .movs _ _ _ _ | .qpush _ _ _ _ | .qpop _ _ _ _ | .seqPortAccess _ _ _ _
  | .qwait _ _ _ _ | .qwaitEnd _ | .hcoef _ _ _ _ _ _ _ | .raise _ _ _ _ _ | .log _ _ _ _ _ _ | .evclr _ _ _
  | .barrier _ _ _ _ | .barrierComplete _ | .barrierTimeout _ | .signal _ _ _ | .wait _ _ _ | .flagWaitEnd _
  | .waitTimeout _ | .start _ _ _ | .seqStarted _ | .stop _ _ _ | .operandSet _ _ _ _ _ | .hornResult _ _ _
  | .coefficientWriteBack _ _ _ _ | .release _ _ | .reltoTimeout | .rebase _ _ | .atCopyCorr _ _ | .tlDepcfg _ _
  | .tlSysctl _ _ _ | .sysrefPulse _ | .ppsPulse | .rinomTick _ | .modelSample _ _ | .tkModelRefit | .modelLogWrite
  | .leapSecond | .rinomReset | .rinomWatchdog | .ppsIn _ | .zda _ _ | .info _ _ | .attest _ _ | .getKey _ _
  | .setRef _ _ | .setLock _ _ | .setAsym _ _ | .setLeap _ _ | .force _ _ | .setTime _ _ _ | .setModel _ _
  | .modelRead _ _ | .modelReset _ _ | .logRead _ _ | .setTod _ _ | .tkMbDone | .portResponse _ _
  | .collidedRewrite _ | .owner _ _ _ | .memOwnerDone _ | .bankClear _ _ _ | .flush _ | .flushinv _ | .invalidate _
  | .memCmoDone | .rotationReset | .alloc _ _ | .free _ _ _ | .push _ _ _ | .publish _ | .pop _ _ _
  | .flowTableWrite _ _ | .flowTableRead _ _ | .writeBack _ | .slotWriteBack _ | .browsePass _ | .browseLate _
  | .eccSradd _ _ | .vlSwap _ _ | .vlPhaseWarn _ _ | .vlFifoSlip _ | .vlRetry _ _ | .drainEnd _
  | .vlFenceDone _ | .load _ _ | .abort _ _ | .boot | .verify _ _ _ | .check _ | .stageTimeout | .erase _ _
  | .program _ _ _ | .cfgFlashDone _ | .read _ _ | .readbackAbort _ _ | .cfgRbDone | .arm _ _ | .disarm _ _
  | .captureRelease _ _ | .armTarget | .clkTrip _ | .foscReady | .clkDegraded | .sourceGood _ | .dividerRampStep _
  | .primary _ _ _ | .gateOpen _ _ _ | .gateRequest _ _ _ | .gateClose _ | .clkGateForced _ | .thermGradient _
  | .restart _ _ | .portEnable _ _ _ | .fhLinkUp _ | .fhLinkDown _ _ | .lagMemberActive _ | .jesdEnable _ _ _
  | .jesdLinkUp _ | .jesdLinkDown _ | .perstN _ | .pcieLinkUp | .pcieLinkDown | .flr _ | .devDmaTail _ _ _
  | .ddrRetrain _ _ | .trstN _ | .bypass | .idcode | .samplePreload _ | .extest | .clamp | .highz | .smbDevId
  | .smbThermBand | .smbTemperature | .smbStatus | .smbTlTee | .adaptationRequest _ _ _ | .adaptationRun _ _ _
  | .eyeUpdate _ _ _ | .sensorRunRequest _ _ | .sensorRunStart _ _ | .porN _ | .srstN _ | .sys _ _ _ | .fabric _ _
  | .mgmt _ _ | .mgmtWdog _ _ | .enter _ _ | .pwrReady | .exit _ _ | .wake | .pwrWake | .pwrBoot | .stackStart
  | .optimeStore | .eventCycle | .eventInputLatch _ | .evtPend _ _ _ | .recordWrite | .freeze _ | .thaw _
  | .recFreezeEnd | .nonce _ | .nonceExpiry | .clear _ _ | .recCleared | .vtTimeout _ | .busTimeout _ _ _
  | .pcieCompletionTimeout _ | .devWdkick _ _ | .devWdog _ _ | .startCapture _ _ | .rplFreeze _ _ | .rplTrigger
  | .rplFrozen | .rplGap | .crcPeriod | .rplSnapDone _ | .replayEnter _ _ | .replayStart | .injection
  | .replayExit _ _ | .store _ _ | .nvsStored _ | .nvsIval _ _ | .progkey _ _ _ | .advance _ _ | .srClear _
  | .lifecycle _ _ | .revoke _ _ | .addKey _ _ | .settingsDefault _ | .patch _ | .fcBoundary | .illegal _ _ _
  | .snapshotTimeout | .msixUnmask _ | .queueToHost _ _ _ | .mlaToHost _ _ _ => true

end Sys2Proof
end

