-- ==== Sys2Proof/Tests/Slice0.lean ====
section
/-!
SUPPORT. Sys2Proof/Tests/Slice0.lean: this model's own tests: ill-formed commands are refused, every statement's hypotheses are
met somewhere, and a few single steps.
-/
namespace Sys2Proof.Tests
open Sys2Proof Sys2Proof.Machine

set_option maxRecDepth 20000
set_option Elab.async false

/-! ## Small states -/

/-- Fields set one after another. -/
def put (s : State) (l : List (Fld × Nat)) : State := l.foldl (fun t e => t.setF e.1 e.2) s

/-- A part that runs: every rail and clock good, every gate open, the stack started, an epoch released, nothing configured. -/
def up : State :=
  put { State.reset with
    tl := { Timeline.reset with fc := 10000000, running := true, released := true, relFc := 1000, at34 := 8192, hfn := 3, epochs := 1 },
    fab := { Fabric.reset with gsr := false, torn := false },
    pwr := { Power.reset with fosc := true, foscGood := true, booted := true, stable := true, started := true, phyGood := true, perst := true,
                              held := 0, dark := 0, bootWait := false },
    pcieUp := true }
    ([(F.PWR_STAT_RAILOK, 0x7FF), (F.CLK_GATESTAT_OPEN 0, 0xFFFFFFFF), (F.CLK_GATESTAT_OPEN 1, 0x1FFFFF)]
      ++ (List.range 25).map (fun d => (F.CLK_DOM_SRC (d + 1), srcPrimary)))

/-- A running part whose sequencer `k` issues in the present fc, its state changed by `f`. -/
def seqUp (k : Fin 4) (f : Seq → Seq) : State :=
  up.modSeq k (fun q => f { q with mode := .running, next := 5, due := 10000000, sp := 8000 })

/-- A sequencer-0 program whose fault, ALT and first start entries exist (R153). -/
def withPgm (s : State) : State :=
  { s with fab := { s.fab with pgm := [(0, 0x8000000000000040), (1, 0x8000000000000080), (2, 0x8000000000000100)] } }

/-- An instruction word of Table 7-1. -/
def ins (op d a b imm : Nat) : Nat := op * 2 ^ 56 + d * 2 ^ 51 + a * 2 ^ 46 + b * 2 ^ 41 + imm

/-- A state with its fabric changed. -/
def fabIn (s : State) (f : Fabric → Fabric) : State := { s with fab := f s.fab }

/-- Sequencer `k` has `w` as its next word; its fault, ALT and first start entries exist (R153). -/
def withWord (s : State) (k : Fin 4) (w : Nat) : State :=
  fabIn s (fun x => { x with pgm := [(0, 0x8000000000000040), (1, 0x8000000000000080), (2, 0x8000000000000100),
    (5, BitVec.ofNat 64 w)].map (fun e => (65536 * k.val + e.1, e.2)) })

/-- Sequencer 0 is about to issue word `w`, its state changed by `f`. -/
def seqAt (w : Nat) (f : Seq → Seq) : State := withWord (seqUp 0 f) 0 w

/-- A state with its memory layer changed. -/
def memIn (s : State) (f : Memory → Memory) : State := { s with mem := f s.mem }

/-- A state with its power state changed. -/
def pwrIn (s : State) (f : Power → Power) : State := { s with pwr := f s.pwr }

/-- A state with its timeline changed. -/
def tlIn (s : State) (f : Timeline → Timeline) : State := { s with tl := f s.tl }

/-- An allocated queue of 16 entries of 64 bytes, its producer and consumer, and entries in it. -/
def mkQ (prod cons count : Nat) : Queue :=
  { queue0 with en := true, cfg := 2 * 2 ^ 29 + prod * 2 ^ 10 + cons, rbase := 0x100, mbase := 0x4000, count := count, push := count }

/-- The plane of a region of layer 0 replaced. -/
def planeIn (s : State) (p : Fin 4) (x : Plane) : State := s.setPlane 0 0 p x

/-- A one-beat request for the second beat of bank 1, or for the first of DRAM space. -/
def mkReq (write dram : Bool) : Req :=
  { write := write, addr := if dram then 0x8000000040 else 0x800040, beats := 1, data := if write then [1, 2, 3, 4, 5, 6, 7, 8] else [],
    be := 2 ^ 64 - 1, acc := 9999990, timer := 0, base := 49999970, done := 0, bad := 0, err := false, late := 0, held := none, fill := dram,
    filled := false, own := false, due := none, status := .ok, q := none, qres := 0, qmeta := 0 }

/-- Port 0 of layer 0 attached, bank 1 its layer's, with requests at it. -/
def portUp (rs : List Req) : State :=
  memIn (put (fabIn up (fun f => { f with io := [(0, 1)] })) [(F.MEM_BANK_STAT_CUROWNER 1, 0)])
    (fun m => { m with ports := if rs = [] then [] else [(0, { port0 with reqs := rs })] })

/-- Ethernet port 0 enabled at 10 Gb/s, its link up. -/
def fhUp : State :=
  put up [(F.FH_PORT_CFG_EN 0, 1), (F.FH_PORT_CFG_MODE 0, 1), (F.FH_PORT_CFG_MAXLEN 0, 1522), (F.FH_PORT_STAT_UP 0, 1)]

/-- A frame of an EtherType, its bytes after it padded to 46. -/
def frm (etype : Nat) (rest : List Byte) (fcsOk : Bool) : RxFrame :=
  { bytes := List.replicate 12 0 ++ beBytes 2 etype ++ rest ++ List.replicate (46 - rest.length) 0, fcsOk := fcsOk, other := false,
    age := 0, hdrAge := 0, frac := 0 }

/-- An eCPRI frame of revision 1, message type 0, PC_ID 3. -/
def ecpriFrame : RxFrame := frm 0xAEFE [0x10, 0, 0, 4, 0, 3, 0, 0] true

/-- Queue 5 of the layer's controller feeds `port`: one record of 40 bytes in one entry, with its departure time. -/
def recIn (s : State) (port time : Nat) : State :=
  memIn (s.setQueue 5 { mkQ 0x180 (0x280 + port) 1 with headAt := 5, push := 1 })
    (fun m => { m with words := [(0x20, BitVec.ofNat 64 (time % 2 ^ 32 + (40 * 2 ^ 16 + time / 2 ^ 32) * 2 ^ 32)), (0x22, 7), (0x800, 0x20000)] })

/-- Departures enabled at port 0, and a record for it. -/
def depUp (time : Nat) : State := recIn (put fhUp [(F.TL_DEPCFG_EN, 1), (F.TL_DEPCFG_LATETOL, 4)]) 0 time

/-- A JESD204C link 0 of one lane enabled and up, its generator's last pulse behind. -/
def linkUp (tx : Nat) : State :=
  tlIn (put up [(F.JESD_LINK_CFG_EN 0, 1), (F.JESD_LINK_CFG_RATE 0, 16), (F.JESD_LINK_CFG_TX 0, tx), (F.JESD_LINK_CFG_QUEUE 0, 5),
      (F.JESD_LINK_STAT_UP 0, 1)])
    (fun t => { t with sysref := t.sysref.set 0 { Sysref.reset with pulseAt := 1 } })

/-- A load from host memory at a stage, under its own settings. -/
def ldUp (stage : Nat) (f : Load → Load) : State :=
  { put up [(F.CFG_STATUS_STAGE, stage), (F.CFG_BOOT_FALLBACK, 0)] with ld := some (f (Load.fresh false false 0 1000 [])) }

/-- A part whose key slot 0 is provisioned. -/
def keyIn (s : State) : State := { s with fuse := { s.fuse with prov := s.fuse.prov.set 0 true, lcs := 1 } }

/-- The words of a header: DESC as given. -/
def hdr (magic desc : Nat) : List Word := [BitVec.ofNat 32 magic, 0x10000, 0x96, 0x196320B1, 300, BitVec.ofNat 32 desc, 0]

/-- A partial image for region 1 of layer 0, which has tile 0 alone: slot 1 written, checked, its settings given. -/
def partIn (setReset : Bool) : State :=
  let f (l : Load) : Load := { l with partl := true, region := 1, setReset := setReset, opt := some 1, frames := tileFrames 0 1 0 }
  put (ldUp 4 f) [(⟨Rg.CFG_RMAP 0 0, 0, 3⟩, 1)]

/-- Every frame of slot 0. -/
def fullFrames : List Nat := (List.range 4).flatMap (fun ly => (List.range 64).flatMap (tileFrames ly 0))

/-- A full image that writes slot 0 of every tile, and its checked state. -/
def fullIn : State :=
  ldUp 4 (fun l => { l with opt := some 1, rmap := some (List.replicate 32 0), frames := fullFrames })

/-- A signed command for this part, its signature good. -/
def tok (op slot cseq : Nat) (payload : List Byte) : Token :=
  { bytes := leBytes 4 0x444D4353 ++ leBytes 2 1 ++ leBytes 1 op ++ leBytes 1 slot ++ leBytes 8 0 ++ leBytes 4 cseq
      ++ leBytes 4 payload.length ++ leBytes 8 0 ++ payload ++ List.replicate (pad4 payload.length - payload.length) 0
      ++ List.replicate 1024 0,
    sigOk := true }

/-- A host DMA channel 0 with a descriptor to do. -/
def dmaUp : State := put up [(F.DEV_DMA_CTL_EN 0, 1), (F.DEV_DMA_CTL_SZ 0, 4), (F.DEV_DMA_TAIL_TAIL 0, 3)]

/-- What a descriptor does. -/
def head (op queue count : Nat) : DescHead := { w0 := BitVec.ofNat 32 (op * 2 ^ 28 + queue), w1 := BitVec.ofNat 32 count }

/-- A descriptor of an operation. -/
def desc (op queue count mla : Nat) : Desc := ⟨head op queue count, { haddr := 0x1000, mla := BitVec.ofNat 64 mla }⟩

/-- A short record. -/
def rcd0 (sev : Sev) : Rcd :=
  { sev := sev, type := 0x100, cls := 1, desc := true, src := 3, wall := none, time := none, last := 0, rep := 0, payload := [] }

/-- DRAM populated and trained, a ring of 1 GiB in it. -/
def ringUp : State :=
  put up ([(F.RPL_RING_SZ, 1)] ++ (List.range 16).map (fun n => (F.DDR_CH_STAT_TRAINED n, 1)))

/-- A snapshot that recorded nothing, of an fc of hyperframe 3. -/
def snap0 : Snapshot :=
  { time := 3 * 2 ^ 34 + 100, pos := 0, regions := [], caps := [], coef := [], queues := [], words := [], marks := [], image := 0, settings := 0 }

/-- The ring holds a record of 12 bytes and a mode runs; AT is the last fc of a period. -/
def ringIn (mode type w2 : Nat) : State :=
  let s := tlIn (put ringUp [(F.RPL_STAT_MODE, mode), (F.RPL_CRCCFG_EN, 1), (F.RPL_CRCCFG_PERIOD, 4096), (F.RPL_CRCQ_EN 0, 1)])
    (fun t => { t with at34 := 8191 })
  let n := if type = 5 then 12 else 68
  { memIn s (fun m => { m with dram := [(0, BitVec.ofNat 64 (8191 * 2 ^ 32 + type * 2 ^ 24 + n)),
      (1, BitVec.ofNat 64 (12 + if type = 5 then 0 else 5 * 2 ^ 32))] ++ (if w2 = 0 then [] else [(2, BitVec.ofNat 64 w2)]) })
    with rpl := { s.rpl with wr := 32 } }

/-- A delivered command of `len` bytes runs. -/
def secUp (len : Nat) : State := put (keyIn up) [(F.SEC_STAT_BUSY, 1), (F.SEC_CLEN_LEN, len)]

/-- A word without a mark is clean. -/
theorem unmarked (s : State) (h : s.mem.marks = []) (k : Nat) : s.foundAt [] k = .clean := by
  unfold State.foundAt
  rw [h]
  cases s.valid k <;> rfl

/-! ## The checks of a full image -/

/-- The frames of the full image are those of the tiles of four layers. -/
theorem mem_fullFrames (far : Nat) : far ∈ fullFrames ↔ ∃ ly ∈ List.range 4, ∃ t ∈ List.range 64, far ∈ tileFrames ly 0 t := by
  rw [fullFrames, List.mem_flatMap]
  simp only [List.mem_flatMap]

/-- A frame of slot 0 of a tile. -/
theorem tileFrames_slot (ly t far : Nat) (ht : t < 64) (h : far ∈ tileFrames ly 0 t) :
    nbits far 25 5 = 0 ∧ nbits far 30 2 < 4 := by
  have b : ∃ c < 2 ^ 19, far = ly * 2 ^ 30 + t * 2 ^ 19 + c := by
    simp only [tileFrames, List.mem_append, List.mem_map, List.mem_range, List.mem_cons, List.not_mem_nil, or_false] at h
    rcases h with (((⟨c, hc, rfl⟩ | h) | h) | h) | rfl
    · exact ⟨c * 2 ^ 13, by omega, by omega⟩
    · rcases h with rfl | rfl | rfl
      · exact ⟨1024, by omega, by omega⟩
      · exact ⟨2048, by omega, by omega⟩
      · exact ⟨2049, by omega, by omega⟩
    · split at h
      · simp only [List.mem_cons, List.not_mem_nil, or_false] at h
        subst h; exact ⟨3072, by omega, by omega⟩
      · simp at h
    · split at h
      · simp only [List.mem_cons, List.not_mem_nil, or_false] at h
        subst h; exact ⟨3073, by omega, by omega⟩
      · simp at h
    · exact ⟨4096, by omega, by omega⟩
  obtain ⟨c, hc, rfl⟩ := b
  unfold nbits
  constructor <;> omega

/-- A full image with every frame of slot 0 passes the checks. -/
theorem fullFrames_checks (s : State) (l : Load) (hf : l.frames = fullFrames) (hp : l.partl = false)
    (hr : l.rmap = some (List.replicate 32 0)) (ho : l.opt = some 1) (hg : l.progLy = 0) : s.checkFail l = none := by
  have lack : ∀ ly j, ly < 4 → s.lacking l ly j 0 = [] := by
    intro ly j h
    refine List.filter_eq_nil_iff.2 fun far hm => ?_
    simp only [State.mapTiles, List.mem_flatMap, List.mem_filter] at hm
    obtain ⟨t, ⟨ht, -⟩, hm⟩ := hm
    have e : l.frames.contains far = true :=
      List.contains_iff_mem.2 (hf ▸ (mem_fullFrames far).2 ⟨ly, List.mem_range.2 h, t, ht, hm⟩)
    rw [e]; decide
  have a : (l.rmap.getD []).find? (fun w => Nat.land w.toNat 0x88888888 != 0) = none := by rw [hr]; decide +kernel
  have b : (s.mapRegions l).find? (fun e => !(s.lacking l e.1 e.2 0).isEmpty) = none := by
    refine List.find?_eq_none.2 fun e he => ?_
    simp only [State.mapRegions, List.mem_filter, List.mem_flatMap, List.mem_map] at he
    obtain ⟨⟨ly, hl, j, -, rfl⟩, -⟩ := he
    rw [lack ly j (List.mem_range.1 hl)]; decide
  have c : (s.written l).flatMap (fun e => s.lacking l e.1 e.2.1 e.2.2) = [] := by
    refine List.flatMap_eq_nil_iff.2 fun e he => ?_
    unfold State.written at he
    rw [List.mem_eraseDups, List.mem_map] at he
    obtain ⟨far, hm, rfl⟩ := he
    obtain ⟨ly, hl, t, ht, hx⟩ := (mem_fullFrames far).1 (hf ▸ hm)
    obtain ⟨h0, h4⟩ := tileFrames_slot ly t far (List.mem_range.1 ht) hx
    show s.lacking l (nbits far 30 2) _ (nbits far 25 5) = []
    rw [h0]; exact lack _ _ h4
  unfold State.checkFail
  simp only [hp, ho, hg, c, State.staticFail, a, b, least, Bool.false_eq_true, if_false, if_true]
  simp
/-! ## Ill-formed commands are refused, one for each check -/

/-- A word found corrected twice in one list. -/
def twice : List (Nat × Flaw) := [(3, .corr), (3, .uncorr)]

/-- A read or write of a register, of a size. -/
def acc (size : Nat) : Access := { who := .host, vf := none, bar4 := false, off := 0, size := size, wr := none, poisoned := false }

/-- A memory request. -/
def mreq (write : Bool) (addr beats words be : Nat) : MemReq :=
  { write := write, addr := addr, beats := beats, data := List.replicate words 0, be := be }

/-- What host memory returns. -/
def hread (bytes : Nat) (poisoned : List Nat) : HostRead :=
  { bytes := List.replicate bytes 0, poisoned := poisoned, failed := false }

/-- Commands that break a check each. -/
def illFormed : List Instr :=
  [.plainWrite (acc 3), .upset 0 0 0 (2 ^ 17) 1, .upset 0 0 0 0 0, .planeUpset 0 0 0 (2 ^ 17) .corr, .planeUpset 0 0 0 0 { Flaw.clean with wrong := 1 }, .shaftCorr 0 0 0, .vlCorr 0 0 0,
   .refillComplete 0 0 0 twice, .hcoefGroupWrite 0 false twice, .departure 0 0 twice, .portRequest 0 0 (mreq true 0 3 24 0),
   .portRequest 0 0 (mreq true 64 2 16 0), .portRequest 0 0 (mreq true 0 1 8 (2 ^ 64)), .portRequest 0 0 (mreq true 0 1 7 0),
   .portRequest 0 0 (mreq false 0 1 8 0), .portRequest 0 0 (mreq false 0 1 0 1), .performCycle 0 0 twice,
   .bar2Read none 0 0 [], .bar2Read none 0 4 twice, .bar2Write none 0 [] false [], .bar2Write none 0 [some 1] false twice,
   .lineFill 0 twice] ++
  [.queueRequest 0 0 0 (.push [1, 2, 3] true false), .frame 0 { frm 0 [] true with bytes := List.replicate 13 0 },
   .frame 0 { frm 0 [] true with hdrAge := 1 }, .qcHol 0 twice,
   .browseRead (.plane 0 0 0 (2 ^ 17)) .clean, .borrow 0 twice, .grazeWriteBack 0 [1, 1], .powerUpLaneTest [(0, 0, 0), (0, 0, 0)] [] [],
   .powerUpLaneTest [] [(0, 0, 0), (0, 0, 0)] [], .powerUpLaneTest [] [] [(1, 1), (1, 2)], .header (.words []),
   .registerWrite (.words []), .frameBlock (.words []), .noOp (.words []), .fill (.words []), .endPacket (.words []),
   .restore .host 0 (hread 8 [1]), .readbackFrame twice, .sensorSample [(0, none), (0, some 1)], .receiveMultiblock 0 [] 4096,
   .transmitMultiblock 0 twice] ++
  [.hostToQueue 0 (head 1 0 1) (hread 8 [1]), .hostToMla 0 (head 3 0 64) (hread 8 [1]) 0, .ddrTraining [2, 2],
   .refreshRateRead [(1, 0), (1, 1)], .sensorRun 0 true [4, 4], .brownoutStart 10 (2 ^ 16), .brownoutWarn 10 656 655 37,
   .brownoutWarn 10 0 (2 ^ 16) 1, .railReset 10 (2 ^ 16), .railAboveReset 10 (2 ^ 16)]

/-- Each is refused; the like of some of them that keep their check are not. -/
theorem test_wf :
    illFormed.all (fun i => !i.wf) = true ∧
    [Instr.plainWrite (acc 4), .upset 0 0 0 5 1, .portRequest 0 0 (mreq true 128 2 16 0), .portRequest 0 0 (mreq false 64 1 0 0),
     .queueRequest 0 0 0 (.push [1, 2] true false), .header (.words [1]), .brownoutWarn 10 655 676 37, .boot].all Instr.wf = true := by
  decide +kernel

/-! ## Single steps: the manual's worked examples -/

/-- What a command answers, read off the state it leaves. -/
def after (i : Instr) (s : State) (f : State → Bool) : Bool :=
  match exec i s with
  | .next t => f t
  | _ => false

/-- Sequencer 2 issues a WAITAT on a target at AT 1,652,739 of hyperframe 5. -/
def missIn (target : Nat) : State := tlIn (withWord (seqUp 2 id) 2 (ins 1 0 0 0 target)) (fun t => { t with hfn := 5, at34 := 1652739 })

/-- Words of Tables 7-2 and 7-3 and what they spell: every instruction, both forms of a second operand, an undefined opcode and a
field that must be 0. -/
def words : List (Nat × Instr) :=
  [(ins 0x01 0 0 0 (5 * 2 ^ 34 + 77), .waitat 0 .clean 85899345997), (ins 0x02 0 3 4 0, .waitatr 0 .clean 3 4),
   (ins 0x03 0 0 0 500, .waitrel 0 .clean (.imm 500)), (ins 0x03 0 7 0 (2 ^ 40), .waitrel 0 .clean (.reg 7)),
   (ins 0x04 0 1 0 9600, .align 0 .clean 1 9600), (ins 0x10 0 0 0 106, .prefetch 0 .clean (.imm 106)),
   (ins 0x11 0 5 0 (2 ^ 40), .switch 0 .clean (.reg 5)), (ins 0x12 0 0 0 0x4A, .flopsel 0 .clean (.imm 0x4A)),
   (ins 0x13 0 0 0 9, .capture 0 .clean (.imm 9)), (ins 0x20 0 0 0 0x1234, .br 0 .clean 0x1234),
   (ins 0x21 0 0 0 0x451234, .brc 0 .clean 0x45 0x1234), (ins 0x22 0 0 0 0x1234, .call 0 .clean 0x1234),
   (ins 0x23 0 0 0 0, .ret 0 .clean), (ins 0x24 0 0 0 0x30009, .loop 0 .clean 9 (.imm 3)), (ins 0x25 0 0 0 0, .halt 0 .clean),
   (ins 0x26 0 0 0 0, .nop 0 .clean)] ++
  [(ins 0x30 2 0 0 7, .movi 0 .clean 2 7), (ins 0x31 2 1 0 3, .add 0 .clean 2 1 (.imm 3)),
   (ins 0x32 2 1 4 (2 ^ 40), .sub 0 .clean 2 1 (.reg 4)), (ins 0x33 2 1 0 3, .and 0 .clean 2 1 (.imm 3)),
   (ins 0x34 2 1 0 3, .or 0 .clean 2 1 (.imm 3)), (ins 0x35 2 1 0 3, .xor 0 .clean 2 1 (.imm 3)),
   (ins 0x36 2 1 0 31, .shl 0 .clean 2 1 (.imm 31)), (ins 0x37 2 1 0 5, .shr 0 .clean 2 1 false (.imm 5)),
   (ins 0x37 2 1 4 (2 ^ 40 + 2 ^ 39), .shr 0 .clean 2 1 true (.reg 4)), (ins 0x38 0 1 0 3, .cmp 0 .clean 1 (.imm 3)),
   (ins 0x39 2 0 0 6, .movs 0 .clean 2 6), (ins 0x39 2 0 0 9, .movs 0 .clean 2 9)] ++
  [(ins 0x40 0 3 0 9, .qpush 0 .clean 3 (.imm 9)), (ins 0x41 3 0 0 9, .qpop 0 .clean 3 (.imm 9)),
   (ins 0x42 0 0 0 (2 ^ 15 + 9), .qwait 0 .clean true (.imm 9)), (ins 0x50 0 1 2 (3 * 2 ^ 12 + 5 * 2 ^ 6 + 7), .hcoef 0 .clean 1 2 7 5 3),
   (ins 0x60 0 1 0 0x16, .raise 0 .clean 1 6 1), (ins 0x61 0 1 0 0x1AB0004, .log 0 .clean 1 4 0xAB 1),
   (ins 0x62 0 0 0 0xFF, .evclr 0 .clean (.imm 0xFF)), (ins 0x70 0 0 0 0x35, .barrier 0 .clean 3 5),
   (ins 0x71 0 0 0 5, .signal 0 .clean 5), (ins 0x72 0 0 0 5, .wait 0 .clean 5), (0, .illegal 0 .clean 0),
   (ins 0x26 0 0 0 1, .illegal 0 .clean 0x2600000000000001), (ins 0x31 2 1 4 3, .illegal 0 .clean 0x3110480000000003)]

/-- R185, R187, R188: a sequencer issues from each word the instruction that it spells. -/
theorem test_words : ∀ e ∈ words, (seqAt e.1 id).canIssue 0 e.2 := by
  unfold State.canIssue
  decide +kernel

/-- R160, R162: a target one fc back is missed by 2 fc; the next instruction issues in the next fc, SP is the target, LATE reads 2,
source 578 has occurred, and SEQ2_SP reads as the example gives it. -/
theorem test_miss : after (.waitat 2 .clean (BitVec.ofNat 41 (5 * 2 ^ 34 + 1652738))) (missIn (5 * 2 ^ 34 + 1652738)) (fun t =>
    (t.seq 2).due == t.tl.fc + 1 && (t.seq 2).sp == 5 * 2 ^ 34 + 1652738 && t.f (F.SEQ_MISS_LATE 2) == 2
      && t.f (F.SEQ_MISS_COUNT 2) == 1 && (t.src 578).wait.length == 1) = true := by decide +kernel

/-- R160: one fc further than an SFN cycle faults, and leaves SP; an SFN cycle ahead is waited for. -/
theorem test_range :
    after (.waitat 2 .clean (BitVec.ofNat 41 (6 * 2 ^ 34 + 1652740))) (missIn (6 * 2 ^ 34 + 1652740)) (fun t => (t.seq 2).sp == 8000) = true ∧
    after (.waitat 2 .clean (BitVec.ofNat 41 (6 * 2 ^ 34 + 1652739))) (missIn (6 * 2 ^ 34 + 1652739)) (fun t =>
      (t.seq 2).sp == 6 * 2 ^ 34 + 1652739) = true := by
  decide +kernel

/-- R201: a sum wraps, with carry and zero and no signed overflow; g0 takes nothing. -/
theorem test_add_wraps :
    after (.add 0 .clean 2 1 (.imm 1)) (seqAt (ins 0x31 2 1 0 1) (fun q => { q with g := q.g.set 1 0xFFFFFFFF })) (fun t =>
      (t.seq 0).rd 2 == 0 && (t.seq 0).c && (t.seq 0).z && !(t.seq 0).v && !(t.seq 0).n) = true ∧
    after (.movi 0 .clean 0 7) (seqAt (ins 0x30 0 0 0 7) id) (fun t => (t.seq 0).rd 0 == 0) = true := by
  decide +kernel

/-- Table 7-5: an arithmetic shift keeps the sign, and C is the last bit shifted out. -/
theorem test_shr_sign :
    after (.shr 0 .clean 2 1 true (.imm 4)) (seqAt (ins 0x37 2 1 0 (2 ^ 39 + 4)) (fun q => { q with g := q.g.set 1 0x80000008 })) (fun t =>
      (t.seq 0).rd 2 == 0xF8000000 && (t.seq 0).c && (t.seq 0).n) = true := by
  decide +kernel

/-- R174: a signal is visible 4 fc after its issue. -/
theorem test_signal_visible :
    after (.signal 0 .clean 5) (seqAt (ins 0x71 0 0 0 5) id) (fun t => (t.flags.get 5).due == some (t.tl.fc + 4) && !(t.flags.get 5).set) = true := by
  decide +kernel

/-- R3, R14: a read of DEV_ID answers 0x9632_00B0; a write to it changes no register. -/
theorem test_dev_id :
    after (.plainWrite { who := .host, vf := none, bar4 := false, off := 0, size := 4, wr := none, poisoned := false }) up (fun t =>
      t.reply == .data 0x963200B0) = true ∧
    after (.plainWrite { who := .host, vf := none, bar4 := false, off := 0, size := 4, wr := some 5, poisoned := false }) up (fun t =>
      t.regs == up.regs) = true := by
  decide +kernel

/-- The release of the worked example of Air Time: Rinom's time is 1,000,000,000.5 s of the GPS timescale. -/
theorem test_release :
    let t := (tlIn { up with rin := { up.rin with tai := (2 * (gpsOrigin + 1000000000) + 1) * (tsec / 2) } }
      (fun t => { t with released := false })).release
    t.tl.at34 = 491520000 ∧ t.tl.hfn = 7610 ∧ t.progTime / 2 ^ 34 = 58 := by
  decide +kernel

/-- R134: the three roundings of 2.5, -2.5 and 1.5. -/
theorem test_rounding :
    [81920, -81920, 49152].map (roundShift 0 15) = [2, -3, 1] ∧ [81920, -81920, 49152].map (roundShift 1 15) = [3, -2, 2] ∧
    [81920, -81920, 49152].map (roundShift 2 15) = [2, -2, 2] := by
  decide +kernel

/-- R289: the cache example's slice, set and tag. R460: its channel. -/
theorem test_dram_places :
    sliceOf 0x1234567880 = 8 ∧ setBase 0x1234567880 = 65536 * 8 + 16 * 2767 ∧ tagOf 0x1234567880 = 0x2468 ∧
    (put up [(F.DDR_CFG_NCH, 2)]).dramChan 0x1234567880 = 10 := by
  decide +kernel

/-- R336: bank 7 borrows window 473 in the graze period of AT 1,638,400. -/
theorem test_graze_window : (tlIn up (fun t => { t with at34 := 1652736 })).grazeWindow 7 = 473 := by decide +kernel

/-- R524: the record of the worked example has 56 bytes and occupies 64. -/
theorem test_record_size :
    let r : Rcd := { sev := .warning, type := 0x242, cls := 3, desc := true, src := 0x242, wall := some (0, 0), time := some 0, last := 0,
                     rep := 0, payload := [0, 0] }
    r.len = 56 ∧ r.size = 64 ∧ r.descWord = 0xC242 ∧ (r.bytes 0x91F0 0x4B7 0x232880).length = 56 ∧
    leNat ((r.bytes 0x91F0 0x4B7 0x232880).take 4) = 0x12420038 := by
  decide +kernel

/-- Table 4-7: the plane register of the worked example of Contexts reads 0x0009_A2C4 while plane 2 refills, and 0x2011_A2C4 once it
is valid and current. -/
theorem test_plane_register :
    let full (n : Fin 32) : Plane := { st := .valid, slot := n, refillAt := 0, bad := false }
    let a := ((up.setPlane 2 2 0 (full 4)).setPlane 2 2 1 (full 5)).setPlane 2 2 2 { full 6 with st := .refilling }
    let b := (a.setPlane 2 2 2 (full 6)).modRegion 2 2 (fun r => { r with cur := 2 })
    a.viewPlanes 2 2 = 0x0009A2C4 ∧ b.viewPlanes 2 2 = 0x2011A2C4 := by
  decide +kernel

/-! ## The hypotheses of every statement are met

For each statement with hypotheses one theorem, named after it: for each clause, a state and operands that meet the clause's
hypotheses together. -/

theorem test_meets_StepTakesTheFrontCommand :
    ∃ (c : Instr) (rest : List Instr) (s : State), s.pending = c :: rest :=
  ⟨.boot, [.idcode], { State.reset with pending := [.boot, .idcode] }, rfl⟩

theorem test_meets_AnEmptyQueueIdles : ∃ s : State, s.pending = [] := ⟨State.reset, rfl⟩

theorem test_meets_EveryStepTakesOneCommand :
    (∃ (c : Instr) (s t : State), exec c s = .next t) ∧ ∃ s t : State, step s = .next t ∧ s.pending = [.bypass, .boot] :=
  ⟨⟨.bypass, State.reset, _, rfl⟩, ⟨{ State.reset with pending := [.bypass, .boot] }, _, rfl, rfl⟩⟩

/-- A burned key slot stays burned. -/
theorem test_meets_FusesOnlyBurn :
    ∃ (a : Fuses) (s t : State), Fuses.le a s.fuse ∧ a.prov.get 0 = true ∧ step s = .next t :=
  ⟨(keyIn up).fuse, { keyIn up with pending := [.bypass] }, _, by unfold Fuses.le; decide +kernel, rfl, rfl⟩

/-- A selector of MOVS with a value and a reserved one; `test_words` has every other instruction issue. -/
theorem test_meets_ArithmeticWritesOneRegisterAndTheFlags :
    (let s := seqAt (ins 0x39 2 0 0 0) id
     s.canIssue 0 (.movs 0 .clean 2 0) ∧ s.movsVal 0 0 = some 8192) ∧
    (seqAt (ins 0x39 2 0 0 7) id).canIssue 0 (.movs 0 .clean 2 7) := by
  unfold State.canIssue
  decide +kernel

theorem test_meets_ControlFlowGoesWhereItNames :
    (let s := seqAt (ins 0x21 0 0 0 0x10009) id
     s.canIssue 0 (.brc 0 .clean 1 9) ∧ (s.seq 0).holds s.tl.fc 1 = some true) ∧
    (let s := seqAt (ins 0x21 0 0 0 0x3F0009) id
     s.canIssue 0 (.brc 0 .clean 0x3F 9) ∧ (s.seq 0).holds s.tl.fc 0x3F = some false) ∧
    (let s := seqAt (ins 0x21 0 0 0 0x600009) id
     s.canIssue 0 (.brc 0 .clean 0x60 9) ∧ (s.seq 0).holds s.tl.fc 0x60 = none) ∧
    (let s := seqAt (ins 0x22 0 0 0 9) (fun q => { q with calls := List.replicate 15 1 })
     s.canIssue 0 (.call 0 .clean 9) ∧ (s.seq 0).calls.length < 16) ∧
    (let s := seqAt (ins 0x22 0 0 0 9) (fun q => { q with calls := List.replicate 16 1 })
     s.canIssue 0 (.call 0 .clean 9) ∧ 16 ≤ (s.seq 0).calls.length) ∧
    (let s := seqAt (ins 0x23 0 0 0 0) (fun q => { q with calls := [7, 9], loops := [{ start := 1, last := 2, remaining := 3, depth := 2 }] })
     s.canIssue 0 (.ret 0 .clean) ∧ (s.seq 0).calls = [7, 9]) ∧
    (let s := seqAt (ins 0x23 0 0 0 0) id
     s.canIssue 0 (.ret 0 .clean) ∧ (s.seq 0).calls = []) ∧
    (let s := seqAt (ins 0x24 0 0 0 0x30009) id
     s.canIssue 0 (.loop 0 .clean 9 (.imm 3)) ∧ (s.seq 0).loops.length < 4 ∧ (s.seq 0).opnd (.imm 3) % 65536 ≠ 0) ∧
    (let s := seqAt (ins 0x24 0 1 0 (2 ^ 40 + 9)) (fun q => { q with g := q.g.set 1 0x10000 })
     s.canIssue 0 (.loop 0 .clean 9 (.reg 1)) ∧ (s.seq 0).loops.length < 4 ∧ (s.seq 0).opnd (.reg 1) % 65536 = 0) ∧
    (let s := seqAt (ins 0x24 0 0 0 0x30009) (fun q => { q with loops := List.replicate 4 { start := 1, last := 2, remaining := 3, depth := 0 } })
     s.canIssue 0 (.loop 0 .clean 9 (.imm 3)) ∧ 4 ≤ (s.seq 0).loops.length) ∧
    (let s := seqAt (ins 0x25 0 0 0 0) id
     saenoInstr 0 .clean (s.pgmWord 0 (s.seq 0).next) ≠ .nop 0 .clean ∧ mget Ecc.clean s.fab.pgmErr (s.seq 0).next = .clean) := by
  unfold State.canIssue
  decide +kernel

/-- Targets beyond the range, of no program time, ahead, an SFN cycle ahead, passed, at the issue fc itself. -/
theorem test_meets_TimelineWaitsMeetTheirTargets :
    (let s := seqAt (ins 0x01 0 0 0 (3 * 2 ^ 34 + L)) id
     s.canIssue 0 (.waitat 0 .clean 61605937152) ∧ L ≤ 61605937152 % 2 ^ 34) ∧
    (let s := seqAt (ins 0x01 0 0 0 (4 * 2 ^ 34 + 8193)) id
     s.canIssue 0 (.waitat 0 .clean 68719484929) ∧ (L : Int) < distance 68719484929 (s.seqTime 0)) ∧
    (let s := seqAt (ins 0x01 0 0 0 (4 * 2 ^ 34 + 8192)) id
     s.canIssue 0 (.waitat 0 .clean 68719484928) ∧ 68719484928 % 2 ^ 34 < L ∧ distance 68719484928 (s.seqTime 0) = L) ∧
    (let s := seqAt (ins 0x02 0 1 2 0) (fun q => { q with g := (q.g.set 1 8193).set 2 12 })
     s.canIssue 0 (.waitatr 0 .clean 1 2) ∧ ((s.seq 0).rd 2).toNat < 512 ∧ distance (8193 + 12 * 2 ^ 32) (s.seqTime 0) = 1) ∧
    (let s := seqAt (ins 0x03 0 0 0 3) (fun q => { q with sp := 3 * 2 ^ 34 + 8189 })
     s.canIssue 0 (.waitrel 0 .clean (.imm 3)) ∧ 3 ≤ L ∧ advance (s.seq 0).sp 3 % 2 ^ 34 < L ∧
     distance (advance (s.seq 0).sp 3) (s.seqTime 0) = 0 ∧ s.b (F.SEQ_CTL_MISSFAULT 0) = false) ∧
    (let s := put (seqAt (ins 0x01 0 0 0 (3 * 2 ^ 34 + 8000)) id) [(F.SEQ_CTL_MISSFAULT 0, 1)]
     s.canIssue 0 (.waitat 0 .clean 51539615552) ∧ distance 51539615552 (s.seqTime 0) = -192 ∧ s.b (F.SEQ_CTL_MISSFAULT 0) = true) ∧
    (let s := seqAt (ins 0x02 0 1 2 0) (fun q => { q with g := q.g.set 2 512 })
     s.canIssue 0 (.waitatr 0 .clean 1 2) ∧ 512 ≤ ((s.seq 0).rd 2).toNat) ∧
    (let s := seqAt (ins 0x03 0 0 0 (L + 1)) id
     s.canIssue 0 (.waitrel 0 .clean (.imm 10066329601)) ∧ L < (s.seq 0).opnd (.imm 10066329601)) ∧
    (let s := seqAt (ins 0x04 0 1 0 9600) (fun q => { q with g := q.g.set 1 9600 })
     s.canIssue 0 (.align 0 .clean 1 9600) ∧ 9600 ≤ ((s.seq 0).rd 1).toNat) ∧
    (let s := seqAt (ins 0x04 0 1 0 9600) (fun q => { q with g := q.g.set 1 9599 })
     s.canIssue 0 (.align 0 .clean 1 9600) ∧ ((s.seq 0).rd 1).toNat < 9600 ∧ L % 9600 = 0 ∧ s.seqTime 0 % 2 ^ 34 < L) ∧
    up.tl.copies.get (Fin.castSucc 0) = Vector.replicate 3 0 ∧
    (let s := up.modSeq 0 (fun q => { q with mode := .waitTime, wait := .time 9 10000000 true })
     (s.seq 0).wait = .time 9 10000000 true ∧ 10000000 ≤ s.tl.fc) ∧
    (let s := up.modSeq 0 (fun q => { q with mode := .waitTime, wait := .time 9 10000001 true })
     (s.seq 0).wait = .time 9 10000001 true ∧ s.tl.fc < 10000001) := by
  unfold State.canIssue
  decide +kernel

/-- Region 0 of layer 0 runs in plane 1; plane 0 is VALID, plane 2 refills as `x` says, plane 3 is EMPTY; slot 3 is runnable. -/
def ctxIn (s : State) (x : Plane) : State :=
  fabIn (put s [(⟨Rg.CFG_LR_SLOTV 0 0, 3, 1⟩, 1)]) (fun f => { f with layers := f.layers.set 0 { f.layers.get 0 with
    regions := (f.layers.get 0).regions.set 0 { Region.reset with
      cur := 1, planes := (Region.reset.planes.set 0 { Plane.reset with st := .valid }).set 2 x } } })

/-- A plane that refills since fc `n`. -/
def filling (n : Nat) : Plane := { Plane.reset with st := .refilling, slot := 3, refillAt := n, run := true, filled := true }

/-- Sequencer 0 stalls on a SWITCH to plane 2. -/
def stallIn (x : Plane) (since : Nat) : State :=
  (ctxIn up x).modSeq 0 (fun q => { q with mode := .stall, wait := .stall 0 2 since })

theorem test_meets_ContextInstructions :
    (let s := ctxIn (seqAt (ins 0x10 0 0 0 (3 * 32 + 3 * 8)) id) (filling 9999996)
     s.canIssue 0 (.prefetch 0 .clean (.imm 120)) ∧ s.regionTiles 0 0 ≠ [] ∧ s.planeBusy 0 0 3 = false ∧ s.slotOk 0 0 3 = true) ∧
    (let s := ctxIn (seqAt (ins 0x10 0 0 0 (3 * 32 + 8)) id) (filling 9999996)
     s.canIssue 0 (.prefetch 0 .clean (.imm 104)) ∧ s.planeBusy 0 0 1 = true) ∧
    (let s := ctxIn (seqAt (ins 0x10 0 0 0 (4 * 32 + 3 * 8)) id) (filling 9999996)
     s.canIssue 0 (.prefetch 0 .clean (.imm 152)) ∧ s.planeBusy 0 0 3 = false ∧ s.slotOk 0 0 4 = false) ∧
    (∀ e ∈ [(ins 0x10 0 0 0 1, Instr.prefetch 0 .clean (.imm 1)), (ins 0x11 0 0 0 1, .switch 0 .clean (.imm 1)),
        (ins 0x12 0 0 0 1, .flopsel 0 .clean (.imm 1)), (ins 0x13 0 0 0 1, .capture 0 .clean (.imm 1))],
      (seqAt e.1 id).canIssue 0 e.2 ∧ (seqAt e.1 id).regionTiles 0 1 = []) ∧
    (let s := ctxIn (seqAt (ins 0x11 0 0 0 8) id) (filling 9999996)
     s.canIssue 0 (.switch 0 .clean (.imm 8)) ∧ (s.region 0 0).cur = 1) ∧
    (let s := ctxIn (seqAt (ins 0x11 0 0 0 0) id) (filling 9999996)
     s.canIssue 0 (.switch 0 .clean (.imm 0)) ∧ (s.region 0 0).cur ≠ 0 ∧ (s.plane 0 0 0).st = .valid) ∧
    (∀ n ∈ [9999992, 9999993], let s := ctxIn (seqAt (ins 0x11 0 0 0 16) id) (filling n)
     s.canIssue 0 (.switch 0 .clean (.imm 16)) ∧ (s.region 0 0).cur ≠ 2 ∧ (s.plane 0 0 2).st = .refilling) ∧
    (let s := ctxIn (seqAt (ins 0x11 0 0 0 24) id) (filling 9999996)
     s.canIssue 0 (.switch 0 .clean (.imm 24)) ∧ (s.region 0 0).cur ≠ 3 ∧ (s.plane 0 0 3).st = .empty) ∧
    (∀ n ∈ [0, 0x40], (seqAt (ins 0x12 0 0 0 (n + 24)) id).canIssue 0 (.flopsel 0 .clean (.imm (n + 24)))) ∧
    (let s := seqAt (ins 0x13 0 0 0 8) id
     s.canIssue 0 (.capture 0 .clean (.imm 8)) ∧ s.regionTiles 0 0 ≠ [] ∧ (s.layer 0).cap = none ∧ (s.layer 0).capReq = none) ∧
    (let s := fabIn (seqAt (ins 0x13 0 0 0 8) id) (fun f => { f with
       layers := f.layers.set 0 { f.layers.get 0 with cap := some { flops := [], accs := [] } } })
     s.canIssue 0 (.capture 0 .clean (.imm 8)) ∧ (s.layer 0).cap ≠ none) ∧
    (let s := ctxIn up (filling 9999991)
     (s.plane 0 0 2).run = true ∧ s.fab.slotErr = [] ∧ s.vl.bond = [] ∧ s.fab.oddPar = [] ∧ (s.plane 0 0 2).refillAt + 9 ≤ s.tl.fc) ∧
    (let s := ctxIn up { filling 9999991 with st := .invalid }
     (s.plane 0 0 2).run = true ∧ (s.plane 0 0 2).st = .invalid) ∧
    (let s := ctxIn up (filling 9999992)
     (s.plane 0 0 2).run = true ∧ s.tl.fc < (s.plane 0 0 2).refillAt + 9) ∧
    (let s := ctxIn up { filling 0 with st := .empty, run := false, ask := some 3 }
     (s.plane 0 0 2).ask = some 3 ∧ s.slotOk 0 0 3 = true) ∧
    (∀ n ∈ [9999990, 9999991], let s := stallIn { filling (n - 1) with st := .valid, run := false } 9999998
     (s.seq 0).wait = .stall 0 2 9999998 ∧ (s.plane 0 0 2).run = false ∧ (s.plane 0 0 2).refillAt + 9 ≤ s.tl.fc ∧
     (s.seq 0).stopReq = none ∧ (s.plane 0 0 2).st = .valid) ∧
    (let s := stallIn { filling 9999991 with st := .invalid, run := false } 9999995
     (s.seq 0).wait = .stall 0 2 9999995 ∧ (s.plane 0 0 2).run = false ∧ (s.plane 0 0 2).refillAt + 9 ≤ s.tl.fc ∧
     (s.seq 0).stopReq = none ∧ (s.plane 0 0 2).st = .invalid) ∧
    (let s := seqAt 0 (fun q => { q with altPend := some (2, 0) })
     (s.seq 0).mode = .running ∧ (s.seq 0).inAlt = false ∧ (s.seq 0).inFault = false ∧ (s.seq 0).stallCond = none ∧
     (s.seq 0).altPend = some (2, 0) ∧ (s.seq 0).quiet + 1 ≤ s.tl.fc ∧ s.vector 0 1 = some 128) := by
  unfold State.canIssue
  and_intros <;> decide +kernel

/-- Sequencers 0 and 1 wait at flag 2 with the masks given, 0 since fc `since`. -/
def barIn (m0 m1 since : Nat) : State :=
  (up.modSeq 0 (fun q => { q with mode := .waitBar, next := 8, pc := 7, wait := .barrier 2 m0 since })).modSeq 1
    (fun q => { q with mode := .waitBar, wait := .barrier 2 m1 9999500 })

theorem test_meets_BarriersJoinTheirMask :
    (let s := seqAt (ins 0x70 0 0 0 0x32) id
     s.canIssue 0 (.barrier 0 .clean 3 2) ∧ ∀ j, s.arrival j 2 = none) ∧
    (let s := withWord ((seqUp 2 id).modSeq 1 (fun q => { q with mode := .waitBar, wait := .barrier 2 3 9999000 })) 2 (ins 0x70 0 0 0 0x62)
     s.canIssue 2 (.barrier 2 .clean 6 2) ∧ s.arrival 1 2 = some 3 ∧ (3 : Nat) ≠ (6 : BitVec 4).toNat ∧ ∀ i, (s.seq i).stopReq = none) ∧
    (let s := barIn 3 3 9999000
     3 < 16 ∧ s.barrierFull 2 3 = true ∧ ∀ j, s.arrival j 2 = none ∨ s.arrival j 2 = some 3) ∧
    (let q : Seq := { Seq.reset with wait := .released 2 9999996 10000000 }
     q.wait = .released 2 9999996 10000000) ∧
    (let s := barIn 7 3 9000000
     s.arrival 0 2 ≠ none ∧ s.barrierLate 0 = true ∧ (∀ j, (s.arrival j 2).all (fun m => !s.barrierFull 2 m) = true) ∧
     ∀ i, (s.seq i).stopReq = none) := by
  unfold State.canIssue
  decide +kernel

/-- Flag 2 as given. -/
def flagIn (s : State) (set : Bool) (due : Option Nat) : State := { s with flags := s.flags.set 2 { set := set, due := due } }

theorem test_meets_FlagsAreSetTakenAndTimedOut :
    (let s := flagIn (seqAt (ins 0x71 0 0 0 2) id) false none
     s.canIssue 0 (.signal 0 .clean 2) ∧ (s.flags.get 2).set = false ∧ (s.flags.get 2).due = none) ∧
    (let s := flagIn (seqAt (ins 0x71 0 0 0 2) id) true none
     s.canIssue 0 (.signal 0 .clean 2) ∧ (s.flags.get 2).set = true) ∧
    (let s := flagIn (seqAt (ins 0x71 0 0 0 2) id) false (some 10000003)
     s.canIssue 0 (.signal 0 .clean 2) ∧ (s.flags.get 2).due ≠ none) ∧
    (let s := flagIn (seqAt (ins 0x72 0 0 0 2) id) true none
     s.canIssue 0 (.wait 0 .clean 2) ∧ s.mayTake 0 2 = true) ∧
    (let s := flagIn (withWord ((seqUp 1 id).modSeq 0 (fun q => { q with mode := .waitFlag, wait := .flag 2 9000000 })) 1 (ins 0x72 0 0 0 2)) true none
     s.canIssue 1 (.wait 1 .clean 2) ∧ s.mayTake 1 2 = false) ∧
    (let s := flagIn (up.modSeq 0 (fun q => { q with mode := .waitFlag, wait := .flag 2 9000000 })) true none
     (s.seq 0).wait = .flag 2 9000000 ∧ s.mayTake 0 2 = true) ∧
    (let s := flagIn (up.modSeq 0 (fun q => { q with mode := .waitFlag, wait := .flag 2 9000000 })) false (some 10000003)
     (s.seq 0).wait = .flag 2 9000000 ∧ s.mayTake 0 2 = false) ∧
    (∀ d ∈ [10000001, 10000002], let s := flagIn up false (some d)
     s.tl.running = true ∧ s.fcDone = true ∧ s.flags.get 2 = { set := false, due := some d }) ∧
    (put (up.modSeq 0 (fun q => { q with mode := .waitFlag, wait := .flag 2 9995904 })) [(F.SEQ_CFG_WAITTO 0, 1)]).waitLate 0 = true := by
  unfold State.canIssue
  decide +kernel

/-- A load that has staged a program for layer 0 and is in CHECK. -/
def ldProg : State := ldUp 4 (fun l => { l with progLy := 1 })

theorem test_meets_SequencersStartAndStop :
    (let s := withWord up 0 0
     s.stopAccess .host (Rg.SEQ_CTL 0) = none ∧ s.startHeld 0 = false ∧ s.lineDead 0 = false ∧ (s.seq 0).mode = .stopped ∧
     (s.seq 0).wait = .none ∧ s.vector 0 (2 + (s.writeFields (Rg.SEQ_CTL 0) 0x10000).f (F.SEQ_CTL_ENTRY 0)) = some 256) ∧
    up.vector 0 (2 + (up.writeFields (Rg.SEQ_CTL 0) 0x10000).f (F.SEQ_CTL_ENTRY 0)) = none ∧
    (ldProg.stopAccess .host (Rg.SEQ_CTL 0) = none ∧ ldProg.startHeld 0 = true) ∧
    (let s := seqUp 0 id
     s.stopAccess .mgmt (Rg.SEQ_CTL 0) = none ∧ s.startHeld 0 = false ∧ (s.seq 0).mode = .running) ∧
    (let s := up.modSeq 0 (fun q => { q with wait := .start 256 9999992, g := q.g.set 3 9 })
     (s.seq 0).wait = .start 256 9999992 ∧ s.tl.released = true ∧ max s.tl.relFc 9999992 + 8 ≤ s.tl.fc ∧ s.heldAtStart 0 = none) ∧
    (let s := (fabIn (withWord up 0 0) (fun f => { f with layers := f.layers.set 0 { f.layers.get 0 with
        regions := (f.layers.get 0).regions.set 3 { Region.reset with heldAt := some 9999999 } } })).modSeq 0
        (fun q => { q with wait := .start 256 9999992 })
     (s.seq 0).wait = .start 256 9999992 ∧ s.heldAtStart 0 = some 3 ∧ s.vector 0 1 = some 128) ∧
    (let s := up.modSeq 0 (fun q => { q with wait := .start 256 9999993 })
     (s.seq 0).wait = .start 256 9999993 ∧ s.tl.fc < max s.tl.relFc 9999993 + 8) ∧
    (let s := tlIn (up.modSeq 0 (fun q => { q with wait := .start 256 9 })) (fun t => { t with released := false })
     (s.seq 0).wait = .start 256 9 ∧ s.tl.released = false) := by
  decide +kernel

theorem test_meets_EventAndRecordInstructions :
    (let s := seqAt (ins 0x60 0 1 0 0x16) id
     s.canIssue 0 (.raise 0 .clean 1 6 1) ∧ progSev 1 = some .warning) ∧
    (let s := seqAt (ins 0x61 0 1 0 0x1AB0004) id
     s.canIssue 0 (.log 0 .clean 1 4 0xAB 1) ∧ s.rcd.staged = []) ∧
    (let s := seqAt (ins 0x60 0 1 0 0x76) id
     s.canIssue 0 (.raise 0 .clean 7 6 1) ∧ progSev 7 = none) ∧
    (let s := seqAt (ins 0x61 0 1 0 0x7AB0004) id
     s.canIssue 0 (.log 0 .clean 1 4 0xAB 7)) ∧
    (let s := seqAt (ins 0x62 0 0 0 3) (fun q => { q with evin := 6, evNew := 1, evNewAt := 10000001 })
     s.canIssue 0 (.evclr 0 .clean (.imm 3)) ∧ (s.seq 0).evNewAt = s.tl.fc + 1) ∧
    (let s := seqAt (ins 0x26 0 0 0 0) id
     (s.seq 0).ready s.tl.fc = true ∧ mget Ecc.clean s.fab.pgmErr (s.seq 0).next = .clean ∧
     saenoInstr 0 .corr (s.pgmWord 0 (s.seq 0).next) = .nop 0 .corr ∧ mfind s.fab.pgmWb (s.seq 0).next = none) ∧
    (let s := fabIn up (fun f => { f with pgmErr := [(5, .corr), (9, .uncorr)], pgmWb := [(5, 10000003), (9, 10000004)] })
     (mfind s.fab.pgmWb 5).isSome = true ∧ mget Ecc.clean s.fab.pgmErr 5 = .corr ∧ (mfind s.fab.pgmWb 9).isSome = true ∧
     mget Ecc.clean s.fab.pgmErr 9 ≠ .corr ∧ (mfind s.fab.pgmWb 7).isSome = false) := by
  unfold State.canIssue
  decide +kernel

/-- Queue 3 is sequencer 0's, with entries in it and an access of the sequencer's port. -/
def portIn (count : Nat) (ops : List PortOp) : State := (up.setQueue 3 (mkQ 0x200 0x200 count)).modSeq 0 (fun q => { q with ports := ops })

theorem test_meets_SequencerPortAccesses :
    (let s := (seqAt (ins 0x40 0 4 0 3) id).setQueue 3 (mkQ 0x200 0x200 0)
     s.canIssue 0 (.qpush 0 .clean 4 (.imm 3)) ∧ s.mayPush 3 (partySeq 0) = true) ∧
    (let s := (seqAt (ins 0x41 4 0 0 3) id).setQueue 3 (mkQ 0x200 0x200 0)
     s.canIssue 0 (.qpop 0 .clean 4 (.imm 3)) ∧ s.mayPop 3 (partySeq 0) = true) ∧
    (let s := (seqAt (ins 0x42 0 0 0 3) id).setQueue 3 { mkQ 0x200 0x200 2 with hist := [(9000000, false, false)] }
     s.canIssue 0 (.qwait 0 .clean false (.imm 3)) ∧ s.mayPop 3 (partySeq 0) = true ∧ s.qwaitMet 0 3 false = true) ∧
    (let s := (seqAt (ins 0x42 0 0 0 3) id).setQueue 3 { mkQ 0x200 0x200 2 with hist := [(9999998, false, false), (5, true, false)] }
     s.canIssue 0 (.qwait 0 .clean false (.imm 3)) ∧ s.mayPop 3 (partySeq 0) = true ∧ s.qwaitMet 0 3 false = false) ∧
    (let s := put (seqAt (ins 0x50 0 1 2 (3 * 2 ^ 12 + 5 * 2 ^ 6 + 7)) (fun q => { q with g := (q.g.set 1 5).set 2 64 })) [(F.MEM_BANK_STAT_CUROWNER 0, 0)]
     s.canIssue 0 (.hcoef 0 .clean 1 2 7 5 3) ∧ s.hcoefOk 0 ((s.seq 0).rd 2).toNat 3 = true) ∧
    (let s := seqAt (ins 0x50 0 1 2 (3 * 2 ^ 12 + 5 * 2 ^ 6 + 7)) (fun q => { q with g := (q.g.set 1 5).set 2 65 })
     s.canIssue 0 (.hcoef 0 .clean 1 2 7 5 3) ∧ s.hcoefOk 0 ((s.seq 0).rd 2).toNat 3 = false) ∧
    (let s := seqAt (ins 0x40 0 4 0 3) id
     s.canIssue 0 (.qpush 0 .clean 4 (.imm 3)) ∧ s.mayPush 3 (partySeq 0) = false ∧ s.mayPop 3 (partySeq 0) = false) ∧
    (let s := seqAt (ins 0x41 4 5 5 (2 ^ 40)) (fun q => { q with g := q.g.set 5 32768 })
     (s.seq 0).opnd (.reg 5) = 32768) ∧
    (seqAt (ins 0x42 0 0 0 9) id).canIssue 0 (.qwait 0 .clean false (.imm 9)) ∧
    (let s := portIn 16 [.push 3 [1, 2, 3, 4] 9999995 5]
     s.seqPathStop 0 (.push 3 [1, 2, 3, 4] 9999995 5) = none ∧ (s.seq 0).portOp true = some (.push 3 [1, 2, 3, 4] 9999995 5) ∧ s.mayPush 3 (partySeq 0) = true ∧
     (s.queue 3).full = true ∧ 9999995 + 5 ≤ s.tl.fc) ∧
    (let s := portIn 15 [.push 3 [1, 2, 3, 4] 9999990 5]
     s.seqPathStop 0 (.push 3 [1, 2, 3, 4] 9999990 5) = none ∧ (s.queue 3).full = false ∧ (s.queue 3).esz ≤ 64 ∧ s.mem.writes = [] ∧ s.mem.cyc = []) ∧
    (let s := up.modSeq 0 (fun q => { q with ports := [.push 3 [1, 2, 3, 4] 9999990 5] })
     s.seqPathStop 0 (.push 3 [1, 2, 3, 4] 9999990 5) = none ∧ (s.seq 0).portOp true = some (.push 3 [1, 2, 3, 4] 9999990 5) ∧ s.mayPush 3 (partySeq 0) = false) ∧
    (let s := portIn 0 [.pop 3 7 9999990 5]
     s.seqPathStop 0 (.pop 3 7 9999990 5) = none ∧ (s.seq 0).portOp true = some (.pop 3 7 9999990 5) ∧ s.mayPop 3 (partySeq 0) = true ∧ s.poppable 3 = 0) ∧
    (let s := portIn 2 [.pop 3 7 9999990 5]
     s.seqPathStop 0 (.pop 3 7 9999990 5) = none ∧ s.poppable 3 ≠ 0 ∧ s.mem.marks = [] ∧ s.mem.cyc = []) ∧
    (let s := (up.setQueue 3 { mkQ 0x200 0x200 2 with hist := [(9000000, false, false)] }).modSeq 0 (fun q => { q with mode := .waitQueue, wait := .queue 3 false 9000000 })
     (s.seq 0).wait = .queue 3 false 9000000 ∧ s.seenGone 0 3 = false ∧ s.qwaitMet 0 3 false = true) ∧
    (let s := (up.setQueue 3 (mkQ 0x200 0x200 0)).modSeq 0 (fun q => { q with mode := .waitQueue, wait := .queue 3 false 9000000 })
     (s.seq 0).wait = .queue 3 false 9000000 ∧ s.seenGone 0 3 = false ∧ s.qwaitMet 0 3 false = false) ∧
    (let s := (up.setQueue 3 { queue0 with gone := [(9999997, 0x80200, false)] }).modSeq 0 (fun q => { q with mode := .waitQueue, wait := .queue 3 false 9000000 })
     (s.seq 0).wait = .queue 3 false 9000000 ∧ s.seenGone 0 3 = true) ∧
    (∀ n ∈ [0, 1], let s := up.modSeq 0 (fun q => { q with ports := [.hcoef 5 64 2 3 2 n 9999980 5] })
     s.seqPathStop 0 (.hcoef 5 64 2 3 2 n 9999980 5) = none ∧ n < 2 ∧ 9999980 + 9 + n ≤ s.tl.fc ∧ (s.seq 0).portOp false = some (.hcoef 5 64 2 3 2 n 9999980 5) ∧
     (s.cyc 0).bOld = [] ∧ ∀ i : Fin 8, s.foundAt [] (8 + 8 * n + i) = .clean) := by
  unfold State.canIssue
  and_intros <;> decide +kernel
/-- Plane 0 of region 0 of layer 0 is valid, its group 2 upset in fc `n` and read back as `r` says. -/
def upsetIn (n : Nat) (r : Option (Nat × Fin 32)) : State :=
  fabIn (planeIn up 0 { Plane.reset with st := .valid, filled := true }) (fun f => { f with
    upsets := [(groupOf (groupKey 0 0 0 2), { since := n, act := true, read := r })], slots := [(16, 9), (17, 1)], planes := [(16, 1)] })

/-- A MAC block that captures a set in every fc, its mode word as given. -/
def macIn (mode : Byte) : State :=
  fabIn up (fun f => { f with planes := [(1022, 0xFF), (1150, 0xFF), (0x84C00, mode)], coef := [(0, some 5), (1, some 7)] })

theorem test_meets_UpsetsAreFoundRepairedAndCounted :
    (let s := planeIn up 0 { Plane.reset with st := .valid, filled := true }
     (s.plane 0 (s.tileRegion 0 5) 0).armed = true ∧ mget false s.fab.oddPar (groupOf (groupKey 0 5 0 2)) = false ∧
     mfind s.fab.upsets (groupOf (groupKey 0 5 0 2)) = none ∧ ones 65 (2 ^ 64) % 2 = 1 ∧ ones 65 (2 ^ 64 + 4) % 2 = 0) ∧
    (up.plane 0 0 0).armed = false ∧
    (let s := upsetIn 9999999 none
     s.fab.upsets = [(2, { since := 9999999, act := true, read := none })] ∧ 9999999 < s.tl.fc) ∧
    (let s := fabIn up (fun f => { f with upsets := [(2, { since := 9999999, act := true, read := none }), (3, { since := 9999999, act := true, read := none })] })
     repairUnit 2 = repairUnit 3 ∧ s.fab.upsets.length = 2) ∧
    (let s := upsetIn 9999998 (some (9999999, 0))
     mget Ecc.clean s.fab.slotErr (wordKey (ckey 0 0 0 0 + 16)) = .clean ∧
     s.repairDue 2 = some ({ since := 9999998, act := true, read := some (9999999, 0) }, 0) ∧
     (mget (0, 0) s.lastAt Rg.ECC_PULAST).1 ≠ s.tl.fc + 1 ∧ 8 * 2 < offCluster ∧ (s.plane 0 (s.tileRegion 0 0) 0).st ≠ .refilling) ∧
    (upsetIn 9999999 (some (10000000, 0))).repairDue 2 = none ∧ (upsetIn 9999999 none).repairDue 2 = none ∧
    (let s := fabIn up (fun f => { f with coefErr := [(3, .corr)] })
     mget Ecc.clean s.fab.coefErr (coefKey 0 0 0 3) = .corr ∧ s.readsPair 0 0 0 = false) ∧
    (macIn 0x11).readsPair 0 0 0 = true ∧ up.stopAccess .host Rg.ECC_PUCLR = none ∧ up.stopAccess .mgmt Rg.ECC_HCCLR = none := by
  decide +kernel

/-- Group 5 of boundary 1 with lane health as given. -/
def laneIn (x : Lanes) (l : List (Fld × Nat)) : State := put (fabIn up (fun f => { f with lanes := [(256 + 5, x)] })) l

theorem test_meets_ShaftLanesAreCountedAndSwapped :
    (let w : ShaftWord := { upper := true, data := 0x123456789, check := checkLanes 0x123456789 }
     w.check = checkLanes w.data) ∧
    up.b (F.VL_BG_STAT_FAILED 1 5) = false ∧ (put up [(F.VL_BG_STAT_FAILED 1 5, 1)]).b (F.VL_BG_STAT_FAILED 1 5) = true ∧
    (let r := (up.shaftWord (shKey 1 5)).flipped 1
     syndromePos r.syndrome.toNat = some 0 ∧ up.onOldLane 1 5 0 = false ∧ mget 0 (up.lanes 1 5).win 0 + 1 < up.shaftThresh) ∧
    (let s := laneIn { win := [(0, 15)], faill := none, badSpares := 1, old := some (0, 10000001) } []
     s.onOldLane 1 5 0 = true) ∧
    (let s := laneIn { win := [(0, 15)], faill := none, badSpares := 1, old := some (0, 10000000) } []
     s.onOldLane 1 5 0 = false ∧ s.shaftThresh ≤ mget 0 (s.lanes 1 5).win 0 + 1 ∧ (s.lanes 1 5).faill = none ∧ s.nextSpare 1 5 = some 1) ∧
    (let r := (up.shaftWord (shKey 1 5)).flipped (0x7F#71 <<< 64)
     r.syndrome ≠ 0 ∧ syndromePos r.syndrome.toNat = none) ∧
    (let s := tlIn (laneIn { win := [], faill := some 3, badSpares := 1 } [(F.VL_BG_STAT_SWAPPEND 1 5, 1)]) (fun t => { t with at34 := 9830400 })
     (s.lanes 1 5).faill = some 3 ∧ s.nextSpare 1 5 = some 1 ∧ s.b (F.VL_BG_STAT_SWAPPEND 1 5) = true ∧ s.swapFc 1 5 = true) ∧
    (let s := laneIn { win := [], faill := some 3, badSpares := 1 } [(F.VL_BG_STAT_SWAPPEND 1 5, 1)]
     (s.lanes 1 5).faill = some 3 ∧ s.nextSpare 1 5 = some 1 ∧ s.swapFc 1 5 = false) ∧
    (∀ n ∈ [10000000, 10000001], let s := laneIn { win := [], faill := none, badSpares := 0, old := some (3, n) } [(F.VL_BG_STAT_FAILLANE 1 5, 3)]
     (s.lanes 1 5).old = some (3, n) ∧ (s.lanes 1 5).faill = none ∧ s.f (F.VL_BG_STAT_FAILLANE 1 5) = 3) ∧
    (let s := laneIn { win := [(3, 2)], faill := none, badSpares := 1 } []
     s.sched % 4096 = 0 ∧ mwf lanes0 s.fab.lanes = true) ∧
    up.stopAccess .host Rg.VL_SHCLR = none := by
  decide +kernel

/-- A result due in fc `due` in the pipeline of a MAC block. -/
def hornOp (mode : BitVec 64) (due : Nat) : HornOp :=
  { due := due, taken := due - 4, mode := mode, start := false, vals := [5, -3, 140737488355327, 0], err := false, broke := false }

/-- A block with that result, its accumulators not 0. -/
def resIn (mode : BitVec 64) (due : Nat) : State :=
  fabIn up (fun f => { f with horn := [(0, { Horn.reset with pipe := [hornOp mode due], acc := #v[1, 2, 3, 4] })] })

/-- A region whose set-reset has been asserted since fc `n`. -/
def rsrIn (n : Nat) : State :=
  fabIn up (fun f => { f with layers := f.layers.set 0 { f.layers.get 0 with
    regions := (f.layers.get 0).regions.set 0 { Region.reset with rsr := some n } } })

theorem test_meets_HornBlocksAndSetReset :
    (let a : At := { ly := 0, t := 0 }
     up.captures a (up.hornMode 0 0 (up.tilePlane 0 0) 0) (up.controlBits a 0) = false) ∧
    (let s := fabIn (macIn 1) (fun f => { f with horn := [(0, { Horn.reset with took := true })] })
     (s.hornAt 0 0 0).took = true) ∧
    (let s := macIn 1
     let a : At := { ly := 0, t := 0 }
     let m := s.hornMode 0 0 (s.tilePlane 0 0) 0
     s.captures a m (s.controlBits a 0) = true ∧ (s.hornAt 0 0 0).took = false ∧ hmMode m = 1 ∧ hmBsrc m = false) ∧
    (let s := macIn 0x12
     let a : At := { ly := 0, t := 0 }
     let m := s.hornMode 0 0 (s.tilePlane 0 0) 0
     let pr := pairAddr m (s.controlBits a 0) ((s.hornAt 0 0 0).under m).ctr
     s.captures a m (s.controlBits a 0) = true ∧ hmMode m = 2 ∧ hmBsrc m = true ∧ s.coefSeen (coefKey 0 0 0 (2 * pr)) = (some 5, .clean) ∧
     s.coefSeen (coefKey 0 0 0 (2 * pr + 1)) = (some 7, .clean)) ∧
    State.reset.setReset { ly := 0, t := 0 } = true ∧
    (∀ n ∈ [10000000, 10000001], let s := resIn 1 n
     s.setReset { ly := 0, t := 0 } = false ∧ (s.hornAt 0 0 0).pipe = [hornOp 1 n] ∧ (hornOp 1 n).broke = false) ∧
    (let s := resIn 2 10000000
     s.setReset { ly := 0, t := 0 } = false ∧ (s.hornAt 0 0 0).pipe = [hornOp 2 10000000] ∧ (hornOp 2 10000000).broke = false) ∧
    (let s := fabIn up (fun f => { f with gsr := true, relAt := some 10000000 })
     s.ld = none ∧ s.pwr.pend = [] ∧ s.fab.gsr = true ∧ s.noRefill = true ∧ (s.fab.relAt.all (fun a => decide (a ≤ s.tl.fc))) = true ∧
     s.fab.relAt ≠ none) ∧
    (up.ld = none ∧ up.pwr.pend = [] ∧ up.fab.gsr = false) ∧
    (fabIn up (fun f => { f with gsr := true, relAt := some 10000001 })).fab.relAt = some 10000001 ∧
    (∀ n ∈ [9999984, 9999985], (rsrIn n).ld = none ∧ ((rsrIn n).region 0 0).rsr = some n) := by
  decide +kernel

/-! ## Air time and plain accesses -/

/-- AT before the last fc of an SFN cycle has passed. -/
def lastFc : State := tlIn up (fun t => { t with at34 := 10066329599, hfn := 65535 })

/-- No epoch released, the pre-release count as given. -/
def preIn (pre : Nat) : State := tlIn up (fun t => { t with released := false, pre := pre })

/-- Generator 1 sends a pulse in every period of a frame. -/
def pulsing : SysCfg := { Sysref.reset.cfg with en := true }

/-- Generator 1 as given, in the fc of AT 16,384. -/
def genIn (g : Sysref) : State := tlIn up (fun t => { t with at34 := 16384, sysref := t.sysref.set 1 g })

/-- A whole second of PPS_OUT falls into the present fc. -/
def secondIn (l : List (Fld × Nat)) : State := put (tlIn up (fun t => { t with e0 := 973041000 })) ([(F.TL_PPSCFG_EN, 1)] ++ l)

/-- The counters of copy 0 of AT off by so much. -/
def copyOff (a b c : Int) : State := tlIn up (fun t => { t with copies := t.copies.set 0 #v[a, b, c] })

theorem test_meets_AirTimeAdvancesAndBegins :
    (lastFc.tl.running = true ∧ lastFc.fcDone = true ∧ lastFc.tl.ask = none ∧ lastFc.tl.released = true ∧ lastFc.tl.at34 + 1 = L) ∧
    (up.tl.running = true ∧ up.fcDone = true ∧ up.tl.ask = none ∧ up.tl.released = true ∧ up.tl.at34 + 1 < L) ∧
    (∀ n ∈ [5, L - 1], (preIn n).tl.running = true ∧ (preIn n).fcDone = true ∧ (preIn n).tl.ask = none ∧ (preIn n).tl.released = false) ∧
    (∀ x ∈ [true, false], (tlIn (preIn 5) (fun t => { t with ask := some x })).fcDone = true) ∧
    State.reset.tl.running = false ∧ (seqUp 0 id).fcDone = false ∧
    (let s := tlIn up (fun t => { t with ask := some true })
     s.tl.ask = some true ∧ s.tl.released = true) ∧
    ((preIn 5).f F.TL_CTL_RELMODE % 2 = 1) ∧ up.stopAccess .host Rg.TL_CTL = none ∧
    (1#32).getLsbD 1 = false ∧ (1#32).getLsbD 0 = true ∧ (2#32).getLsbD 1 = true ∧ (3#32).getLsbD 0 = true ∧ up.rebaseOk = true ∧
    (let s := seqUp 0 id
     s.stopAccess .mgmt Rg.TL_CTL = none ∧ s.rebaseOk = false) ∧
    (let s := tlIn (seqUp 0 id) (fun t => { t with released := false })
     s.stopAccess .host Rg.TL_CTL = none ∧ s.rebaseOk = false ∧ s.tl.running = true ∧ s.tl.ask = none) := by
  decide +kernel

theorem test_meets_FramesPulsesAndCopiesOfAt :
    ((tlIn up (fun t => { t with at34 := 0 })).frameNow = true ∧
     (put (tlIn up (fun t => { t with at34 := 0 })) [(F.PWR_STAT_RAILOK, 0)]).rinomOff = true) ∧
    (∀ p ∈ { Sysref.reset with pend := [(pulsing, 9999993)] }.pend, 10000000 < p.2 + 8) ∧
    (let g := { Sysref.reset with pend := [(Sysref.reset.cfg, 9999900), (pulsing, 9999992), (pulsing, 9999993)] }
     g.pend = [(Sysref.reset.cfg, 9999900)] ++ (pulsing, 9999992) :: [(pulsing, 9999993)] ∧ 9999992 + 8 ≤ 10000000 ∧
     ∀ p ∈ [(pulsing, 9999993)], 10000000 < p.2 + 8) ∧
    (let s := put up [(F.TL_SYSPER_PERIOD 1, 0)]
     s.stopAccess .host (Rg.TL_SYSCTL 1) = none ∧ badSysref (s.f (F.TL_SYSPER_PERIOD 1)) (s.f (F.TL_SYSOFS_OFFSET 1)) = true) ∧
    (up.stopAccess .host (Rg.TL_SYSCTL 1) = none ∧ badSysref (up.f (F.TL_SYSPER_PERIOD 1)) (up.f (F.TL_SYSOFS_OFFSET 1)) = false) ∧
    (genIn { Sysref.reset with cfg := pulsing }).sysrefNow 1 = true ∧
    (genIn { Sysref.reset with cfg := { pulsing with nshot := true }, left := 2 }).sysrefNow 1 = true ∧ up.sysrefNow 1 = false ∧
    State.reset.pwr.dark ≠ 0 ∧ State.reset.fab.torn = true ∧
    (let s := secondIn [(F.TL_PPSCFG_QUAL, 1), (F.TL_STATUS_TKSTATE, 1)]
     s.ppsNow = true ∧ s.f F.TL_STATUS_TKSTATE ≠ 3 ∧ s.f F.RPL_STAT_MODE < 2 ∧ s.rin.cfg.tod = false) ∧
    (let s := secondIn [(F.TL_PPSCFG_QUAL, 1), (F.TL_STATUS_TKSTATE, 3)]
     s.ppsNow = true ∧ s.b F.TL_PPSCFG_QUAL = true ∧ s.f F.TL_STATUS_TKSTATE = 3) ∧
    (let v := up.upsetCopy 0 (1, 1, 1)
     up.copyRuns 0 = true ∧ v.get 0 = v.get 1 ∧ v.get 1 = v.get 2) ∧
    (let v := up.upsetCopy 4 (0, 1, 0)
     up.copyRuns 4 = true ∧ v.get 0 ≠ v.get 1 ∧ v.get 0 = v.get 2) ∧
    (let v := (copyOff 0 0 7).upsetCopy 0 (1, 0, 0)
     (copyOff 0 0 7).copyRuns 0 = true ∧ v.get 0 ≠ v.get 1 ∧ v.get 0 ≠ v.get 2 ∧ v.get 1 ≠ v.get 2) ∧
    up.stopAccess .host Rg.TL_AT_LO = none ∧ up.stopAccess .host Rg.TL_DEPCFG = none ∧ up.b F.TL_DEPCFG_EN = false := by
  decide +kernel

theorem test_meets_PlainAccessesReadAndWriteOneRegister :
    ((4 : Nat) ≠ 2 ∧ Rg.VL_SHCFG % 4 = 0) ∧ up.b (F.DEV_VF_CFG_EN (0 : Fin 32).val) = false ∧
    (State.reset.stopAccess .host Rg.VL_SHCFG = some .abort ∧ up.stopAccess .host Rg.VL_SHCFG = none) ∧
    (hasAct Rg.VL_SHCFG = false ∧ inMsix Rg.VL_SHCFG = false ∧ Rg.VL_SHCFG ≠ Rg.TL_AT_LO ∧ Rg.VL_SHCFG ≠ Rg.REC_RDDATA ∧
     mfind up.shadowHi Rg.VL_SHCFG = none) ∧
    (up.stopAccess .host Rg.DEV_FLTCNT = none ∧ meetIn ⟨12, 12, 1⟩ (rcMask Rg.DEV_FLTCNT) = true ∧ mfind up.shadowHi Rg.DEV_FLTCNT = none) ∧
    (let off := Rg.DEV_DMA_CTL 0
     let s := put up [(F.DEV_DMA_CTL_ERR 0, 1)]
     s.stopAccess .host off = none ∧ hasAct off = false ∧ inMsix off = false ∧ (regRow off).any (fun r => r.w1c.getLsbD 30) = true ∧
      (s.reg off).getLsbD 30 = true) ∧
    (hiOf Rg.TK_WALL_LO).isSome = true ∧
    (let s := { up with shadowHi := [(Rg.TK_WALL_LO + 4, 9)] }
     s.stopAccess .host (Rg.TK_WALL_LO + 4) = none ∧ mfind s.shadowHi (Rg.TK_WALL_LO + 4) = some 9) ∧
    up.stopAccess .host Rg.REC_RDDATA = none ∧ up.stopAccess .host (0x48000 + 16 * (5 : Fin 1024).val + 4 * (3 : Fin 4).val) = none := by
  decide +kernel

/-! ## Rinom -/

/-- A state with Rinom changed, in state `st` of Table 9-2. -/
def rinIn (st : Nat) (f : Rinom → Rinom) : State := put { up with rin := f up.rin } [(F.TK_STATE_STATE, st)]

/-- No rail is good: Rinom has no supply. -/
def noRails : State := put up [(F.PWR_STAT_RAILOK, 0)]

/-- A tick that measures nothing. -/
def quiet : Meas :=
  { ptp := { announce := none, sync := false, delay := 0 }, synce := { esmc := none, lock := false, freq := 0 },
    ref10m := { signal := false, freq := 0 }, tee := 0, drift := 0, ferr := 0, jump := 0, label := none, delayReq := false }

/-- A tick in which PTP is heard, AT 100 ns off. -/
def heard : Meas :=
  { quiet with ptp := { announce := some { domain := RinCfg.shipped.domain, gm := 5, cls := 6, steps := 1, utc := 37, leap := 0, interval := 16 },
                        sync := true, delay := 500 },
               tee := 25600 }

/-- ACQUIRING on PTP, which qualifies; the lock condition has held for `n` ticks. -/
def acquiring (n : Nat) : State :=
  let x (r : Rinom) : RefIn := { r.refs.get 0 with present := true, qual := true, stay := 99 }
  let c : RinCfg := { RinCfg.shipped with prio := #v[1, 2, 0, 0], asym := #v[7, 0, 0, 0] }
  put (rinIn 0 (fun r => { r with okTicks := n, refs := r.refs.set 0 (x r), cfg := c })) [(F.TK_STATE_REFSEL, 1)]

/-- The bin of 0 °C with so many samples of 100 units on average, residual 5. -/
def binIn (st count : Nat) : State :=
  rinIn st (fun r => { r with model := { TempModel.empty with bins := [(40, { mean := 100, var := 25, count := count, upd := 3 })] } })

/-- PPS_IN: an edge seconds ago, its predecessor labelled. -/
def edgeIn (f : Rinom → Rinom) : State := rinIn 0 (fun r => f { r with ppsOpen := true, ppsLabel := some 7, ppsSecs := 1, ppsCount := 9, ppsAge := some 3 })

/-- A mailbox request: the command, its length, bytes of it. -/
def mbIn (cmd len : Nat) (l : List (Nat × Nat)) : State :=
  put up ([(F.TK_MBSTAT_BUSY, 1), (F.TK_MBCMD_CMD, cmd), (F.TK_MBCMD_LEN, len)] ++ l.map (fun e => (⟨Rg.TK_MBDATA e.1, 0, 32⟩, e.2)))

theorem test_meets_RinomTicks :
    noRails.rinomOff = true ∧ up.rinomOff = false ∧
    (let s := rinIn 2 (fun r => { r with resetCmd := true, forceCmd := some 2 })
     s.rinomOff = false ∧ s.rin.resetCmd = true ∧ s.rin.forceCmd = some 2) ∧
    (quiet.label = none ∧ up.rin.timeCmd = none ∧ up.rin.resetCmd = false) ∧
    (∀ n ∈ [5, 959], let s := acquiring n
     s.rinomOff = false ∧ s.tkState = 0 ∧ s.f F.TK_STATE_REFSEL = 1 ∧ (s.rin.ref 0).qual = true ∧ s.rin.next = none ∧
      s.rin.forceCmd = none ∧ s.rin.cfg.prio.get 0 ≠ 0 ∧ s.rin.cfg.prio.get 2 = 0 ∧ s.sdsOn = true) ∧
    (heard.ptp.announce.all (fun a => a.domain == (acquiring 5).rin.cfg.domain && (acquiring 5).rin.cfg.classOk a.cls) = true ∧
     heard.ptp.announce ≠ none ∧ heard.ptp.sync = true ∧ 0 ≤ heard.ptp.delay ∧ heard.ptp.delay ≤ 100000 ∧ heard.ferr ≤ 5120) ∧
    (let m := { heard with tee := 12807 }
     (m.tee - (acquiring 5).rin.cfg.asym.get 0).natAbs ≤ (acquiring 5).rin.cfg.lockLim * 256) ∧
    up.tl.released = true := by
  decide +kernel

/-- A leap second that SET_LEAP, or PTP, names has come. -/
def leapIn (ptp : Nat × Nat) (leap : Nat) : State :=
  rinIn 3 (fun r => { r with wallOk := true, tai := 3072000000000 * 864037, ptpUtc := some 37, ptpLeap := ptp,
                             cfg := { RinCfg.shipped with leap := leap, leapDay := 8 } })

theorem test_meets_RinomLearnsStepsAndRestarts :
    (∀ n ∈ [1, 2, 70], let s := binIn 1 n
     s.rinomOff = false ∧ s.tkState = 1 ∧ s.b F.TK_STATE_SLEW = false ∧ (mget bin0 s.rin.model.bins (binOf 0)).count = n) ∧
    (let b := mget bin0 (binIn 1 2).rin.model.bins (binOf 0)
     let x := 120 - (binIn 1 2).rin.model.aged (binIn 1 2).optime
     let y := 121 - (binIn 1 2).rin.model.aged (binIn 1 2).optime
     (x - b.mean).natAbs ≤ 4 * b.resid ∧ 4 * b.resid < (y - b.mean).natAbs) ∧
    (binIn 0 70).tkState ≠ 1 ∧
    (let s := rinIn 1 (fun r => { r with refit := true })
     s.rinomOff = false ∧ s.rin.refit = true ∧ up.rin.refit = false) ∧
    (let s := rinIn 1 (fun r => { r with snaps := #v[some { gen := 4, cfg := RinCfg.shipped, model := TempModel.empty }, none] })
     s.rinomOff = false ∧ s.tkState = 1 ∧ s.rin.snap = some { gen := 4, cfg := RinCfg.shipped, model := TempModel.empty } ∧
     up.rin.snap = none) ∧
    ((leapIn (0, 0) 1).rinomOff = false ∧ (leapIn (0, 0) 1).leapDue = true ∧ (leapIn (0, 0) 1).rin.ptpLeap.1 = 0) ∧
    ((leapIn (2, 8) 0).leapDue = true ∧ (leapIn (2, 8) 0).rin.ptpLeap.1 ≠ 0 ∧ up.leapDue = false) ∧
    ((edgeIn id).rinomOff = false ∧ (edgeIn id).rin.ppsOpen = true) ∧
    (let s := edgeIn (fun r => { r with ppsOpen := false })
     s.rin.ppsOpen = false ∧ 15728640000 - 15728 ≤ (15728624272 : Nat) ∧ (2 * 15728624272 + 15728640000) / 31457280000 < 3 ∧
     3 ≤ (2 * 47185920000 + 15728640000) / 31457280000) ∧
    ((edgeIn id).rin.ppsAge ≠ none ∧ (edgeIn id).rin.ppsLabel.all (fun l => 8 == l + (edgeIn id).rin.ppsSecs) = true) ∧
    (let s := edgeIn (fun r => { r with refs := r.refs.set 2 { (r.refs.get 2) with present := true, qual := true } })
     s.rinomOff = false ∧ (s.rin.ref 2).qual = true ∧ s.rin.ppsLabel = some 7 ∧ 9 ≠ 7 + s.rin.ppsSecs) ∧
    (edgeIn (fun r => { r with ppsAge := none })).rin.ppsAge = none := by
  decide +kernel

/-- A request of each command that names a register of Rinom's configuration, its fields in range. -/
def requests : List (Nat × Nat × List (Nat × Nat)) :=
  [(4, 12, [(1, 24 * 65536)]), (5, 8, [(0, 0x3C0032), (1, 1100)]), (6, 8, [(0, 1), (1, 55)]), (7, 8, []), (10, 4, []), (14, 2, [])]

/-- Requests of the other commands. -/
def others : List (Nat × Nat × List (Nat × Nat)) :=
  [(1, 0, []), (2, 32, []), (3, 0, []), (8, 1, [(0, 2)]), (12, 0, []), (13, 4, []), (9, 1064, [])]

theorem test_meets_MailboxCommandsRun :
    (mailbox (.info .host 0) = some (.host, 1, 0, false) ∧ mailbox (.setTime .mgmt 1064 true) = some (.mgmt, 9, 1064, true)) ∧
    (up.stopAccess .host Rg.TK_MBCMD = none ∧ up.rinomOff = false ∧ up.b F.TK_MBSTAT_BUSY = false) ∧
    (let s := mbIn 1 0 []
     s.stopAccess .mgmt Rg.TK_MBCMD = none ∧ s.rinomOff = false ∧ s.b F.TK_MBSTAT_BUSY = true) ∧
    (noRails.stopAccess .host Rg.TK_MBCMD = none ∧ noRails.rinomOff = true) ∧ (0x80000001#32).getLsbD 31 = true ∧
    mbLen ((mbIn 0xFF 0 []).f F.TK_MBCMD_CMD) = none ∧
    (mbLen ((mbIn 1 4 []).f F.TK_MBCMD_CMD) = some 0 ∧ (mbIn 1 4 []).f F.TK_MBCMD_LEN = 4) ∧
    (let s := mbIn 8 1 [(0, 3)]
     mbLen (s.f F.TK_MBCMD_CMD) = some (s.f F.TK_MBCMD_LEN) ∧ mbRange 8 (s.mbBytes 1) = false) ∧
    (∀ e ∈ requests ++ others, let s := mbIn e.1 e.2.1 e.2.2
     s.rinomOff = false ∧ s.b F.TK_MBSTAT_BUSY = true ∧ mbLen (s.f F.TK_MBCMD_CMD) = some (s.f F.TK_MBCMD_LEN) ∧
      mbRange e.1 (s.mbBytes e.2.1) = true ∧ s.rin.shot = [] ∧ s.rin.mbSig = false) := by
  decide +kernel

/-! ## The memory layer -/

/-- No port has a queue request. -/
theorem portUp_plain (r : Req) (h : r.q = none) (k : Nat) : ∀ x ∈ ((portUp [r]).port k).reqs, x.q = none := by
  have e : ((portUp [r]).port k).reqs = if k = 0 then [r] else [] := by
    cases k with
    | zero => rfl
    | succ n => rfl
  rw [e]
  split <;> simp_all

/-- The cache holds line 0 of slice 0, for the first bytes of LPDDR6, dirty or not; its second beat has words. -/
def lineUp (dirty : Bool) (rs : List Req) : State :=
  memIn (portUp rs) (fun m => { m with lines := [(0, { tag := 0, dirty := dirty, used := 3 })], words := [(2 ^ 25 + 8, 5), (2 ^ 25 + 15, 9)] })

/-- Port B of bank 0 is taken. -/
def busyB : State := memIn up (fun m => { m with cyc := [(0, { cyc0 with id := 50000001, busyB := true })] })

/-- An operation of MEM_CMO runs, at a set of a slice. -/
def cmoIn (op at_ : Nat) (s : State) : State := memIn (put s [(F.MEM_CMO_BUSY, 1)]) (fun m => { m with cmoOp := op, cmoAt := at_ })

/-- A push to queue 1027 of entries of `k` words that waits for port B of bank 1. -/
def pushIn (again : Bool) (entries done : Nat) (cyc : NMap MemCyc) : State :=
  memIn (up.setQueue 1027 { mkQ 0x280 0x080 0 with room := entries })
    (fun m => { m with cyc := cyc, writes := [{ queue := 1027, batch := List.replicate entries { words := [1, 2], sof := true, poison := false },
                                                replay := false, bell := false, done := done, again := again, since := 9999990 }] })

theorem test_meets_HostWindowReadsAndWritesBytes :
    (up.bar2At none 8 4 = some 8 ∧ up.hostPathDown = false ∧ up.hostWaits 0 = [] ∧ up.nextWrite 0 = none ∧ up.portBFree 0 = true ∧
      up.portA 0 = none ∧ (8 + 4 + 63) / 64 - 8 / 64 ≤ 1) ∧
    (∀ k, up.foundAt [] k = .clean) ∧ (up.bar2At none 60 72 = some 60 ∧ 1 < (60 + 72 + 63) / 64 - 60 / 64) ∧
    (up.bar2At none 268435455 4 = none ∧ up.bar2At (some 0) 8 4 = none ∧ State.reset.hostPathDown = true) ∧
    (busyB.bar2At none 8 4 = some 8 ∧ busyB.hostPathDown = false ∧ busyB.portBFree 0 = false) ∧
    (let s := pushIn true 1 0 []
     s.bar2At none 0x800000 4 = some 0x800000 ∧ s.hostPathDown = false ∧ (s.nextWrite 1).isSome = true) := by
  refine ⟨?_, unmarked _ rfl, ?_⟩ <;> and_intros <;> decide +kernel

/-- A popped entry of queue 1024 is on its way to port 0. -/
def popIn (held : Nat) : State :=
  pwrIn ((portUp [{ mkReq false false with addr := 0x800000, q := some { op := .pop, queue := 1024 }, due := some 10000000 }]).setQueue 1024
    { mkQ 0x280 0x080 4 with lent := 1 }) (fun p => { p with held := held })

theorem test_meets_PortsAcceptAndAnswerInOrder :
    (let x := mreq true 0x800040 1 8 255
     let s := portUp []
     reqFormed x = true ∧ s.portTakes 0 0 1 0 = true ∧ s.stopDie 0 = none ∧ s.failedGroup 0 0 = none ∧ s.denied x.addr 0 = none) ∧
    (let x := mreq true 0x800040 1 8 255
     let s := put (portUp []) [(F.MEM_BANK_STAT_OWNPEND 1, 1)]
     s.portTakes 0 0 1 0 = true ∧ s.ownerHolds x.addr = true) ∧
    (let x := mreq false 0x1000000 1 0 0
     let s := portUp []
     reqFormed x = true ∧ s.portTakes 0 0 0 1 = true ∧ s.ownerHolds x.addr = false ∧ s.denied x.addr 0 = some 0) ∧
    (reqFormed (mreq false 0x800041 1 0 0) = false ∧ (portUp []).portTakes 0 1 0 1 = false) ∧
    (let s := portUp [{ mkReq false false with due := some 10000000 }]
     (s.port (portKey 0 0)).reqs = [{ mkReq false false with due := some 10000000 }] ∧ (s.portNow (portKey 0 0)).resp + 1 ≤ s.windowBeats) ∧
    (∀ h ∈ [0, 4], ((popIn h).queue 1024).lent = 1 ∧ (popIn h).dieUp (layerDie 0) = decide (h = 0)) ∧
    (portUp [{ mkReq false false with due := some 10000001 }]).tl.fc < 10000001 ∧ (mkReq true false).due = none ∧
    (let s := memIn up (fun m => { m with ports := [(0, { port0 with reqs := [{ mkReq false false with due := some 10000000 }], win := 10000001, resp := 5 })] })
     ¬ (s.portNow (portKey 0 0)).resp + 1 ≤ s.windowBeats) := by
  decide +kernel

/-- A request of DRAM space that does not wait for a fill. -/
def dreq (write : Bool) : Req := { mkReq write true with fill := false }

theorem test_meets_BanksPerformTheGrantedBeat :
    (∀ w ∈ [true, false], let s := portUp [mkReq w false]
     s.tl.running = true ∧ cycPhase 0 = s.sched % 4 ∧ cycPhase 1 = s.sched % 4 ∧ s.slow = false ∧ (s.cyc 1).id ≤ 50000000 ∧ s.memRuns = true ∧ s.seqUses 1 = false ∧
      s.grant 1 50000000 = some 0 ∧ (s.port 0).head = some (mkReq w false) ∧ s.mem.clears = [] ∧ s.mem.writes = [] ∧ s.mem.host = [] ∧
      s.dma = [] ∧ s.b F.MEM_CMO_BUSY = false) ∧
    (∀ w k, ∀ x ∈ ((portUp [mkReq w false]).port k).reqs, x.q = none) ∧
    (∀ w k, ∀ x ∈ ((portUp [dreq w]).port k).reqs, x.q = none) ∧ (∀ k, (portUp [dreq true]).foundAt [] k = .clean) ∧
    (∀ w ∈ [true, false], let s := lineUp true [dreq w]
     s.grant 32 50000000 = some 0 ∧ (s.port 0).head = some (dreq w) ∧ s.hitLine ((dreq w).addr - dramBase) = some 0) ∧
    (let s := portUp [dreq false]
     s.grant 32 50000000 = some 0 ∧ (s.port 0).head = some (dreq false) ∧ s.hitLine ((dreq false).addr - dramBase) = none ∧ s.baseDead = false) ∧
    (State.reset.tl.running = false ∧ cycPhase 4 ≠ up.sched % 4 ∧ 50000000 < (busyB.cyc 0).id ∧ (put up [(F.TL_STATUS_DEGRADED, 1)]).slow = true) := by
  refine ⟨?_, fun w k => portUp_plain _ rfl k, fun w k => portUp_plain _ rfl k, unmarked _ rfl, ?_⟩ <;> and_intros <;> decide +kernel

/-- Bank 1 is to be cleared; its next MEM cycle has come, or not. -/
def clearIn (keep : Option (List Nat)) : State :=
  memIn (portUp [mkReq true false]) (fun m => { m with clears := [(1, { asked := 9999999, keep := keep })], words := [(0x100008, 7), (0x200000, 3)] })

/-- The present MEM cycle of bank 1 has written the first words of queue 1027's ring. -/
def cycIn : NMap MemCyc := [(1, { cyc0 with id := 50000001, base := 0x100800, wrote := 255, busyA := true })]

theorem test_meets_BanksChangeOwnerAndWordsAreRewritten :
    (up.stopAccess .host (Rg.MEM_BANK_CFG (1 : Fin 32).val) = none ∧ (3#32).getLsbD 31 = false ∧ ownerOf 3 ≠ up.owner 1 ∧ ownerOf 7 = up.owner 1) ∧
    (let s := put (portUp [{ mkReq true false with own := true }]) [(F.MEM_BANK_STAT_OWNPEND 1, 1), (F.MEM_BANK_CFG_OWNER 1, 3)]
     s.b (F.MEM_BANK_STAT_OWNPEND 1) = true ∧ s.bankBusy 1 = false) ∧
    (let s := put (portUp [mkReq true false]) [(F.MEM_BANK_STAT_OWNPEND 1, 1)]
     s.bankBusy 1 = true ∧ up.b (F.MEM_BANK_STAT_OWNPEND 1) = false) ∧
    (let s := clearIn none
     s.tl.running = true ∧ cycPhase 0 = s.sched % 4 ∧ s.slow = false ∧ (s.cyc 1).id ≤ 50000000 ∧ s.memRuns = true ∧
      mfind s.mem.clears 1 = some { asked := 9999999, keep := none }) ∧
    (clearIn (some [0x100008])).mem.clears = [(1, { asked := 9999999, keep := some [0x100008] })] ∧
    (up.sched % 4096 = 0 ∧ (tlIn up (fun t => { t with at34 := 5 })).sched % 4096 ≠ 0) ∧
    (let s := pushIn true 1 0 []
     (s.nextWrite 1).all (fun r => r.again && r.queue / 1024 == 1 && s.collides (r.keys (s.queue 1027)) == none
       && decide (r.beats (s.queue 1027) ≤ r.done + 1)) = true ∧ (s.nextWrite 1).isSome = true ∧ s.portBFree 1 = true) ∧
    (let s := pushIn true 2 0 []
     (s.nextWrite 1).any (fun r => r.again && s.collides (r.keys (s.queue 1027)) == none && decide (r.done + 1 < r.beats (s.queue 1027))) = true) ∧
    (let s := pushIn true 1 0 cycIn
     (s.nextWrite 1).any (fun r => r.again && (s.collides (r.keys (s.queue 1027))).isSome) = true ∧ s.portBFree 1 = true) ∧
    (let s := pushIn false 1 0 []
     (s.nextWrite 1).any (fun r => !r.again) = true) := by
  decide +kernel

theorem test_meets_CacheFillsAndMaintenance :
    (let s := portUp [mkReq false true]
     (s.mem.ports.map (fun e => e.1)).filter (fun k => s.waitsFill 0 k) = [0] ∧ (s.port 0).head = some (mkReq false true) ∧
      s.hitLine 0 = none ∧ s.fillWaits 0 0 = false ∧ (put s [(F.CLK_DOM_SRC 15, srcStopped)]).fillWaits 0 0 = true) ∧
    ((∀ k, up.waitsFill 1 k = false) ∧ ∀ e ∈ up.dma, e.2.fill = false ∨ (e.2.addr - dramBase) / 128 ≠ 1) ∧
    (up.stopAccess .host Rg.MEM_CMO = none ∧ up.b F.MEM_CMO_BUSY = false ∧ (cmoIn 0 0 up).stopAccess .mgmt Rg.MEM_CMO = none ∧
     (cmoIn 0 0 up).b F.MEM_CMO_BUSY = true) ∧
    (∀ op ∈ [0, 1, 2], let s := cmoIn op 0 (lineUp true [])
     s.tl.running = true ∧ cycPhase 0 = s.sched % 4 ∧ s.slow = false ∧ (s.cyc 32).id ≤ 50000000 ∧ s.memRuns = true ∧ s.mem.cmoAt / 4096 + 32 = 32 ∧
      s.grant 32 50000000 = none ∧ s.mem.clears = [] ∧ s.dma = [] ∧ ∀ w, w < 16 → s.backWaits (16 * s.mem.cmoAt + w) = false) ∧
    (let s := lineUp true []
     s.baseDead = false ∧ s.mem.lines = [(0, { tag := 0, dirty := true, used := 3 })] ∧ s.stuckLine 0 = false ∧
     (put s [(F.CLK_GATESTAT_OPEN 1, 0)]).stuckLine 0 = true) ∧
    ((cmoIn 0 65536 up).b F.MEM_CMO_BUSY = true ∧ 65536 ≤ (cmoIn 0 65536 up).mem.cmoAt ∧ (cmoIn 0 65535 up).mem.cmoAt < 65536) := by
  refine ⟨?_, ⟨fun _ => rfl, ?_⟩, ?_⟩ <;> and_intros <;> decide +kernel

theorem test_meets_MemoryStaysCanonical :
    (portUp [mkReq true false]).mem.wf = true ∧ (lineUp true [dreq true]).mem.wf = true ∧
    ([Instr.portRequest 0 0 (mreq false 64 1 0 0), .performCycle 1 0 [], .bar2Write none 8 [some 1] false [], .bar2Read none 8 4 [],
      .portResponse 0 0, .lineFill 0 [], .flush .host, .bankClear .host 1 0, .collidedRewrite 1, .memOwnerDone 1, .memCmoDone].all (fun i =>
        after i (portUp [mkReq true false]) (fun _ => true))) = true := by
  decide +kernel

/-! ## Queues and fronthaul -/

/-- Controller 1 is asked for a queue of 64-byte entries. -/
def allocIn (l : List (Fld × Nat)) : State :=
  put up ([(F.QC_ACFG_PROD 1, 0x280), (F.QC_ACFG_CONS 1, 0x080), (F.QC_AMBASE_OFS 1, 0x4000), (F.QC_ACFG_ESZ 1, 2)] ++ l)

/-- A queue of the host, and doorbells it has not acted on. -/
def hostQ (count room : Nat) (bells : List Bell) : State := up.setQueue 1024 { mkQ 0x080 0x080 count with room := room, bells := bells }

/-- A flow of eCPRI PC_ID 3 for queue 5, which `prod` produces. -/
def flowUp (prod : Nat) : State := { fhUp.setQueue 5 (mkQ prod 0x180 2) with flow := [(3, (0x81FFE000, 3, 5))] }

theorem test_meets_QueuesAreAllocatedAndRung :
    (up.stopAccess .host (Rg.QC_ACMD (1 : Fin 32).val) = none ∧ (allocIn []).stopAccess .host (Rg.QC_ACMD (1 : Fin 32).val) = none) ∧
    ((allocIn []).allocCode 1 { queue0 with cfg := ((allocIn []).reg (Rg.QC_ACFG 1)).toNat, mbase := (allocIn []).f (F.QC_AMBASE_OFS 1) } = 0 ∧
     (allocIn []).freeQueue 1 = some 1024) ∧
    up.allocCode 1 { queue0 with cfg := (up.reg (Rg.QC_ACFG 1)).toNat, mbase := up.f (F.QC_AMBASE_OFS 1) } ≠ 0 ∧
    (((hostQ 3 0 []).queue 1024).en = true ∧ ((hostQ 3 0 []).queue 1024).ending = false ∧ (up.queue 1024).en = false) ∧
    ((up.setQueue 1024 { mkQ 0x080 0x080 3 with ending := true }).queue 1024).ending = true ∧
    (State.reset.bar4Stop none 1024 = true ∧ up.bar4Stop none 1024 = false ∧ up.closed 0 = false ∧
     (pwrIn up (fun p => { p with held := 1 })).closed 0 = true) ∧
    (let s := hostQ 3 0 []
     s.mayPush 1024 partyHost = true ∧ 1 ≤ (s.queue 1024).free ∧ (s.queue 1024).free < 20 ∧ s.mayPop 1024 partyHost = true ∧
      1 ≤ s.poppable 1024 ∧ s.poppable 1024 < 20) ∧
    (up.mayPush 1024 partyHost = false ∧ up.mayPop 1024 partyHost = false ∧ (up.queue 1024).bells = []) ∧
    (let s := hostQ 3 2 [{ n := 1, frame := true, seq := 0 }]
     (s.queue 1024).bells = [{ n := 1, frame := true, seq := 0 }] ∧ s.hostWaits 1 = [] ∧ s.portBFree 1 = true ∧ s.nextWrite 1 = none) ∧
    (∀ b, (hostQ 3 2 [{ n := 1, frame := true, seq := 0 }]).portA b = none) ∧
    (∀ b, (hostQ 3 3 [{ n := 3, frame := true, seq := 0 }]).portA b = none) ∧
    (let s := memIn (hostQ 3 2 [{ n := 1, frame := true, seq := 5 }])
       (fun m => { m with host := [(1, [{ up.newHost true 0x800000 4 [] false with seq := 3 }])], cyc := [(1, { cyc0 with id := 50000001, busyB := true })] })
     (s.hostWaits 1).any (fun a => a.write && decide (a.seq < 5)) = true ∧ s.portBFree 1 = false) := by
  refine ⟨?_, ?_, ?_, ?_, ?_, ?_, ?_, ?_, ?_, fun _ => rfl, fun _ => rfl, ?_⟩ <;> and_intros <;> decide +kernel

/-- A head of queue 5 that has waited since fc `since`, its head-of-line timer acting as given. -/
def holIn (since act : Nat) : State :=
  put (up.setQueue 5 { mkQ 0x280 0x080 2 with headAt := since }) [(F.QC_Q_HOL_EN 0 5, 1), (F.QC_Q_HOL_ACT 0 5, act)]

theorem test_meets_QueueRequestsFlowTableAndTimeouts :
    (let s := (portUp []).setQueue 5 (mkQ 0x180 0x180 2)
     s.portTakes 0 0 (s.entryBeats 5) 0 = true ∧ s.portTakes 0 0 0 (s.entryBeats 5) = true ∧ s.failedGroup 0 0 = none ∧
      s.portTakes 0 1 0 (s.entryBeats 5) = false) ∧
    (up.stopAccess .host Rg.FH_FTCMD = none ∧ (0x80000003#32).getLsbD 30 = false ∧ (0x80000003#32).getLsbD 31 = true ∧
     (0x40000003#32).getLsbD 30 = true ∧ ∀ e ∈ up.flowPast, e.1 < up.tl.fc) ∧
    (∀ act ∈ [0, 1, 2], let s := holIn 5 act
     (s.queue 5).en = true ∧ (s.queue 5).lent = 0 ∧ s.b (F.QC_Q_HOL_EN 0 5) = true ∧ (s.queue 5).count ≠ 0 ∧
      (s.queue 5).headAt + s.holLimit 5 ≤ s.tl.fc) ∧
    (let s := holIn (10000001 - up.holLimit 5) 1
     s.tl.fc < (s.queue 5).headAt + s.holLimit 5 ∧ (up.queue 5).en = false) := by
  decide +kernel

/-- The flow's stamp of a frame that arrives now. -/
def stampNow : Nat := 16 * (3 * 2 ^ 34 + 8192)

theorem test_meets_FramesBecomeRecordsOrAreCounted :
    (fhUp.portUp 1 = false ∧ fhUp.portUp 0 = true ∧ fhUp.f F.RPL_STAT_MODE < 2 ∧
     (let s := put fhUp [(F.RPL_STAT_MODE, 2)]
      s.portUp 0 = true ∧ 2 ≤ s.f F.RPL_STAT_MODE)) ∧
    (macDiscard (fhUp.f (F.FH_PORT_CFG_MAXLEN 0)) (frm 0xAEFE [] false) = some 0 ∧
     macDiscard (fhUp.f (F.FH_PORT_CFG_MAXLEN 0)) (frm 0x8808 [] true) = some 1 ∧
     macDiscard (fhUp.f (F.FH_PORT_CFG_MAXLEN 0)) (frm 0x88F7 [] true) = none ∧ (parseFrame (frm 0x88F7 [] true).bytes).timing = true ∧
     fhUp.rin.cfg.ptpPort = 0 ∧ { RinCfg.shipped with ptpPort := 4 }.ptpPort ≠ 0) ∧
    (macDiscard (fhUp.f (F.FH_PORT_CFG_MAXLEN 0)) ecpriFrame = none ∧ (parseFrame ecpriFrame.bytes).timing = false) ∧
    (∀ p ∈ [0x280, 0x281], let s := flowUp p
     s.portUp 0 = true ∧ s.f F.RPL_STAT_MODE < 2 ∧ s.stampOf ecpriFrame = (stampNow, s) ∧
      (s.flowAsOf s.tl.fc).find? (fun e => (parseFrame ecpriFrame.bytes).matches (s.portNumber 0) e.2) = some (3, (0x81FFE000, 3, 5)) ∧
      nbits (5#32).toNat 0 15 = 5 ∧ s.nextWrite 0 = none ∧
      (s.ingressBar 5 (partyFh 0) (16 + (parseFrame ecpriFrame.bytes).rest.length)).isSome = decide (p = 0x281)) ∧
    (∀ b, (flowUp 0x280).portA b = none) ∧
    (let s := { flowUp 0x280 with flow := [], flowPast := [(9999998, (3, (0x81FFE000, 3, 5)))] }
     (s.flowAsOf (s.tl.fc - 3)).find? (fun e => (parseFrame ecpriFrame.bytes).matches (s.portNumber 0) e.2) = some (3, (0x81FFE000, 3, 5))) ∧
    (fhUp.stampOf ecpriFrame = (stampNow, fhUp) ∧ (fhUp.flowAsOf fhUp.tl.fc) = [] ∧ fhUp.closed 0 = false ∧ fhUp.b (F.FH_UMQ_EN 0) = false) ∧
    (let s := put (fhUp.setQueue 6 (mkQ 0x280 0x180 2)) [(F.FH_UMQ_EN 0, 1), (F.FH_UMQ_QUEUE 0, 6)]
     s.stampOf ecpriFrame = (stampNow, s) ∧ s.b (F.FH_UMQ_EN 0) = true ∧ s.f (F.FH_UMQ_QUEUE 0) = 6 ∧
      s.ingressBar 6 (partyFh 0) (16 + (parseFrame ecpriFrame.bytes).rest.length) = none ∧ s.nextWrite 0 = none) := by
  refine ⟨?_, ?_, ?_, ?_, fun _ => rfl, ?_⟩ <;> and_intros <;> decide +kernel

/-- How far away the head that feeds port 0 is. -/
def away (s : State) : Int := distance (s.takeRecord [] 5).1.time s.fhTime

theorem test_meets_DeparturesLeaveAtTheirTime :
    (up.departs 0 = false ∧ 6 ∉ (depUp 0).feeds 0) ∧
    (let s := depUp (3 * 2 ^ 34 + 8192)
     s.departs 0 = true ∧ s.feeds 0 = [5] ∧ (s.takeRecord [] 5).1.hdrBad = false ∧ (s.takeRecord [(0x20, .uncorr)] 5).1.hdrBad = true ∧
      away s = 0 ∧ (s.queue 5).headAt < s.tl.fc ∧ s.tl.depAt < s.tl.fc ∧ (s.takeRecord [] 5).1.time % 2 ^ 34 < L) ∧
    (let s := depUp (3 * 2 ^ 34 + L)
     s.departs 0 = true ∧ s.feeds 0 = [5] ∧ L ≤ (s.takeRecord [] 5).1.time % 2 ^ 34) ∧
    (let s := depUp (4 * 2 ^ 34 + 8193)
     s.departs 0 = true ∧ s.feeds 0 = [5] ∧ (L : Int) < away s) ∧
    (∀ k ∈ [8193, 8189, 8188], let s := depUp (3 * 2 ^ 34 + k)
     s.departs 0 = true ∧ s.feeds 0 = [5] ∧ (s.takeRecord [] 5).1.hdrBad = false ∧ away s = k - 8192 ∧ s.f F.TL_DEPCFG_LATETOL = 4) ∧
    (let s := tlIn (depUp (3 * 2 ^ 34 + 8192)) (fun t => { t with depAt := 10000000 })
     s.departs 0 = true ∧ away s = 0 ∧ ¬ s.tl.depAt < s.tl.fc) := by
  decide +kernel

/-- Group 1 of ports 0 and 1, at a frame boundary, the first of fc 983,040,010. -/
def lagUp : State := tlIn (put fhUp [(F.FH_LAG_EN 1, 1), (F.FH_LAG_MEMBERS_MEMBERS 1, 3)]) (fun t => { t with at34 := 0, fc := 983040010 })

/-- Link 0 receives at an LEMC boundary; its queue holds `count` entries of 16, or is not there. -/
def rxUp (count : Option Nat) : State :=
  let s := match count with
    | some n => (linkUp 0).setQueue 5 (mkQ 0x280 0x180 n)
    | none => linkUp 0
  tlIn s (fun t => { t with at34 := 1024 })

theorem test_meets_PortsLinksAndMultiblocks :
    (fhUp.stopAccess .host (Rg.FH_PORT_CFG (1 : Fin 32).val) = none ∧ fhUp.b (F.FH_PORT_CFG_EN 1) = false ∧ fhUp.badPort 1 1 = false ∧
     fhUp.badPort 1 9 = true ∧ fhUp.b (F.FH_PORT_CFG_EN 0) = true ∧ fhUp.b (F.FH_PORT_STAT_UP 0) = true) ∧
    (let s := put fhUp [(F.FH_PORT_STAT_UP 0, 0)]
     s.b (F.FH_PORT_CFG_EN 0) = true ∧ s.f (F.FH_PORT_CFG_MODE 0) ≠ jesdMode ∧ s.b (F.FH_PORT_STAT_UP 0) = false ∧ s.portRuns 0 = true ∧
      (put s [(F.CLK_DOM_SRC 17, srcStopped)]).portRuns 0 = false) ∧
    (lagUp.lagOf 0 = some 1 ∧ lagUp.portUp 0 = true ∧ nbits lagUp.fh.act 0 1 = 0 ∧ lagUp.sched % frameFc = 0 ∧
     mget 0 lagUp.fh.upAt 0 + 983040000 ≤ lagUp.tl.fc ∧ fhUp.lagOf 0 = none) ∧
    (fhUp.stopAccess .host (Rg.JESD_LINK_CFG (1 : Fin 16).val) = none ∧ (fhUp.writeFields (Rg.JESD_LINK_CFG 1) 0x80000001).badLink 1 = false ∧
     (fhUp.writeFields (Rg.JESD_LINK_CFG 0) 0x80000001).badLink 0 = true) ∧
    (let s := put (linkUp 1) [(F.JESD_LINK_STAT_UP 0, 0)]
     s.b (F.JESD_LINK_CFG_EN 0) = true ∧ s.b (F.JESD_LINK_STAT_UP 0) = false ∧ s.lanesRun 0 (s.linkWidth 0) = true ∧
      (linkUp 0).b (F.JESD_LINK_STAT_UP 0) = true ∧ (linkUp 0).stopAccess .host (Rg.JESD_LINK_CFG (0 : Fin 16).val) = none) ∧
    (fhUp.linkRuns 0 false = false ∧ fhUp.linkRuns 0 true = false) ∧
    (∀ n ∈ [some 2, some 16, none], let s := rxUp n
     s.linkRuns 0 false = true ∧ s.lemcAt 0 (s.timeAgo (s.f (F.JESD_LINK_CFG2_RBD 0)) % 2 ^ 34) = true ∧ s.nextWrite 0 = none ∧
      (s.ingressBar 5 (partyFh 0) (16 + s.multiblock 0)).isNone = decide (n = some 2)) ∧
    (∀ b, (rxUp (some 2)).portA b = none) ∧
    (let s := tlIn (linkUp 1) (fun t => { t with at34 := 960 })
     s.linkRuns 0 true = true ∧ s.lemcAt 0 (advance s.progTime 64 % 2 ^ 34) = true ∧ s.closed 0 = false ∧ s.feeds 0 = []) ∧
    (let s := tlIn (recIn (linkUp 1) 0 (3 * 2 ^ 34 + 1024)) (fun t => { t with at34 := 960 })
     let r := (s.takeRecord [] 5).1
     s.linkRuns 0 true = true ∧ s.feeds 0 = [5] ∧ r.hdrBad = false ∧ r.time % 2 ^ 34 < L ∧ s.lemcAt 0 (r.time % 2 ^ 34) = true ∧
      distance r.time (advance s.progTime 64) = 0) := by
  refine ⟨?_, ?_, ?_, ?_, ?_, ?_, ?_, fun _ => rfl, ?_⟩ <;> and_intros <;> decide +kernel

/-! ## Codes, browse, graze, vertical links -/

/-- Two words of bank 1 wait to be written back, the first with `e`. -/
def wbIn (e : Ecc) (cyc : NMap MemCyc) : State :=
  memIn up (fun m => { m with wbq := [(1, [1048584, 1048585])], marks := [(1048584, e)], words := [(1048584, 7)], cyc := cyc })

/-- A soft-repair entry of bank `unit`. -/
def repairOf (unit : Nat) : SoftRepair := { cls := 0, unit := unit, sub := 0, row := 0, spare := 0, optime := 0, src := 0, pcc := 0 }

/-- A stored-slot word of slot 1 of tile 0 waits to be written back. -/
def slotWbIn (f : Fabric → Fabric) : State := fabIn up (fun x => f { x with slotErr := [(5, .corr)], slotWb := [5] })

/-- The passes of four engines end as given, bank 1's the earliest. -/
def brwIn (late : NMap Bool) : State :=
  memIn up (fun m => { m with words := [(1048584, 7)],
                              brw := { m.brw with due := [(0, 20000000), (1, 9000000), (48, 9000000), (52, 9000000), (56, 10000000)], late := late } })

/-- A plane of tile 0 that differs from its slot in its first group. -/
def upsetPlane : State := planeIn (fabIn up (fun f => { f with planes := [(0, 5)] })) 0 { Plane.reset with st := .valid, filled := true }

/-- A borrowed window of bank 1. -/
def borrowIn (since : Nat) (sr : List SoftRepair) : State :=
  memIn up (fun m => { m with borrow := [(1, { window := 3, since := since, repair := false })], srPend := sr })

/-- Group 70 of joint 1 as given. -/
def groupIn (x : Lanes) (pend : Bool) : State :=
  { up with vl := { up.vl with groups := [(4096 + 70, { vlGroup0 with lanes := x, pend := pend })] } }

theorem test_meets_WordsAreCorrectedAndRepaired :
    (∀ e ∈ [Ecc.corr, .uncorr], let s := wbIn e []
     mget [] s.mem.wbq 1 = 1048584 :: [1048585] ∧ s.cycFree 1 = true ∧ s.foundAt [] 1048584 = e) ∧
    (let s := wbIn .corr [(1, { cyc0 with id := 50000001, busyB := true })]
     mget [] s.mem.wbq 1 = 1048584 :: [1048585] ∧ s.cycFree 1 = false ∧ mget [] up.mem.wbq 1 = []) ∧
    ((slotWbIn id).wbDue 5 = true ∧ (slotWbIn (fun f => { f with portUse := [wordPort 5] })).wbDue 5 = false) ∧
    (up.stopAccess .host Rg.ECC_SRADD = none ∧ (0x80000000#32).getLsbD 31 = true ∧ nbits (0xA0000000#32).toNat 28 3 = 2 ∧
     nbits (0x98000000#32).toNat 28 3 = 1 ∧ nbits (0x98000000#32).toNat 23 5 = 16 ∧ nbits (0x80000000#32).toNat 28 3 = 0) ∧
    (let s := memIn up (fun m => { m with sr := [repairOf 0] })
     s.stopAccess .host Rg.ECC_SRADD = none ∧ s.srHas 0 0 0 0 = true ∧ s.srHas 0 0 0 1 = false) ∧
    (let s := memIn up (fun m => { m with sr := List.replicate 256 (repairOf 1) })
     s.srHas 0 0 0 0 = false ∧ 256 ≤ s.mem.sr.length) ∧
    (∀ n ∈ [3, 1], let s := memIn up (fun m => { m with spares := [(0, n)] })
     s.srHas 0 0 0 0 = false ∧ s.mem.sr.length < 256 ∧ mget 0 s.mem.spares (subKey 0 0 0) = n) := by
  decide +kernel

/-- An engine may read a place. -/
def mayRead (s : State) (a : BrowseAt) : Bool := s.dieUp (engDie (engOf a)) && s.browseCycle a && s.browseNext (engOf a) (browseIdx a)

theorem test_meets_BrowseReadsCorrectsAndReports :
    (mayRead (brwIn []) (.mem 1048584) = true ∧ mayRead (pwrIn up (fun x => { x with held := 0x1FF })) (.mem 1048584) = false ∧
     (brwIn []).browseNext (.unit 1) 1048584 = true) ∧
    (∀ e ∈ [Flaw.clean, .corr, .uncorr], (brwIn []).foundAt [(1048584, e)] 1048584 = e.ecc ∧ e.wrong % 2 ^ 64 = 0) ∧
    (mayRead up (.pgm 0 7) = true ∧ (∀ e ∈ [Ecc.corr, .uncorr], eccWorse e (mget Ecc.clean up.fab.pgmErr 7) = e)) ∧
    (let s := upsetPlane
     mayRead s (.plane 0 0 0 0) = true ∧ (s.plane 0 (s.tileRegion 0 0) 0).armed = true ∧ mfind s.fab.upsets 0 = none ∧
      mnum s.fab.planes (ckey 0 0 0 0) 8 ≠ mnum s.fab.slots (ckey 0 0 (s.plane 0 (s.tileRegion 0 0) 0).slot.val 0) 8) ∧
    (mfind up.mem.brw.due (engNum (.unit 0)) = none ∧
     (let s := memIn (brwIn []) (fun m => { m with marks := [(1048584, .uncorr)] })
      s.browseDone (.unit 1) = false)) ∧
    (∀ e ∈ [BrowseEng.unit 1, .coef 0, .pgm 0], (brwIn []).browseDone e = true ∧
      (mfind (brwIn []).mem.brw.due (engNum e)).any (fun d => decide (d ≤ (brwIn []).tl.fc)) = true ∧
      mget false (brwIn []).mem.brw.late (engNum e) = false) ∧
    (let s := memIn (brwIn []) (fun m => { m with brw := { m.brw with pos := [(48, { next := 0, last := 0, began := 9000 })] } })
     s.browseDone (.cfgl 0) = true ∧ mfind s.mem.brw.due (engNum (.cfgl 0)) = some 9000000) ∧
    ((mfind (brwIn []).mem.brw.due (engNum (.unit 0))).any (fun d => decide ((brwIn []).tl.fc < d)) = true ∧
     mget false (brwIn [(1, true)]).mem.brw.late (engNum (.unit 1)) = true) := by
  decide +kernel

theorem test_meets_GrazeBorrowsAndGivesBack :
    (∀ n ∈ [10, 5119], let s := tlIn (put up [(F.ECC_GRZBANK_EN, 2)]) (fun t => { t with at34 := 65536 + n })
     s.tl.released = true ∧ s.tl.at34 % 65536 < 5120 ∧ s.dieUp 0 = true ∧ mfind s.mem.borrow 1 = none ∧ s.grazeOn 1 = true) ∧
    (∀ k, (tlIn (put up [(F.ECC_GRZBANK_EN, 2)]) (fun t => { t with at34 := 65546 })).foundAt [] k = .clean) ∧
    (State.reset.tl.released = false ∧ (tlIn up (fun t => { t with at34 := 70656 })).tl.at34 % 65536 = 5120 ∧ (put up [(F.ECC_GRZBANK_EN, 0)]).grazeOn 1 = false ∧ up.mem.srPend = []) ∧
    (∀ n ∈ [9990000, 9994881], let s := borrowIn n [{ repairOf 1 with sub := 3 }]
     mfind s.mem.borrow 1 = some { window := 3, since := n, repair := false } ∧ n + 5119 ≤ s.tl.fc) ∧
    (mfind (borrowIn 9994882 []).mem.borrow 1 = some { window := 3, since := 9994882, repair := false } ∧ up.tl.fc < 9994882 + 5119) := by
  refine ⟨?_, unmarked _ rfl, ?_⟩ <;> and_intros <;> decide +kernel

theorem test_meets_LinkGroupsCorrectSwapAndFail :
    ((idleWord.flipped 1).syndrome ≠ 0 ∧ syndromePos (idleWord.flipped 1).syndrome.toNat = some 0 ∧ vlExists 1 70 = true ∧
     vlExists 2 4095 = false ∧ (idleWord.flipped (0x7F#71 <<< 64)).syndrome ≠ 0 ∧
     syndromePos (idleWord.flipped (0x7F#71 <<< 64)).syndrome.toNat = none ∧ (idleWord.flipped 0).syndrome = 0) ∧
    ((up.vlGroup 1 70).failed = false ∧ mget 0 (up.vlGroup 1 70).lanes.win 0 + 1 < up.shaftThresh) ∧
    (let s := groupIn { lanes0 with win := [(0, 200)] } false
     s.shaftThresh ≤ mget 0 (s.vlGroup 1 70).lanes.win 0 + 1 ∧ (s.vlGroup 1 70).lanes.faill = none ∧ (s.vlGroup 1 70).spare = some 0) ∧
    (let s := groupIn { lanes0 with win := [(0, 200)], faill := some 9 } false
     s.shaftThresh ≤ mget 0 (s.vlGroup 1 70).lanes.win 0 + 1 ∧ (s.vlGroup 1 70).lanes.faill = some 9 ∧ (s.vlGroup 1 70).pend = false) ∧
    (let s := groupIn { lanes0 with faill := some 9 } true
     (s.vlGroup 1 70).lanes.faill = some 9 ∧ (s.vlGroup 1 70).spare = some 0 ∧ (s.vlGroup 1 70).pend = true ∧ s.sched % 4096 = 0) ∧
    (vlLine 0 70 = some 3 ∧ vlExists 0 70 = true ∧ vlLine 0 5 = none ∧ vlExists 0 5 = true ∧ vlLine 1 627 = some 0 ∧ vlExists 1 627 = true) := by
  decide +kernel

theorem test_meets_CrossingsLaneTestsAndFences :
    (State.mayRestart (put up [(F.CFG_KEY_VALID, 1)]) ∧ 16 - (13 : Int).natAbs < 4 ∧ 4 ≤ 16 - (12 : Int).natAbs) ∧
    (nbits up.vl.dead 0 1 = 0 ∧ nbits { up.vl with dead := 1 }.dead 0 1 = 1) ∧
    (let s := { up with vl := { up.vl with retry := [(1, 15)] } }
     mget 0 s.vl.retry 1 + 1 = 16) ∧
    (up.b F.VL_TEST_RUNNING = false ∧ (let s := put up [(F.VL_TEST_RUNNING, 1)]
     s.b F.VL_TEST_RUNNING = true ∧ mwf vlGroup0 s.vl.groups = true ∧ vlExists 0 5 = true)) ∧
    (let s := put up [(F.VL_FENSTAT_PHASE, 1)]
     s.phase 0 = 1 ∧ s.drained 0 = true) ∧
    (let s := memIn (put (portUp [mkReq true false]) [(F.VL_FENSTAT_PHASE, 16)]) (fun m => { m with fenceAt := [(2, 9999999)] })
     s.phase 2 = 1 ∧ s.drained 2 = false ∧ s.tl.fc < mget 0 s.mem.fenceAt 2 + 1967 ∧ up.phase 2 ≠ 1) ∧
    (let s := put up [(F.VL_FENSTAT_PHASE, 3)]
     s.phase 0 = 3 ∧ ∀ d, d < 0 → s.dieUp d = true) ∧
    (let s := put up [(F.VL_FENSTAT_PHASE, 13)]
     s.phase 1 = 3 ∧ s.dieUp 0 = false) := by
  unfold State.mayRestart
  decide +kernel

/-! ## Loading -/

/-- The load of `ldUp` as given. -/
def ldOf (f : Load → Load) : Load := f (Load.fresh false false 0 1000 [])

/-- A part that boots under CFG_BOOT.BOOTSEL `n`. -/
def bootIn (n : Nat) : State := put (pwrIn up (fun x => { x with bootWait := true })) [(F.CFG_BOOT_BOOTSEL, n)]

/-- STREAM at a word of a stream. -/
def at_ (len pos : Nat) (l : Load) : Load := { l with len := len, pos := pos }

/-- The first routing frame of a tile is next. -/
def atFrame (l : Load) : Load := { l with len := 4000, pos := 9, opt := some 1, rmap := some [], far := some 4096 }

/-- The last word of a full image is next. -/
def atEnd (l : Load) : Load := { l with len := 400, pos := 399, opt := some 1, rmap := some [], far := some 4096 }

/-- A flash operation is asked for at an address, with a length. -/
def flashIn (a n : Nat) : State := put up [(F.CFG_FLADDR_ADDR, a), (F.CFG_HLEN_LEN, n)]

theorem test_meets_LoadsStartAndAreEnded :
    (up.stopAccess .host Rg.CFG_CMD = none ∧ nbits (0x10000004#32).toNat 28 4 = 1 ∧ up.loading = false ∧ up.b F.CFG_FLCMD_BUSY = false ∧
     nbits (0x20000000#32).toNat 28 4 = 2) ∧
    (let s := ldUp 1 id
     s.stopAccess .mgmt Rg.CFG_CMD = none ∧ s.loading = true ∧ s.ld = some (ldOf id) ∧ s.lastTry (ldOf id) ∧ s.ldStage ≠ stCommit ∧
      s.stageLate = false ∧ s.tl.running = true) ∧
    (let s := tlIn (ldUp 2 id) (fun t => { t with fc := stageLimit })
     s.ld = some (ldOf id) ∧ s.lastTry (ldOf id) ∧ s.ldStage ≠ stCommit ∧ s.loading = true ∧ s.stageLate = true) ∧
    (∀ n ∈ [0, 1, 2], let s := bootIn n
     s.pwr.bootWait = true ∧ s.pwr.stable = true ∧ s.pwr.started = true ∧ s.b F.VL_TEST_RUNNING = false ∧ s.loading = false ∧
      s.pwr.golden = false ∧ s.f F.CFG_BOOT_BOOTSEL = n) ∧
    (pwrIn (bootIn 2) (fun x => { x with golden := true })).pwr.golden = true ∧ up.pwr.bootWait = false := by
  unfold State.lastTry
  decide +kernel

theorem test_meets_HeadersAreChecked :
    (let s := keyIn (ldUp 1 id)
     s.ld = some (ldOf id) ∧ s.ldStage = stHeader ∧ (ldOf id).flash = false ∧ 7 ≤ (ldOf id).cap ∧ s.lastTry (ldOf id) ∧
      s.headerFail (ldOf id) ((hdr 5 0).take 7) = some (rMagic, 5, 0)) ∧
    (7 ≤ (hdr 5 0).length ∧ ((hdr 5 0).getD 0 0).toNat ≠ 0x4E415543) ∧
    (∀ kind ∈ [0, 1], (keyIn (ldUp 1 id)).headerFail (ldOf id) ((hdr 0x4E415543 (kind * 2 ^ 30)).take 7) = none) := by
  unfold State.lastTry
  decide +kernel

theorem test_meets_StreamPacketsTakeEffect :
    (∀ f ∈ [at_ 400 7, atFrame, atEnd], (ldUp 2 f).ld = some (ldOf f) ∧ (ldUp 2 f).ldStage = stStream ∧ (ldOf f).flash = false ∧
      (ldOf f).err = none ∧ (ldOf f).partl = false) ∧
    ([1, 2].length = packetWords (0x30000002#32).toNat ∧ (ldOf atEnd).packetBad (0x30000002#32).toNat = true) ∧
    (∀ h ∈ [0x10200001, 0x10600001, 0x10100001], [7].length = packetWords h ∧ (ldOf (at_ 400 7)).packetBad h = false ∧ nbits h 28 4 = 1) ∧
    ((ldOf (at_ 400 7)).packetBad 0x30000002 = false ∧ (ldOf atEnd).packetBad 0x50000000 = false ∧ packetWords 0x50000000 = 0) ∧
    (1 ≤ farKind 4096 ∧ farKind 4096 ≤ 4 ∧ frameLen 4096 = some (4 * 64)) ∧
    ((List.replicate 64 (3#32)).length = packetWords 0x20300040 ∧ (ldOf atFrame).packetBad 0x20300040 = false ∧ nbits 0x20300040 0 20 = 64) ∧
    (packetWords 0x40200001 = 0 ∧ (ldOf atFrame).packetBad 0x40200001 = false ∧ nbits 0x40200001 0 20 = 1) ∧
    (let s := ldUp 2 atFrame
     s.tileFree (farLayer 4096) (farTile 4096) = true ∧
      ∀ p, (s.plane (farLayer 4096) (s.tileRegion (farLayer 4096) (farTile 4096)) p).ask ≠ some (farSlot 4096)) ∧
    (let s := fabIn (ldUp 2 atFrame) (fun f => { f with tileUse := [tileNo 0 0] })
     s.tileFree (farLayer 4096) (farTile 4096) = false) := by
  decide +kernel

theorem test_meets_ImagesAreVerifiedCheckedAndCommitted :
    (let s := ldUp 3 id
     s.ld = some (ldOf id) ∧ s.ldStage = stVerify ∧ s.lastTry (ldOf id) ∧ (ldOf id).err = none) ∧
    (let f := fun (l : Load) => { l with err := some (9, 1, 2) }
     (ldUp 3 f).ld = some (ldOf f) ∧ (ldUp 3 f).lastTry (ldOf f) ∧ (ldOf f).err = some (9, 1, 2)) ∧
    (let f := fun (l : Load) => { l with rmap := some [8] }
     (ldUp 4 f).ldStage = stCheck ∧ (ldUp 4 f).checkFail (ldOf f) = some (rRegionmap, 8) ∧ (ldUp 4 f).lastTry (ldOf f)) ∧
    (∀ r ∈ [true, false], (partIn r).ldStage = stCheck ∧ ((partIn r).ld.all (fun l => (partIn r).checkFail l == none && l.partl && l.setReset == r)) = true ∧
      (partIn r).ld.isSome = true) ∧
    (fullIn.ldStage = stCheck ∧ (ldOf (fun l => { l with frames := fullFrames })).partl = false) := by
  unfold State.lastTry
  decide +kernel

/-- A full image passes its checks. -/
theorem test_meets_full : ∃ l, fullIn.ld = some l ∧ fullIn.checkFail l = none :=
  ⟨_, rfl, fullFrames_checks _ _ rfl rfl rfl rfl rfl⟩

theorem test_meets_FlashIsErasedAndProgrammed :
    (∀ e ∈ [(0x10000, 256), (0x10000, 3), (0x10001, 256)], let s := flashIn e.1 e.2
     s.stopAccess .host Rg.CFG_FLCMD = none ∧ s.b F.CFG_FLCMD_BUSY = false ∧ s.flashDenied (s.f F.CFG_FLADDR_ADDR) = false ∧
      s.f F.CFG_HLEN_LEN = e.2 ∧ s.f F.CFG_FLADDR_ADDR = e.1) ∧
    ((flashIn 0x10000 256).fitted 0x10000 65536 = true ∧ (flashIn 0x10000 256).fitted 0x10000 256 = true ∧ 0x10001 % 65536 ≠ 0 ∧ 3 % 256 ≠ 0) ∧
    (let s := put (flashIn 0x10000 256) [(F.CFG_FLCMD_BUSY, 1)]
     s.stopAccess .host Rg.CFG_FLCMD = none ∧ s.b F.CFG_FLCMD_BUSY = true) ∧
    (let s := { flashIn 0x10000 256 with fuse := { up.fuse with lcs := 2 } }
     s.stopAccess .host Rg.CFG_FLCMD = none ∧ s.flashDenied (s.f F.CFG_FLADDR_ADDR) = true) ∧
    ({ up with fl := some { addr := 0x10000, data := none } }.fl.isSome = true ∧
     { up with fl := some { addr := 0x10000, data := some [1, 2] } }.fl = some { addr := 0x10000, data := some [1, 2] }) := by
  decide +kernel

/-! ## Readback, clocks, temperature, calibration -/

/-- A readback or restore of one frame is asked for at `far`. -/
def rbIn (far mode : Nat) : State := put up [(F.CFG_RBCOUNT_COUNT, 1), (F.CFG_RBFAR_FAR, far), (F.RPL_STAT_MODE, mode)]

/-- A readback runs at `far` with `left` frames to go. -/
def rbRun (far left : Nat) : State := { up with rb := some { far := far, left := left, addr := 0 } }

/-- A restore's record of a flop frame. -/
def flopRec : HostRead := { bytes := leBytes 4 7168 ++ List.replicate 140 1, poisoned := [], failed := false }

/-- A capture target of hyperframe 3. -/
def capIn (at_ : Nat) : State := put up [(F.CFG_CAPAT_LO_AT, at_), (F.CFG_CAPAT_HI_HF, 3)]

/-- A capture armed for fc `due`. -/
def armIn (due : Nat) : State := { up with arm := some { layer := 0, region := 0, horn := false, due := due } }

/-- FOSC is ready, or not. -/
def foscIn (n : Nat) : State := put up [(F.CLK_OSCSTAT_FOSCRDY, n)]

/-- Every loop is good and locked; two domains are on their fallback. -/
def clkUp : State :=
  put up [(⟨Rg.CLK_PLLSTAT, 22, 1⟩, 1), (⟨Rg.CLK_PLLSTAT, 6, 1⟩, 1), (⟨Rg.CLK_PLLSTAT, 10, 1⟩, 1), (F.CLK_DOM_SRC 3, 1), (F.CLK_DOM_SRC 20, 1)]

/-- Domain 3 is ramping. -/
def rampUp : State := put up [(F.CLK_DOM_RAMP 3, 1), (F.CLK_DOM_DIV 3, 16), (F.CLK_DOM_SRC 3, 1)]

/-- Sensor 5's last reading, and the bands' and gradients' history. -/
def thmIn (p : Nat × Nat) : State :=
  { up with thm := { up.thm with sens := [(5, { prev := some 2000, bad := true, seen := true })], prev := [(0, p)], grad := [(1, secondSamples)] } }

/-- A tripped part. -/
def tripUp (l : List (Fld × Nat)) : State := put up ([(F.THERM_STAT_TRIPPED, 1)] ++ l)

/-- A sensor run of die 1 is asked for; every sensor reads, and every die is idle. -/
def calUp : State :=
  put { up with thm := { up.thm with sens := (List.range 60).map (fun x => (x, { prev := some 2000, bad := false, seen := true })) } }
    [(⟨Rg.THERM_CALCTL, 17, 1⟩, 1), (F.THERM_STAT_TRIPPED, 1)]

theorem test_meets_FramesAreReadBackAndCaptured :
    (∀ s ∈ [put up [(F.CFG_RBSTAT_BUSY, 1)], rbIn 1024 0], s.stopAccess .host Rg.CFG_RBCMD = none) ∧
    (put up [(F.CFG_RBSTAT_BUSY, 1)]).b F.CFG_RBSTAT_BUSY = true ∧ nbits 0x10000000 28 4 = 1 ∧ nbits 0x30000000 28 4 = 3 ∧ nbits 0x20000000 28 4 = 2 ∧
    (let s := { rbIn 1024 0 with fuse := { up.fuse with lcs := 2 } }
     s.stopAccess .host Rg.CFG_RBCMD = none ∧ s.b F.CFG_RBSTAT_BUSY = false ∧ s.f F.CFG_RBCOUNT_COUNT ≠ 0 ∧ farKind (s.f F.CFG_RBFAR_FAR) ≠ 7) ∧
    (let s := rbIn 1024 0
     s.b F.CFG_RBSTAT_BUSY = false ∧ s.f F.CFG_RBCOUNT_COUNT ≠ 0 ∧ s.fuse.lcs ≠ 2 ∧ s.f F.RPL_STAT_MODE < 2) ∧
    (let s := rbIn 7168 2
     let far := s.f F.CFG_RBFAR_FAR
     s.stopAccess .host Rg.CFG_RBCMD = none ∧ s.b F.CFG_RBSTAT_BUSY = false ∧ s.f F.CFG_RBCOUNT_COUNT = 1 ∧ 2 ≤ s.f F.RPL_STAT_MODE ∧
      (s.seq (farLayer far)).mode = .stopped ∧ farKind far = 7 ∧ farMinor far = 0 ∧ (farSlot far).val = 0 ∧ flopRec.bytes.length = 144 ∧
      flopRec.poisoned = [] ∧ leNat (flopRec.bytes.take 4) = far) ∧
    up.rb = none ∧ (rbRun 1024 0).rb = some { far := 1024, left := 0, addr := 0 } ∧ rbLen 1023 = none ∧
    (rbLen 1024 ≠ none ∧ (put (rbRun 1024 1) [(F.VL_FENSTAT_PHASE, 1)]).pathUp 1024 = false) ∧
    (let s := fabIn (rbRun 1024 1) (fun f => { f with tileUse := [tileNo 0 0] })
     s.pathUp 1024 = true ∧ s.frameReady 1024 = false) ∧
    (let s := fabIn (rbRun 4096 1) (fun f => { f with slots := [(4097 + 256, 8)] })
     (∀ far ∈ [1024, 4096], (rbLen far).isSome = true ∧ s.pathUp far = true ∧ s.frameReady far = true ∧ 1 ≤ farKind far ∧ farKind far ≤ 4) ∧
      mwf 0 s.fab.slots = true) ∧
    (let s := capIn 9000
     let d := distance s.capTarget s.progTime
     s.stopAccess .host Rg.CFG_CAPCTL = none ∧ s.tl.released = true ∧ s.arm = none ∧ s.capTarget % 2 ^ 34 < L ∧ 1 ≤ d ∧ d ≤ (L : Int) ∧
      (s.layer 0).cap = none) ∧
    distance (capIn 8192).capTarget (capIn 8192).progTime < 1 ∧
    ((armIn 10000001).arm.isSome = true ∧ (armIn 10000001).tl.fc < 10000001) ∧
    (let s := armIn 10000000
     10000000 ≤ s.tl.fc ∧ s.regionTiles 0 0 ≠ [] ∧
      ((s.layer 0).cap = none ∨ (s.layer 0).cap.isSome = true)) := by
  decide +kernel

theorem test_meets_ClocksFallBackAndGatesClose :
    (∀ i ∈ [(1 : Fin 7), 2, 3], i ≠ 6 ∧ (∀ d ∈ [20, 15, 23, 14], clkUp.f (F.CLK_DOM_SRC d) = if d = 20 then 1 else srcPrimary)) ∧
    (State.reset.f (F.CLK_DOM_SRC 20) = srcPrimary ∨ up.f (F.CLK_DOM_SRC 20) = srcPrimary) ∧
    (foscIn 1).b F.CLK_OSCSTAT_FOSCRDY = true ∧ (foscIn 0).b F.CLK_OSCSTAT_FOSCRDY = false ∧ (foscIn 0).pwr.fosc = true ∧
    (let s := put (foscIn 0) [(F.CLK_DOM_SRC 3, srcStopped)]
     s.b F.CLK_OSCSTAT_FOSCRDY = false ∧ s.f (F.CLK_DOM_SRC 3) = srcStopped) ∧
    (State.reset.pwr.started = false ∧ State.reset.b (loopFld 6 2) = false ∧ up.b F.TL_STATUS_DEGRADED = false) ∧
    rampUp.b (F.CLK_DOM_RAMP 3) = true ∧ clkUp.b (F.CLK_DOM_RAMP 3) = false ∧
    clkUp.primaryGood 23 = true ∧
    (∀ d ∈ [3, 20], clkUp.stopAccess .host (Rg.CLK_DOM d) = none ∧ clkUp.primaryGood d = true ∧ clkUp.f (F.CLK_DOM_SRC d) ≠ srcPrimary) ∧
    (3 ∉ family ∧ 20 ∈ family ∧ (0x80000000 : Word).getLsbD 31 = true) ∧
    (rampUp.stopAccess .host (Rg.CLK_DOM 3) = none ∧ up.stopAccess .mgmt Rg.CLK_GATE0 = none ∧ up.stopAccess .host Rg.CLK_GATE1 = none) ∧
    ((put up [(gateBit 3, 0)]).gatePending 3 = true ∧ State.reset.gatePending 3 = false) := by
  decide +kernel

theorem test_meets_SensorsMoveBandsAndTrips :
    (let l : List (Fin 62 × Option Int) := [(5, some 2000)]
     l.find? (fun e => e.1.val == 5) = some (5, some 2000) ∧ up.sampled 5 = true ∧ up.b (brokenOf 5) = false ∧ sampleBad up l 5 = false ∧
      up.b (staleOf 5) = false) ∧
    (let l : List (Fin 62 × Option Int) := [(5, some 12000)]
     let s := thmIn (3, 2)
     l.find? (fun e => e.1.val == 5) = some (5, some 12000) ∧ s.sampled 5 = true ∧ s.b (brokenOf 5) = false ∧ sampleBad s l 5 = true ∧ (s.sensor 5).bad = true) ∧
    (let s := thmIn (3, 2)
     mfind s.thm.prev 0 = some (3, 2) ∧ (∀ x ∈ dieSensors 0, s.b (brokenOf x) = false) ∧ dieSensors 0 ≠ [] ∧ s.band 0 < bandAt 12000 ∧ s.band 0 < 3 ∧
      bandAt 0 ≤ s.band 0 ∧ s.band 0 ≤ 2) ∧
    (let s := { put up [(F.THERM_BAND_BANDS, 3)] with thm := { up.thm with prev := [(0, (1, 1))] } }
     mfind s.thm.prev 0 = some (1, 1) ∧ (∀ x ∈ dieSensors 0, s.b (brokenOf x) = false) ∧ bandAt (2000 + 192) < s.band 0 ∧ 1 < s.band 0) ∧
    (mget 0 (thmIn (3, 2)).thm.grad 1 = secondSamples ∧ mget 0 up.thm.grad 1 ≠ secondSamples) ∧
    (let s := tripUp []
     s.stopAccess .host Rg.THERM_CTL = none ∧ (0x40000000 : Word).getLsbD 30 = true ∧ s.b F.THERM_STAT_TRIPPED = true ∧ s.allCool = true ∧ s.tripHeld = false) ∧
    (let s := put (pwrIn up (fun x => { x with byTrip := true })) [(F.THERM_STAT_TRIPPED, 1), (F.CFG_KEY_VALID, 1)]
     s.stopAccess .host Rg.THERM_CTL = none ∧ s.b F.THERM_STAT_TRIPPED = true ∧ s.allCool = true ∧ s.tripHeld = true ∧ s.b F.CFG_KEY_VALID = true ∧
      s.pwr.loadAfter = false ∧ s.ld = none) ∧
    (up.stopAccess .host Rg.THERM_CTL = none ∧ up.b F.THERM_STAT_TRIPPED = false) := by
  decide +kernel

theorem test_meets_CalibrationsRunAndReport :
    (∀ s ∈ [up, put up [(F.SDS_LANE_CAL_BUSY 0, 1)]], s.stopAccess .host (Rg.SDS_LANE_CAL 0) = none) ∧
    ((put up [(F.SDS_LANE_CAL_BUSY 0, 1)]).b (F.SDS_LANE_CAL_BUSY 0) = true ∧ up.b (F.SDS_LANE_CAL_BUSY 0) = false ∧
      (0x80000000 : Word).getLsbD 31 = true) ∧
    up.stopAccess .host Rg.THERM_CALCTL = none ∧
    (let s := memIn up (fun m => { m with reqAt := 9999999 })
     s.mem.reqAt ≠ 0 ∧ s.tl.fc < s.mem.reqAt + 983040) ∧
    (memIn up (fun m => { m with reqAt := 1 })).mem.reqAt + 983040 < up.tl.fc ∧
    (∀ i ∈ [0, 1], let s := put calUp [(⟨Rg.THERM_CALCTL, 16, 1⟩, 1), (⟨Rg.THERM_CALCTL, 17, 1⟩, 1)]
     s.b ⟨Rg.THERM_CALCTL, 16 + i, 1⟩ = true ∧ s.b (F.THERM_CAL_CNT_BUSY i) = false ∧ s.diePowered i = true ∧ (i = 0 ∨ s.dieIdle true i = true) ∧
      16 ≤ s.idleSensors true) ∧
    up.b ⟨Rg.THERM_CALCTL, 17, 1⟩ = false ∧ (put up [(F.THERM_CAL_CNT_BUSY 1, 1)]).b (F.THERM_CAL_CNT_BUSY 1) = true ∧
    (up.pwr.stable = true ∧ up.ddrRail = true ∧ 0 < up.dramChannels ∧ (pwrIn up (fun x => { x with stable := false })).pwr.stable = false) ∧
    (let s := { up with thm := { up.thm with ddrPend := 6 } }
     nbits s.thm.ddrPend 1 1 = 1 ∧ s.thm.ddrPend % 2 ^ 1 = 0 ∧ nbits s.thm.ddrPend 2 1 = 1 ∧ s.thm.ddrPend % 2 ^ 2 ≠ 0) := by
  decide +kernel

/-! ## PCIe, test ports, descriptors -/

/-- The PCIe link is down; its clocks are good. -/
def linkDown : State := { put up [(F.CLK_OSCSTAT_REFCLKOK, 1)] with pcieUp := false }

/-- Every sensor reads 15.6 degrees. -/
def sensed : State :=
  { up with thm := { up.thm with sens := (List.range 60).map (fun x => (x, { prev := some 2000, bad := false, seen := true })) } }

/-- A completion of 128 bytes of 9. -/
def read9 : HostRead := { bytes := List.replicate 128 9, poisoned := [], failed := false }

/-- A descriptor that has just begun. -/
def jobOf (d : Desc) : DmaJob := { desc := d, read := read9, moved := 0, fill := false, filled := false, since := 9999990 }

/-- A descriptor of channel 0 is under way on queue 5, whose marks and entries are given. -/
def jobIn (d : Desc) (prod cons count : Nat) : State :=
  { dmaUp.setQueue 5 (mkQ prod cons count) with dma := [(0, jobOf d)] }

/-- The engine owns bank 1. -/
def ownB : State := put dmaUp [(F.MEM_BANK_STAT_CUROWNER 1, 4)]

theorem test_meets_LinkResetsAndTestPortsAnswer :
    (linkDown.pwr.perst = true ∧ linkDown.pwr.phyGood = true ∧ linkDown.b F.CLK_OSCSTAT_REFCLKOK = true ∧ linkDown.quiet 14 = false ∧
      linkDown.sdsOn = true ∧ linkDown.pcieUp = false) ∧
    (up.pcieUp = true ∧ ¬ (State.reset.pwr.perst = true ∧ State.reset.pwr.phyGood = true)) ∧
    up.stopAccess .host (Rg.DEV_DMA_TAIL 3) = none ∧ dmaReg (Rg.DEV_DMA_TAIL 3) = true ∧ dmaReg Rg.PWR_RST = false ∧
    up.tap.reset = false ∧ { up with tap := { up.tap with reset := true } }.tap.reset = true ∧
    (vfVector 3 ≤ vfVector 3 + 4 ∧ vfVector 3 + 4 < vfVector 3 + 32) ∧
    (sensed.hottest ((List.range 10).flatMap sensed.sound)).isSome = true ∧
    (up.smbUp = true ∧ State.reset.smbUp = false) := by
  decide +kernel

theorem test_meets_DescriptorsMoveData :
    (up.dmaRuns 0 = false ∧ (mfind (jobIn (desc 1 5 2 0) 0x100 0x100 0).dma 0).isSome = true) ∧
    (let s := dmaUp.setQueue 5 (mkQ 0x100 0x100 0)
     s.dmaRuns 0 = true ∧ mfind s.dma 0 = none ∧ descOp (head 0 5 2) = 0 ∧ 4 < descOp (head 5 5 2) ∧ descOp (head 1 5 2) = 1 ∧
      s.closed 0 = false ∧ s.baseDead = false ∧ read9.failed = false ∧ s.mem.writes = [] ∧ s.mayPush 5 (partyHdma 0) = true ∧
      descCount (head 1 5 0) = 0 ∧ 0 < descCount (head 1 5 2) ∧ (s.queue 5).free ≠ 0) ∧
    (let s := { ownB with vl := { ownB.vl with dead := 1 } }
     s.dmaRuns 0 = true ∧ s.baseDead = true) ∧
    ((put ownB [(F.VL_FENSTAT_PHASE, 1)]).dmaRuns 0 = true ∧ (put ownB [(F.VL_FENSTAT_PHASE, 1)]).closed 0 = true) ∧
    (let s := dmaUp.setQueue 5 (mkQ 0x200 0x180 2)
     s.dmaRuns 0 = true ∧ s.mayPush 5 (partyHdma 0) = false ∧ s.mayPop 5 (partyHdma 0) = false) ∧
    (let s := dmaUp.setQueue 5 (mkQ 0x100 0x100 16)
     (s.queue 5).free = 0 ∧ s.mayPush 5 (partyHdma 0) = true ∧ descOp (head 2 5 2) = 2 ∧ s.mayPop 5 (partyHdma 0) = true ∧ s.poppable 5 ≠ 0) ∧
    (dmaUp.setQueue 5 (mkQ 0x100 0x100 0)).poppable 5 = 0 ∧
    (∀ op ∈ [3, 4], descOp (head op 5 64) = op ∧ 64 ≤ descCount (head op 5 64) ∧ ownB.ownerHolds 0x800040 = false ∧
      ownB.dmaRuns 0 = true ∧ ownB.denied 0x800040 dmaMaster = none ∧ ownB.denied 0x1000040 dmaMaster ≠ none) ∧
    (let s := jobIn (desc 2 5 2 0) 0x100 0x100 5
     s.portBFree 0 = true ∧ s.dmaTurn (fun j => descOp j.desc.toDescHead == 2 && descQueue j.desc.toDescHead / 1024 == 0) = some (0, jobOf (desc 2 5 2 0))) ∧
    { jobIn (desc 2 5 2 0) 0x100 0x100 5 with mem := busyB.mem }.portBFree 0 = false ∧
    (let s := jobIn (desc 1 5 2 0) 0x100 0x100 0
     s.portBFree 0 = true ∧ s.nextWrite 0 = none ∧ s.dmaTurn (fun j => descOp j.desc.toDescHead == 2 && descQueue j.desc.toDescHead / 1024 == 0) = none ∧
      s.dmaTurn (fun j => descOp j.desc.toDescHead == 1 && descQueue j.desc.toDescHead / 1024 == 0 && !s.mem.writes.any (fun r => r.queue == descQueue j.desc.toDescHead)) =
        some (0, jobOf (desc 1 5 2 0))) ∧
    (∀ op ∈ [3, 4], let s := { ownB with dma := [(0, jobOf (desc op 5 64 0x800040))] }
     (s.cyc 1).busyA = false ∧ s.dmaTurn (fun j => decide (2 < descOp j.desc.toDescHead) && (placeOf j.addr).1 == 1 && !j.fill) =
        some (0, jobOf (desc op 5 64 0x800040)) ∧ (jobOf (desc op 5 64 0x800040)).have_ 64 = 1) ∧
    (∀ b, (jobIn (desc 1 5 2 0) 0x100 0x100 0).portA b = none) ∧
    (∀ k, { ownB with dma := [(0, jobOf (desc 4 5 64 0x800040))] }.foundAt [] k = .clean) := by
  refine ⟨?_, ?_, ?_, ?_, ?_, ?_, ?_, ?_, ?_, ?_, ?_, ?_, fun _ => rfl, fun k => unmarked _ rfl k⟩ <;> and_intros <;> decide +kernel

/-! ## Power, resets, start-up, events -/

/-- Rails 0 and 10 are below their warning levels. -/
def warnIn : State := put up [(F.PWR_RAIL_WARN 0, 1), (F.PWR_RAIL_WARN 10, 1)]

/-- A part whose stack has been entered. -/
def lowUp (f : Power → Power) : State := put (pwrIn up f) [(F.PWR_STAT_READY, 1), (F.PWR_STAT_STATE, 1)]

/-- The stack may start: its clocks are locked. -/
def startIn : State :=
  put (pwrIn up (fun x => { x with started := false })) [(⟨Rg.CLK_PLLSTAT, 26, 1⟩, 1), (⟨Rg.CLK_PLLSTAT, 6, 1⟩, 1), (⟨Rg.CLK_PLLSTAT, 10, 1⟩, 1)]

/-- An occurrence waits at source 3, a latch of it is on its way, and its vector is pending. -/
def evtIn : State :=
  { up with evt := { up.evt with info := [(3, { srcInfo0 with wait := [{ src := 3, sev := .warning, time := none, payload := [] }] })],
                                 latches := [{ mask := 1, ein := 2, due := some 10000000, src := 3 }], pba := [(3, true)] } }

theorem test_meets_RailsFallAndRise :
    (∀ r ∈ [0, 3, 9], up.b (F.PWR_RAIL_WARN r) = false ∧ 100 < (railLevels r).2.1 ∧ up.railOk r = true ∧ 100 < (railLevels r).2.2 ∧ up.pwr.pend = []) ∧
    (∀ r ∈ [0, 10], warnIn.b (F.PWR_RAIL_WARN r) = true ∧ warnIn.railOk r = true ∧ 600 < (railLevels r).2.1 ∧
      200 * (railLevels r).2.1 + (railLevels r).1 ≤ 200 * 2000 ∧ (railLevels r).2.1 ≤ 2000) ∧
    (coreRail 0 = true ∧ nbits (railDies 9) 3 1 + nbits (railDies 8) 3 1 + nbits (railDies 10) 3 1 ≠ 0) ∧
    (∀ r ∈ [0, 1, 9], (put up [(F.PWR_STAT_RAILOK, 0)]).railOk r = false ∧ (railLevels r).2.2 ≤ 2000) ∧
    (∃ r ∈ [8, 9, 10], (put up [(F.PWR_STAT_RAILOK, 0)]).orderBroken r = true) := by
  decide +kernel

theorem test_meets_ResetsReachWhatTheyName :
    coreRail 1 = false ∧ up.stopAccess .host Rg.PWR_RST = none ∧ up.ldStage ≠ stCommit ∧ nbits 0xA5000001 24 8 = 0xA5 ∧ nbits 0xA5000001 0 3 = 1 ∧
    (put up [(F.CFG_STATUS_STAGE, 5)]).ldStage = stCommit ∧
    ((put up [(F.CFG_KEY_VALID, 1)]).stopAccess .host Rg.PWR_RST = none ∧ (put up [(F.CFG_KEY_VALID, 1)]).mayRestart) ∧
    (nbits 1 24 8 ≠ 0xA5 ∧ nbits 0xA5000003 24 8 = 0xA5 ∧ nbits 0xA5000003 0 3 = 3) ∧
    (up.pwr.booted = true ∧ up.pwr.mgmtRst = false ∧ (recent (up.opSeconds 2) up.pwr.mwTimes).length < 3) ∧
    (let s := pwrIn up (fun x => { x with mwTimes := [1, 1, 1] })
     s.pwr.booted = true ∧ s.pwr.mgmtRst = false ∧ 3 ≤ (recent (s.opSeconds 2) s.pwr.mwTimes).length ∧ s.ldStage ≠ stCommit) ∧
    (pwrIn up (fun x => { x with mgmtRst := true })).pwr.mgmtRst = true := by
  unfold State.mayRestart
  decide +kernel

theorem test_meets_StartUpEntersAndWakes :
    (let s := pwrIn up (fun x => { x with booted := false })
     s.pwr.fosc = true ∧ s.pwr.booted = false ∧ s.newerCopy = none ∧
      ({ s with nvs := { up.nvs with copies := #v[some ⟨1, [(3, 5)]⟩, none] } }.newerCopy).isSome = true) ∧
    (let s := pwrIn up (fun x => { x with mgmtRst := true })
     s.pwr.fosc = true ∧ s.pwr.booted = true ∧ s.pwr.mgmtRst = true ∧ State.reset.pwr.fosc = false) ∧
    (startIn.mayStart = true ∧ up.mayStart = false) ∧
    (up.stopAccess .host Rg.PWR_CMD = none ∧ nbits 0x50000000 30 2 = 1 ∧ (up.writeFields Rg.PWR_CMD 0x50000000).enterRefused = false ∧
      (lowUp id).stopAccess .host Rg.PWR_CMD = none ∧ ((lowUp id).writeFields Rg.PWR_CMD 0x50000000).enterRefused = true) ∧
    (nbits 0x80000000 30 2 = 2 ∧ (lowUp id).b F.PWR_STAT_READY = true ∧ up.b F.PWR_STAT_READY = false) ∧
    (let s := put (pwrIn up (fun x => { x with target := 1 })) [(F.PWR_STAT_ENTERING, 1)]
     s.b F.PWR_STAT_ENTERING = true ∧ s.pwr.toHold = 0 ∧ s.pwr.target ≤ 2 ∧ up.b F.PWR_STAT_ENTERING = false) ∧
    (let s := lowUp (fun x => { x with fell := 1024 })
     s.b F.PWR_STAT_READY = true ∧ s.pwr.fell ≠ 0 ∧ s.stackRails = true ∧ (∀ r ∈ List.range 11, nbits s.pwr.fell r 1 = 1 → s.railOk r = true) ∧ up.pwr.fell = 0) ∧
    (let s := put (lowUp (fun x => { x with fell := 32 })) [(railBit 5, 0)]
     nbits s.pwr.fell 5 1 = 1 ∧ s.railOk 5 = false) ∧
    ((put up [(F.PWR_STAT_WAKING, 1)]).mayWake = true ∧ up.mayWake = false) := by
  decide +kernel

theorem test_meets_EventsAreTakenClearedAndSent :
    (mwf srcInfo0 up.evt.info = true ∧ (∀ n, ∀ o ∈ (up.src n).wait, o.src = n)) ∧
    (evtIn.src 3).wait ≠ [] ∧ (put evtIn [(srcBit (fun w => Rg.EVT_EN w) 3, 1)]).srcEnabled 3 = true ∧
    up.stopAccess .host (Rg.EVT_PEND 0) = none ∧ evtIn.evt.pba = [(3, true)] ∧
    (evtIn.evt.latches.map (fun l => (l.src, evtIn.latchDue l)) = [(3, true)] ∧ up.evt.latches = []) := by
  refine ⟨⟨?_, fun _ _ h => absurd h List.not_mem_nil⟩, ?_⟩ <;> and_intros <;> decide +kernel

/-! ## Records, timeouts, capture, replay, settings, signed commands -/

/-- A record of a severity is staged; the next place is the ring's first. -/
def stagedIn (sev : Sev) (f : Recorder → Recorder) : State :=
  { put up [(F.REC_NEXT_OFS, 0x10000)] with rcd := f { up.rcd with staged := [rcd0 sev] } }

/-- A CLEAR of the ring, its token checked. -/
def clearTok : Option Token := some (tok 2 0 1 (leBytes 4 0x52454343 ++ List.replicate 16 0 ++ [1]))

/-- A nonce is in force, and a token has been delivered. -/
def nonceIn : State := keyIn { put up [(F.REC_TLEN_LEN, 2000)] with rcd := { up.rcd with nonceOk := true } }

/-- A request at port 0 of layer 0 whose timer has run out. -/
def lateReq : Req := { mkReq false true with timer := 3933 }

/-- A sequencer-0 push issued at `at_`. -/
def pushOp (at_ : Nat) : PortOp := .push 5 [1] at_ 7

/-- A host read of bank 1 that has waited since `since`. -/
def hostIn (since : Nat) : State := memIn up (fun m => { m with host := [(1, [{ up.newHost false 0x100000 4 [] false with since := since }])] })

/-- The watchdog runs. -/
def wdUp (f : Power → Power) : State := put (pwrIn up f) [(F.DEV_WDCFG_EN, 1), (F.DEV_WDCFG_HOSTKICK, 1), (F.CFG_KEY_VALID, 1)]

/-- Capture runs, its state changed by `f`. -/
def capUp (f : Replay → Replay) : State := { put ringUp [(F.RPL_STAT_MODE, 1)] with rpl := f up.rpl }

/-- Snapshot 0 holds; a mode runs. -/
def snapIn (mode : Nat) : State :=
  { put up [(F.CFG_KEY_VALID, 1), (F.RPL_SNAP_HI_VALID 0, 1), (F.RPL_SNAP_HI_COVERED 0, 1), (F.RPL_STAT_MODE, mode)] with
    rpl := { up.rpl with snaps := up.rpl.snaps.set 0 (some snap0) } }

/-- More settings than a copy holds. -/
def nvsFull : State := { up with nvs := { up.nvs with shadow := List.replicate 15871 (0, 0) } }

theorem test_meets_RecordsAreWrittenAndCleared :
    (up.nvmOk = true ∧ up.rcd.staged = [] ∧ (put up [(F.REC_STAT_FROZEN, 1)]).nvmOk = false) ∧
    (∀ sev ∈ [Sev.warning, Sev.critical], let s := stagedIn sev id
     s.rcd.staged = [rcd0 sev] ∧ s.nvmOk = true ∧ s.f F.REC_STAGE_LOST = 0 ∧ s.rcd.lastRec = none ∧ 0x10000 ≤ s.f F.REC_NEXT_OFS ∧
      s.f F.REC_NEXT_OFS < 0x100000 ∧ (rcd0 sev).size ≤ 0x10000 ∧ s.b F.REC_STAT_FFZFULL = false ∧ sizes s.rcd.ffz + (rcd0 sev).size ≤ 0x10000) ∧
    (sevRank (rcd0 .warning).sev < 3 ∧ 3 ≤ sevRank (rcd0 .critical).sev) ∧
    (let s := stagedIn .warning (fun r => { r with lastRec := some (rcd0 .warning, 0x10000, 0) })
     s.nvmOk = true ∧ s.f F.REC_STAGE_LOST = 0 ∧ s.f F.PWR_PCC_COUNT = 0 ∧ (rcd0 .warning).folds (rcd0 .warning) = true) ∧
    (up.stopAccess .host Rg.REC_CMD = none ∧ up.b F.REC_STAT_FROZEN = false ∧ up.b F.REC_STAT_CLEARING = false) ∧
    (let s := put up [(F.REC_STAT_FROZEN, 1)]
     s.stopAccess .host Rg.REC_CMD = none ∧ s.b F.REC_STAT_FROZEN = true) ∧
    (nonceIn.stopAccess .host Rg.REC_CMD = none ∧ nonceIn.clearCode none ≠ 0 ∧
      nonceIn.clearCode (clearTok.map (fun t => { t with bytes := t.bytes.take (nonceIn.f F.REC_TLEN_LEN) })) = 0) ∧
    up.rcd.clearing = none ∧
    (∀ n ∈ [1, 2, 3], { up with rcd := { up.rcd with clearing := some { scope := n, slot := 0 } } }.rcd.clearing = some { scope := n, slot := 0 }) := by
  decide +kernel

theorem test_meets_TimeoutsAndTheWatchdog :
    (((portUp [lateReq]).port (portKey 0 0)).reqs = [lateReq] ∧ lateReq.due = none ∧ lateReq.held = none ∧ vtBound ≤ lateReq.timer ∧
      (mkReq false true).timer < vtBound ∧ (up.port (portKey 0 0)).reqs = []) ∧
    (∀ e ∈ [(9000000, true), (9999999, false)], let s := seqUp 0 (fun q => { q with ports := [pushOp e.1] })
     (s.seq 0).ports = [pushOp e.1] ∧ (decide (max (pushOp e.1).issued (s.seq 0).portAt + vtBound ≤ s.tl.fc) = e.2)) ∧
    (up.seq 0).ports = [] ∧
    (∀ e ∈ [(9000000, true), (9999999, false)], let s := hostIn e.1
     (s.hostWaits 1).map (fun x => (s.hostOldest x, decide (max x.since s.mem.hostAt + vtBound ≤ s.tl.fc))) = [(true, e.2)]) ∧
    up.hostWaits 1 = [] ∧
    (let s := { dmaUp with dma := [(0, { jobOf (desc 1 5 2 0) with since := 9000000 })] }
     (mfind s.dma 0).map (fun j => decide (j.since + vtBound ≤ s.tl.fc)) = some true) ∧
    (let s := jobIn (desc 1 5 2 0) 0x100 0x100 0
     (mfind s.dma 0).map (fun j => decide (s.tl.fc < j.since + vtBound)) = some true) ∧
    (let s := dmaUp.setQueue 5 (mkQ 0x100 0x100 0)
     mfind s.dma 0 = none ∧ s.dmaRuns 0 = true ∧ s.closed 0 = false ∧ s.baseDead = false ∧ s.mayPush 5 (partyHdma 0) = true ∧ s.mem.writes = [] ∧
      0 < descCount (head 1 5 2) ∧ descOp (head 3 5 64) = 3 ∧ 64 ≤ descCount (head 3 5 64)) ∧
    (up.onBusStill .host 0x20010 = true ∧ up.onBusStill .host 0x3FFFFFC = false) ∧
    ((ldUp 1 id).ld = some (ldOf id) ∧ (ldOf id).flash = false ∧ (ldUp 1 id).ldStage = stHeader ∧ (ldUp 1 id).lastTry (ldOf id)) ∧
    (up.ld = none ∧ (rbRun 1024 1).rb.isSome = true ∧ up.rb = none) ∧
    (let s := wdUp id
     s.stopAccess .host Rg.DEV_WDKICK = none ∧ s.b F.DEV_WDCFG_HOSTKICK = true ∧ s.wdRuns = true ∧ s.wdLate = true ∧ s.tl.running = true ∧ s.b F.TL_STATUS_DEGRADED = false ∧
      (recent (s.opSeconds 2) s.pwr.wdTimes).length < 3 ∧ s.mayRestart) ∧
    (let s := wdUp (fun x => { x with wdTimes := [1, 1, 1] })
     s.wdLate = true ∧ 3 ≤ (recent (s.opSeconds 2) s.pwr.wdTimes).length ∧ s.ldStage ≠ stCommit) ∧
    (up.stopAccess .host Rg.DEV_WDKICK = none ∧ up.wdRuns = false ∧ (put (wdUp id) [(F.DEV_WDSTAT_REMAIN, 4000)]).wdLate = false) := by
  unfold State.lastTry State.mayRestart
  decide +kernel

theorem test_meets_CaptureRecordsAndFreezes :
    (ringUp.stopAccess .host Rg.RPL_CMD = none ∧ ringUp.mayCapture = true ∧ ringUp.f F.RPL_STAT_MODE ≠ 1 ∧ nbits 0x10000000 28 4 = 1) ∧
    ((capUp id).stopAccess .host Rg.RPL_CMD = none ∧ (capUp id).mayCapture = false ∧ (capUp id).capturing = true ∧ nbits 0x20000000 28 4 = 2) ∧
    ({ ringUp with rpl := { up.rpl with trigAt := some 9000 } }.rpl.trigAt = some 9000 ∧ ringUp.rpl.trigAt = none) ∧
    ((capUp (fun r => { r with ask := some 3 })).freezeCause = some 3 ∧ ringUp.freezeCause = none) ∧
    (let s := capUp (fun r => { r with gap := some (5, 6, 7) })
     s.rpl.gap = some (5, 6, 7) ∧ s.capturing = true ∧ s.rpl.fill + 1536 * 32 ≤ bufferUnits ∧ ringUp.rpl.gap = none) ∧
    ringUp.crcNow = false ∧
    (∀ mode ∈ [1, 3], (ringIn mode 5 0).crcNow = true ∧ (ringIn mode 5 0).crcQueues = [0] ∧ (ringIn mode 5 0).f F.RPL_STAT_MODE = mode) ∧
    (∀ w2 ∈ [(0, true), (0x100000000, false)], let s := ringIn 3 5 w2.1
     s.crcNow = true ∧ s.crcQueues = [0] ∧ s.f F.RPL_STAT_MODE = 3 ∧
      (s.findCrc 0 s.fullTime (s.ringSize / 16)
        (((s.rpl.snaps.get (Fin.ofNat 2 (s.f F.RPL_CMD_SNAPSEL))).map (fun x => x.pos)).getD s.rpl.rd)).map
          (fun r => decide (r.payload = s.crcPayload 0)) = some w2.2) ∧
    ringUp.rpl.copy = none ∧
    (let s := capUp (fun r => { r with copy := some (0, 9999999), dirty := true })
     s.rpl.copy = some (0, 9999999) ∧ s.tl.fc < 9999999 + frameFc ∧ s.rpl.dirty = true) ∧
    (let s := capUp (fun r => { r with copy := some (0, 9000) })
     s.rpl.copy = some (0, 9000) ∧ 9000 + frameFc ≤ s.tl.fc) := by
  decide +kernel

theorem test_meets_ReplayEntersInjectsAndExits :
    (∀ mode ∈ [0, 2, 3], (snapIn mode).stopAccess .host Rg.RPL_CMD = none ∧ (snapIn mode).f F.RPL_STAT_MODE = mode) ∧
    (nbits 0x30000000 28 4 = 3 ∧ nbits 0x40000000 28 4 = 4 ∧ up.stopAccess .host Rg.RPL_CMD = none ∧ up.f F.RPL_STAT_MODE ≠ 2 ∧
      (up.writeFields Rg.RPL_CMD 0x30000000).enterReason ≠ 0 ∧ ((snapIn 0).writeFields Rg.RPL_CMD 0x30000000).enterReason = 0) ∧
    ((snapIn 2).rpl.snaps.get (snapIn 2).snapSel = some snap0 ∧ up.rpl.snaps.get up.snapSel = none) ∧
    (∀ type ∈ [5, 1], let s := ringIn 3 type 0
     let r := s.ringRead s.rpl.rd
     s.f F.RPL_STAT_MODE = 3 ∧ s.rpl.rd < s.rpl.wr ∧ r.time ≤ s.fullTime ∧ r.type = type ∧ (s.queue r.id).en = false) ∧
    (let s := ringIn 3 5 0
     s.rpl.wr ≤ s.rpl.rd + (s.ringRead s.rpl.rd).size) ∧
    (let s := (ringIn 3 1 0).setQueue 5 (mkQ 0x100 0x100 0)
     let r := s.ringRead s.rpl.rd
     let x := s.queue r.id
     r.type = 1 ∧ x.en = true ∧ s.closed 0 = false ∧ (recordEntries x r.payload).length ≤ x.free ∧ recordEntries x r.payload ≠ [] ∧
      s.nextWrite (r.id / 1024) = none ∧ s.mem.writes = [] ∧ s.rpl.late = false ∧ r.time = s.fullTime) ∧
    (∀ b, ((ringIn 3 1 0).setQueue 5 (mkQ 0x100 0x100 0)).portA b = none) := by
  refine ⟨?_, ?_, ?_, ?_, ?_, ?_, fun _ => rfl⟩ <;> and_intros <;> decide +kernel

theorem test_meets_SettingsAreStoredAndKeysBurn :
    (∀ s ∈ [put up [(F.NVS_STAT_BUSY, 1)], up], s.stopAccess .host Rg.NVS_CMD = none) ∧
    ((put up [(F.NVS_STAT_BUSY, 1)]).b F.NVS_STAT_BUSY = true ∧ up.b F.NVS_STAT_BUSY = false ∧ up.nvs.shadow.length ≤ maxItems ∧
      nbits 0x10000000 28 4 = 1) ∧
    (nvsFull.stopAccess .host Rg.NVS_CMD = none ∧ nvsFull.b F.NVS_STAT_BUSY = false ∧ maxItems < nvsFull.nvs.shadow.length) ∧
    (up.nvs.snap = none ∧ { up with nvs := { up.nvs with snap := some [] } }.nvs.snap = some []) ∧
    (let s := put up [(F.NVS_IOFS_OFFSET, 0x40)]
     s.stopAccess .host Rg.NVS_IVAL = none ∧ nvsMask s.iofs ≠ 0 ∧ up.stopAccess .host Rg.NVS_IVAL = none ∧ nvsMask up.iofs = 0) ∧
    (let s := put up [(F.SEC_STAT_BUSY, 1)]
     s.stopAccess .host Rg.SEC_CMD = none ∧ s.b F.SEC_STAT_BUSY = true) ∧
    (up.stopAccess .host Rg.SEC_CMD = none ∧ up.b F.SEC_STAT_BUSY = false ∧ up.fuse.lcs = 0 ∧
      up.fuse.prov.get (Fin.ofNat 4 (up.f F.SEC_KSLOT_SLOT)) = false ∧ up.usable = [] ∧ nbits 0x20000000 28 4 = 2 ∧ nbits 0x30000000 28 4 = 3) ∧
    ((keyIn up).stopAccess .host Rg.SEC_CMD = none ∧ (keyIn up).b F.SEC_STAT_BUSY = false ∧ (keyIn up).fuse.lcs ≠ 0) ∧
    (let s := { up with fuse := { up.fuse with prov := up.fuse.prov.set 0 true } }
     s.stopAccess .host Rg.SEC_CMD = none ∧ s.b F.SEC_STAT_BUSY = false ∧ s.fuse.lcs = 0 ∧ s.usable ≠ []) := by
  decide +kernel

/-- A good token of opcode `op` with payload `p` passes the checks of a delivered command. -/
def tokenFits (op : Nat) (p : List Byte) : Bool :=
  let x := tok op 0 1 p
  let s := secUp x.bytes.length
  s.b F.SEC_STAT_BUSY && x.bytes.length == s.f F.SEC_CLEN_LEN && s.tokenCheck x secOps == 0 && tokOpcode x == op && tokPayload x == p

theorem test_meets_SignedCommandsActOnceChecked :
    (∀ op ∈ secOps, 3 ≤ op ∧ op ≤ 8) ∧ up.b F.SEC_STAT_BUSY = false ∧ (secUp 1056).b F.SEC_STAT_BUSY = true ∧
    ((tok 7 3 1 []).bytes.length = (secUp 1056).f F.SEC_CLEN_LEN ∧ (secUp 1056).tokenCheck (tok 7 3 1 []) secOps ≠ 0) ∧
    (∀ e ∈ [(3, []), (3, [1]), (4, [2]), (4, [9]), (5, [1]), (5, [0]), (6, 1 :: List.replicate 64 7), (6, [0]), (7, []), (8, [9])],
      tokenFits e.1 e.2 = true) ∧
    ((secUp 1060).fuse.lcs.val + 1 = 2 ∧ (secUp 1060).revokeRefused [1] = 0 ∧ (secUp 1060).revokeRefused [0] ≠ 0 ∧
      (secUp 1124).addRefused (1 :: List.replicate 64 7) = 0 ∧ (secUp 1060).addRefused [0] ≠ 0) := by
  decide +kernel

end Sys2Proof.Tests
end

section
/-!
What one sequencer does, as the statements of chapters 6 and 7 speak of it: where an instruction acts, what a change of one
sequencer and a note of what happened leave, and what a fault leaves beside its own report.
-/
namespace Sys2Proof.Machine
open Sys2Proof

/-! ## Issue -/

/-- An instruction whose meaning is to issue `run` leaves, where it issues, what `run` makes of the issued state. -/
theorem State.issues_of_run {s : State} {k : Fin 4} {i : Instr} {P : State → Prop} (run : State → State)
    (he : exec i s = ok (s.issue k .clean i run)) (hp : P (run (s.issued k))) : s.issues k i P :=
  fun hc => ⟨run (s.issued k), by rw [he, s.issue_clean k i run hc]; rfl, hp⟩

@[simp] theorem State.seqTime_issued (s : State) (k j : Fin 4) : (s.issued k).seqTime j = s.seqTime j := rfl
@[simp] theorem State.issued_flags (s : State) (k : Fin 4) : (s.issued k).flags = s.flags := rfl

theorem State.seq_issued_ne (s : State) {k j : Fin 4} (h : j ≠ k) : (s.issued k).seq j = s.seq j := s.seq_modSeq_ne _ h

theorem onlySeq_issued (s : State) (k : Fin 4) : OnlySeq k s (s.issued k) := onlySeq_modSeq s k _

@[simp] theorem State.seq_done (s : State) (k : Fin 4) (cost : Nat) : (s.done k cost).seq k = (s.seq k).goOn (s.tl.fc + cost) :=
  s.seq_modSeq_same k _

/-- A sequencer that goes on behind an instruction just issued has gone on from where it stood. -/
theorem wentOn_goOn {q b : Seq} {fc cost : Nat} (hp : b.pc = q.next) (hl : b.loops = q.loops) (hc : b.calls = q.calls) :
    q.wentOn (b.goOn (fc + cost)) fc cost := by
  refine ⟨by rw [Seq.goOn_pc, hp], ?_, rfl, rfl, rfl⟩
  rw [Seq.goOn_next]
  simp only [Seq.peek, hp, hl, hc]

/-! ## Changes of one sequencer, and notes -/

theorem OnlySeq.onlySeqNotes {k : Fin 4} {s t : State} (h : OnlySeq k s t) : OnlySeqNotes k s t := by
  obtain ⟨h1, h2⟩ := h
  refine ⟨?_, h2⟩
  rw [← h1]

theorem OnlyNotes.onlySeqNotes (k : Fin 4) {s t : State} (h : OnlyNotes s t) : OnlySeqNotes k s t := by
  have hs : t.seqs = s.seqs := h.field State.seqs
  refine ⟨?_, fun j _ => congrArg (fun v : Vector Seq 4 => v.get j) hs⟩
  unfold OnlyNotes at h
  rw [← h]

theorem OnlySeqNotes.trans {k : Fin 4} {s t u : State} (h : OnlySeqNotes k s t) (g : OnlySeqNotes k t u) :
    OnlySeqNotes k s u := by
  obtain ⟨h1, h2⟩ := h
  obtain ⟨g1, g2⟩ := g
  refine ⟨?_, fun j hj => (g2 j hj).trans (h2 j hj)⟩
  rw [← h1]; rw [← g1]

theorem onlySeqNotes_setF (k : Fin 4) (s : State) (x : Fld) (v : Nat) : OnlySeqNotes k s (s.setF x v) := ⟨rfl, fun _ _ => rfl⟩

theorem onlySeqNotes_raise (k : Fin 4) (s : State) (n : Nat) (p : List Nat) : OnlySeqNotes k s (s.raise n p) :=
  (noted_raise s n p).1.onlySeqNotes k

/-- An occurrence leaves the sequencers. -/
@[simp] theorem State.seq_raise (s : State) (n : Nat) (p : List Nat) (j : Fin 4) : (s.raise n p).seq j = s.seq j := by
  simp [State.seq]

@[simp] theorem State.reg_modSeq (s : State) (k : Fin 4) (h : Seq → Seq) (off : Nat) : (s.modSeq k h).reg off = s.reg off := rfl
@[simp] theorem State.src_modSeq (s : State) (k : Fin 4) (h : Seq → Seq) (n : Nat) : (s.modSeq k h).src n = s.src n := rfl
@[simp] theorem State.src_setReg (s : State) (off : Nat) (w : Word) (n : Nat) : (s.setReg off w).src n = s.src n := rfl

theorem State.vector_of_fab {s t : State} (h : t.fab = s.fab) (k : Fin 4) (n : Nat) : t.vector k n = s.vector k n := by
  unfold State.vector State.pgmWord; rw [h]

/-! ## Sources of a sequencer's events -/

theorem srcSev_seqEvent : ∀ k : Fin 4, (srcSev (Ev.DEADLINE_MISS k)).isSome = true ∧ (srcSev (Ev.WAIT_TIMEOUT k)).isSome = true ∧
    (srcSev (Ev.FLAG_OVERRUN k)).isSome = true := by decide

theorem seqFault_ne_overflow : ∀ k : Fin 4, Ev.SEQ_FAULT k ≠ Ev.EVT_OVERFLOW := by decide

theorem deadlineMiss_ne : ∀ k : Fin 4, Ev.DEADLINE_MISS k ≠ Ev.SEQ_FAULT k ∧ Ev.DEADLINE_MISS k ≠ Ev.EVT_OVERFLOW := by decide

theorem waitTimeout_ne : ∀ k : Fin 4, Ev.WAIT_TIMEOUT k ≠ Ev.SEQ_FAULT k ∧ Ev.WAIT_TIMEOUT k ≠ Ev.EVT_OVERFLOW := by decide

/-- What has occurred once still has, where neither state's count of it differs. -/
theorem Raised.congr {n : Nat} {s s' t t' : State} (h : Raised n s t) (hs : s'.src n = s.src n) (ht : t'.src n = t.src n) :
    Raised n s' t' := by
  unfold Raised at *
  rw [hs, ht, h]

/-- A source that occurs behind changes that do not touch it has occurred once more. -/
theorem raised_raise_after {s u : State} {n : Nat} (p : List Nat) (h : (srcSev n).isSome = true) (hu : u.src n = s.src n) :
    Raised n s (u.raise n p) := by
  obtain ⟨v, hv⟩ := Option.isSome_iff_exists.mp h
  exact (raised_raise u n p hv).congr hu.symm rfl

/-! ## Faults (R167, R168) -/

/-- A fault notes itself, and then changes its sequencer alone. -/
theorem State.seqFault_eq (s : State) (k : Fin 4) (cause fpc r nxt : Nat) : ∃ h : Seq → Seq, s.seqFault k cause fpc r nxt =
    ((s.setReg (Rg.SEQ_FAULT k) (BitVec.ofNat 32 (cause * 2 ^ 24 + fpc % 2 ^ 16))).raise (Ev.SEQ_FAULT k)
      [(s.seq k).pc, cause]).modSeq k h := by
  unfold State.seqFault
  split
  · dsimp only
    split
    · exact ⟨_, rfl⟩
    · exact ⟨_, rfl⟩
  · exact ⟨_, rfl⟩

/-- A fault's report apart, a fault leaves every register but those an occurrence touches. -/
theorem State.reg_seqFault (s : State) (k : Fin 4) (cause fpc r nxt : Nat) {off : Nat} (h : off ≠ Rg.SEQ_FAULT k)
    (hn : off ∉ noteRegs) : (s.seqFault k cause fpc r nxt).reg off = s.reg off := by
  obtain ⟨f, hf⟩ := s.seqFault_eq k cause fpc r nxt
  rw [hf, State.reg_modSeq, State.reg_raise _ _ _ hn, State.reg_setReg_ne _ _ h]

/-- A fault is an occurrence of SEQ_FAULT, and of no other source but EVT_OVERFLOW. -/
theorem State.src_seqFault_ne (s : State) (k : Fin 4) (cause fpc r nxt : Nat) {n : Nat} (h : n ≠ Ev.SEQ_FAULT k)
    (h0 : n ≠ Ev.EVT_OVERFLOW) : (s.seqFault k cause fpc r nxt).src n = s.src n := by
  obtain ⟨f, hf⟩ := s.seqFault_eq k cause fpc r nxt
  rw [hf, State.src_modSeq, State.src_raise_ne _ _ h h0, State.src_setReg]

/-- An instruction that faults at once where it issues. -/
theorem State.issues_fault_of_run {s : State} {k : Fin 4} {i : Instr} {cause : Nat} (run : State → State)
    (he : exec i s = ok (s.issue k .clean i run)) (hrun : run (s.issued k) = (s.issued k).issueFault k cause) :
    s.issues k i (fun t => TookFault k s t cause (s.seq k).next ({ s.seq k with pc := (s.seq k).next } : Seq).peek) :=
  State.issues_of_run run he (by rw [hrun]; exact tookFault_issued s k cause)

/-- A fault taken from a state that differs in nothing a fault is judged by is one taken from the other. -/
theorem TookFault.of_before {k : Fin 4} {s u t : State} {cause fpc nxt : Nat} (h : TookFault k u t cause fpc nxt)
    (hsrc : u.src (Ev.SEQ_FAULT k) = s.src (Ev.SEQ_FAULT k)) (hfab : u.fab = s.fab) (hfc : u.tl.fc = s.tl.fc)
    (hin : (s.seq k).inFault = false → (u.seq k).inFault = false) : TookFault k s t cause fpc nxt := by
  obtain ⟨hreg, hraised, hentry, hnone⟩ := h
  rw [State.vector_of_fab hfab] at hentry hnone
  refine ⟨hreg, hraised.congr hsrc.symm rfl, fun e he hf => ?_, hnone⟩
  rw [← hfc]
  exact hentry e he (hin hf)

end Sys2Proof.Machine
end

section
/-!
Timeline waits: program time, its distances and grids, and what a wait comes to by where its target lies (R160 to R162).
-/
namespace Sys2Proof.Machine
open Sys2Proof

/-! ## Program time (R160, R190, R191) -/

theorem State.seqTime_lt (s : State) (k : Fin 4) : s.seqTime k < 2 ^ 41 := Nat.mod_lt _ (by decide)

/-- The distance of a target: hyperframes apart modulo 128, then fc, brought to the nearer way round (R160). -/
theorem distance_eq {T N : Nat} (hT : T < 2 ^ 41) (hN : N < 2 ^ 41) :
    let d : Int := ((T / 2 ^ 34 : Nat) - (N / 2 ^ 34 : Nat) : Int) % 128 * (L : Nat) + (T % 2 ^ 34 : Nat) - (N % 2 ^ 34 : Nat)
    distance T N = if 64 * (L : Nat) ≤ d then d - 128 * (L : Nat) else d := by
  have hcyc : (((T / 2 ^ 34 + 128 - N / 2 ^ 34) % 128 * L : Nat) : Int) =
      ((T / 2 ^ 34 : Nat) - (N / 2 ^ 34 : Nat) : Int) % 128 * (L : Nat) := by
    rw [Int.natCast_mul]
    congr 1
    omega
  unfold distance
  rw [hcyc]
  simp only [Int.natCast_mul]
  rfl

theorem advance_at_lt {t d : Nat} (ht : t % 2 ^ 34 < L) (hd : d ≤ L) : advance t d % 2 ^ 34 < L := by
  unfold advance L at *
  dsimp only
  split <;> omega

/-- Where an advance by up to one SFN cycle ends is that far ahead (R160, R190). -/
theorem distance_advance {t d : Nat} (ht : t < 2 ^ 41) (hat : t % 2 ^ 34 < L) (hd : d ≤ L) : distance (advance t d) t = d := by
  unfold distance advance L at *
  dsimp only
  split <;> split <;> omega

/-- The count from `x` to the next number that leaves `off` modulo `p`, at least 1 and at most `p` (R191). -/
def gridStep (x off p : Nat) : Nat := if (off + p - x % p) % p = 0 then p else (off + p - x % p) % p

theorem gridStep_bounds {x off p : Nat} (hp : 0 < p) : 1 ≤ gridStep x off p ∧ gridStep x off p ≤ p := by
  have := Nat.mod_lt (off + p - x % p) hp
  unfold gridStep
  split <;> omega

theorem add_gridStep_mod {x off p : Nat} (h : off < p) : (x + gridStep x off p) % p = off := by
  have hx : x % p < p := Nat.mod_lt x (by omega)
  have hstep : gridStep x off p % p = (off + p - x % p) % p := by
    unfold gridStep
    split
    · next h0 => rw [h0, Nat.mod_self]
    · exact Nat.mod_mod _ _
  calc (x + gridStep x off p) % p
      = (x % p + (off + p - x % p)) % p := by rw [Nat.add_mod x, hstep, Nat.add_mod_mod]
    _ = (off + p) % p := by congr 1; omega
    _ = off := by rw [Nat.add_mod_right, Nat.mod_eq_of_lt h]

/-- A grid whose period divides the SFN cycle goes on over its end (R191). -/
theorem advance_mod_of_dvd {t d p : Nat} (hp : p ∣ L) (hat : t % 2 ^ 34 < L) (hd : d ≤ L) :
    advance t d % 2 ^ 34 % p = (t % 2 ^ 34 + d) % p := by
  obtain ⟨c, hc⟩ := hp
  unfold advance
  dsimp only
  split
  · next h => congr 1; unfold L at *; omega
  · next h =>
    have hat' : ((t / 2 ^ 34 + 1) % 128 * 2 ^ 34 + (t % 2 ^ 34 + d - L)) % 2 ^ 34 = t % 2 ^ 34 + d - L := by
      unfold L at *; omega
    have hsum : t % 2 ^ 34 + d - L + L = t % 2 ^ 34 + d := by omega
    rw [hat', ← Nat.add_mul_mod_self_left (t % 2 ^ 34 + d - L) p c, ← hc, hsum]

/-! ## Wait on a target (R160 to R162) -/

theorem State.timelineWait_outside {s : State} {k : Fin 4} {T : Nat} (h : L ≤ T % 2 ^ 34 ∨ (L : Int) < distance T (s.seqTime k)) :
    s.timelineWait k T = s.issueFault k 0x05 := if_pos h

theorem State.timelineWait_ahead {s : State} {k : Fin 4} {T : Nat} (hT : T % 2 ^ 34 < L) (h1 : 1 ≤ distance T (s.seqTime k))
    (hL : distance T (s.seqTime k) ≤ (L : Int)) : s.timelineWait k T = s.modSeq k (fun q =>
      { q with sp := T, mode := .waitTime, wait := .time T (s.tl.fc + (distance T (s.seqTime k)).toNat) true }) := by
  unfold State.timelineWait
  dsimp only
  rw [if_neg (by omega), if_pos h1]

theorem State.timelineWait_passed {s : State} {k : Fin 4} {T : Nat} (hT : T % 2 ^ 34 < L) (h : distance T (s.seqTime k) ≤ 0) :
    s.timelineWait k T = s.missed k T (1 - distance T (s.seqTime k)).toNat := by
  unfold State.timelineWait
  dsimp only
  rw [if_neg (by omega), if_neg (by omega)]

/-- A target that is no program time, or lies further ahead than one SFN cycle, faults with WAIT_RANGE (R160). -/
theorem tookFault_timelineWait {s : State} {k : Fin 4} {T : Nat} (h : L ≤ T % 2 ^ 34 ∨ (L : Int) < distance T (s.seqTime k)) :
    TookFault k s ((s.issued k).timelineWait k T) 0x05 (s.seq k).next ({ s.seq k with pc := (s.seq k).next } : Seq).peek := by
  rw [State.timelineWait_outside (s := s.issued k) h]
  exact tookFault_issued s k 0x05

/-- A target ahead is waited for (R160, R161). -/
theorem waitsFor_timelineWait {s : State} {k : Fin 4} {T : Nat} (hT : T % 2 ^ 34 < L) (h1 : 1 ≤ distance T (s.seqTime k))
    (hL : distance T (s.seqTime k) ≤ (L : Int)) :
    WaitsFor k s ((s.issued k).timelineWait k T) T (s.tl.fc + (distance T (s.seqTime k)).toNat) := by
  rw [State.timelineWait_ahead (s := s.issued k) hT h1 hL]
  refine ⟨(onlySeq_issued s k).trans (onlySeq_modSeq _ k _), ?_, ?_, ?_, ?_, ?_⟩ <;>
    rw [State.seq_modSeq_same, State.seq_issued] <;> rfl

/-! ## Deadline misses (R160, R162) -/

/-- A deadline miss as it is noted: SP takes the target, the miss is counted with its lateness, and raised. -/
def State.noteMiss (s : State) (k : Fin 4) (target late : Nat) : State :=
  (((s.modSeq k (fun q => { q with sp := target })).incF (F.SEQ_MISS_COUNT k)).setF (F.SEQ_MISS_LATE k) (min late 0xFFFF)).raise
    (Ev.DEADLINE_MISS k) [(s.seq k).pc, late]

theorem State.missed_eq (s : State) (k : Fin 4) (target late : Nat) : s.missed k target late =
    if s.b (F.SEQ_CTL_MISSFAULT k) then (s.noteMiss k target late).issueFault k 0x09 else (s.noteMiss k target late).done k 1 := rfl

theorem seqMiss_quiet : ∀ k : Fin 4, Rg.SEQ_MISS k ∉ noteRegs ∧ Rg.SEQ_MISS k ≠ Rg.SEQ_FAULT k := by decide

theorem seqMiss_fits (k : Nat) : (F.SEQ_MISS_COUNT k).lo + (F.SEQ_MISS_COUNT k).w ≤ 32 ∧
    (F.SEQ_MISS_LATE k).lo + (F.SEQ_MISS_LATE k).w ≤ 32 := by simp [F.SEQ_MISS_COUNT, F.SEQ_MISS_LATE]

theorem seqMiss_beside (k : Nat) : (F.SEQ_MISS_COUNT k).lo + (F.SEQ_MISS_COUNT k).w ≤ (F.SEQ_MISS_LATE k).lo ∨
    (F.SEQ_MISS_LATE k).lo + (F.SEQ_MISS_LATE k).w ≤ (F.SEQ_MISS_COUNT k).lo := by simp [F.SEQ_MISS_COUNT, F.SEQ_MISS_LATE]

@[simp] theorem State.seq_noteMiss (s : State) (k : Fin 4) (T late : Nat) : (s.noteMiss k T late).seq k = { s.seq k with sp := T } := by
  unfold State.noteMiss
  rw [State.seq_raise]
  exact s.seq_modSeq_same k (fun q => { q with sp := T })

@[simp] theorem State.noteMiss_tl (s : State) (k : Fin 4) (T late : Nat) : (s.noteMiss k T late).tl = s.tl := State.raise_tl _ _ _

@[simp] theorem State.noteMiss_fab (s : State) (k : Fin 4) (T late : Nat) : (s.noteMiss k T late).fab = s.fab := State.raise_fab _ _ _

theorem onlySeqNotes_noteMiss (s : State) (k : Fin 4) (T late : Nat) : OnlySeqNotes k s (s.noteMiss k T late) :=
  (((onlySeq_modSeq s k _).onlySeqNotes.trans (onlySeqNotes_setF k _ _ _)).trans (onlySeqNotes_setF k _ _ _)).trans
    (onlySeqNotes_raise k _ _ _)

theorem raised_noteMiss (s : State) (k : Fin 4) (T late : Nat) : Raised (Ev.DEADLINE_MISS k) s (s.noteMiss k T late) :=
  raised_raise_after _ (srcSev_seqEvent k).1 rfl

theorem State.src_noteMiss_seqFault (s : State) (k : Fin 4) (T late : Nat) :
    (s.noteMiss k T late).src (Ev.SEQ_FAULT k) = s.src (Ev.SEQ_FAULT k) :=
  State.src_raise_ne _ _ (deadlineMiss_ne k).1.symm (seqFault_ne_overflow k)

theorem satAdd_lt (w x n : Nat) : satAdd w x n < 2 ^ w := by
  have := Nat.two_pow_pos w
  unfold satAdd
  omega

/-- The count of misses counts once more, and stays at all ones (R162). -/
theorem State.f_count_noteMiss (s : State) (k : Fin 4) (T late : Nat) :
    (s.noteMiss k T late).f (F.SEQ_MISS_COUNT k) = satAdd 16 (s.f (F.SEQ_MISS_COUNT k)) 1 := by
  unfold State.noteMiss
  rw [State.f_raise _ _ _ _ (seqMiss_quiet k).1,
    State.f_setF_beside _ (F.SEQ_MISS_LATE k) (F.SEQ_MISS_COUNT k) _ rfl (seqMiss_beside k) (seqMiss_fits k).1]
  unfold State.incF State.addF
  rw [State.f_setF_same _ _ _ (seqMiss_fits k).1]
  exact Nat.mod_eq_of_lt (satAdd_lt 16 _ 1)

/-- The lateness of the latest miss stands beside it, 65,535 for any greater (R162). -/
theorem State.f_late_noteMiss (s : State) (k : Fin 4) (T late : Nat) :
    (s.noteMiss k T late).f (F.SEQ_MISS_LATE k) = min late 0xFFFF := by
  unfold State.noteMiss
  rw [State.f_raise _ _ _ _ (seqMiss_quiet k).1, State.f_setF_same _ _ _ (seqMiss_fits k).2]
  refine Nat.mod_eq_of_lt ?_
  show min late 0xFFFF < 2 ^ 16
  omega

/-- What a miss has noted outlasts the end of its instruction, under MISSFAULT its fault. -/
theorem State.missed_keeps_note (s : State) (k : Fin 4) (T late : Nat) :
    (s.missed k T late).src (Ev.DEADLINE_MISS k) = (s.noteMiss k T late).src (Ev.DEADLINE_MISS k) ∧
    (s.missed k T late).reg (Rg.SEQ_MISS k) = (s.noteMiss k T late).reg (Rg.SEQ_MISS k) := by
  rw [State.missed_eq]
  split
  · exact ⟨State.src_seqFault_ne _ _ _ _ _ _ (deadlineMiss_ne k).1 (deadlineMiss_ne k).2,
      State.reg_seqFault _ _ _ _ _ _ (seqMiss_quiet k).2 (seqMiss_quiet k).1⟩
  · exact ⟨rfl, rfl⟩

/-- A miss is raised and counted with its lateness (R160, R162). -/
theorem missed_counted (s : State) (k : Fin 4) (T late : Nat) : Raised (Ev.DEADLINE_MISS k) s (s.missed k T late) ∧
    (s.missed k T late).f (F.SEQ_MISS_COUNT k) = satAdd 16 (s.f (F.SEQ_MISS_COUNT k)) 1 ∧
    (s.missed k T late).f (F.SEQ_MISS_LATE k) = min late 0xFFFF := by
  obtain ⟨hsrc, hreg⟩ := s.missed_keeps_note k T late
  refine ⟨(raised_noteMiss s k T late).congr rfl hsrc, ?_, ?_⟩
  · rw [← s.f_count_noteMiss k T late]
    exact congrArg (fldGet (F.SEQ_MISS_COUNT k)) hreg
  · rw [← s.f_late_noteMiss k T late]
    exact congrArg (fldGet (F.SEQ_MISS_LATE k)) hreg

/-- Without MISSFAULT the instruction behind a miss issues in the next fc (R160). -/
theorem missed_issued_goesOn (s : State) (k : Fin 4) (T late : Nat) (hb : s.b (F.SEQ_CTL_MISSFAULT k) = false) :
    let t := (s.issued k).missed k T late
    OnlySeqNotes k s t ∧ (s.seq k).wentOn (t.seq k) s.tl.fc 1 ∧ (t.seq k).sp = T ∧ (t.seq k).g = (s.seq k).g := by
  have ht : (s.issued k).missed k T late = ((s.issued k).noteMiss k T late).done k 1 := by
    rw [State.missed_eq, if_neg]
    exact ne_true_of_eq_false hb
  dsimp only
  rw [ht, State.seq_done, State.seq_noteMiss, State.seq_issued, State.noteMiss_tl, State.issued_tl]
  refine ⟨((onlySeq_issued s k).onlySeqNotes.trans (onlySeqNotes_noteMiss _ k T late)).trans (onlySeq_modSeq _ k _).onlySeqNotes,
    wentOn_goOn rfl rfl rfl, ?_, ?_⟩
  · rw [Seq.goOn_sp]
  · rw [Seq.goOn_g]
    rfl

/-- Under MISSFAULT a miss is a fault of its instruction (R162, R167). -/
theorem tookFault_missed_issued (s : State) (k : Fin 4) (T late : Nat) (hb : s.b (F.SEQ_CTL_MISSFAULT k) = true) :
    TookFault k s ((s.issued k).missed k T late) 0x09 (s.seq k).next ({ s.seq k with pc := (s.seq k).next } : Seq).peek := by
  have ht : (s.issued k).missed k T late = ((s.issued k).noteMiss k T late).issueFault k 0x09 := by
    rw [State.missed_eq, if_pos]
    exact hb
  rw [ht]
  have hq : ((s.issued k).noteMiss k T late).seq k = { (s.seq k).begin s.tl.fc with sp := T } := by
    rw [State.seq_noteMiss, State.seq_issued]
  have h : TookFault k ((s.issued k).noteMiss k T late) (((s.issued k).noteMiss k T late).issueFault k 0x09) 0x09
      (((s.issued k).noteMiss k T late).seq k).pc (((s.issued k).noteMiss k T late).seq k).peek := tookFault_seqFault _ k _ _ _
  rw [hq] at h
  refine h.of_before (State.src_noteMiss_seqFault _ k T late) (State.noteMiss_fab _ k T late)
    (congrArg _ (State.noteMiss_tl _ k T late)) ?_
  intro hf
  rw [hq]
  show ((s.seq k).inFault && !(s.seq k).clrFault) = false
  simp [hf]

end Sys2Proof.Machine
end

section
/-!
The timeline waits of chapter 7, each from what a wait on its target comes to (R189 to R191).
-/
namespace Sys2Proof.Machine
open Sys2Proof

/-- `i` is a timeline wait of sequencer `k` on target `T`: WAITAT, WAITATR with a high word in range, WAITREL within one SFN cycle
(R189, R190). -/
def WaitsOn (s : State) (k : Fin 4) (target : BitVec 41) (a b : Fin 32) (o : Opnd) (i : Instr) (T : Nat) : Prop :=
  (i = .waitat k .clean target ∧ T = target.toNat) ∨
  (i = .waitatr k .clean a b ∧ ((s.seq k).rd b).toNat < 512 ∧ T = ((s.seq k).rd a).toNat + ((s.seq k).rd b).toNat * 2 ^ 32) ∨
  (i = .waitrel k .clean o ∧ (s.seq k).opnd o ≤ L ∧ T = advance (s.seq k).sp ((s.seq k).opnd o))

/-- Each of the three issues a wait on its target. -/
theorem issues_of_waitsOn {s : State} {k : Fin 4} {target : BitVec 41} {a b : Fin 32} {o : Opnd} {i : Instr} {T : Nat}
    {P : State → Prop} (h : WaitsOn s k target a b o i T) (hp : P ((s.issued k).timelineWait k T)) : s.issues k i P := by
  obtain ⟨rfl, rfl⟩ | ⟨rfl, hb, rfl⟩ | ⟨rfl, ho, rfl⟩ := h
  · exact State.issues_of_run _ rfl hp
  · refine State.issues_of_run _ rfl ?_
    simp only [State.seq_issued, Seq.rd_begin]
    rw [if_neg (by omega)]
    exact hp
  · refine State.issues_of_run _ rfl ?_
    simp only [State.seq_issued, Seq.opnd_begin, Seq.begin_sp]
    rw [if_neg (by omega)]
    exact hp

theorem waitatr_beyond {s : State} {k : Fin 4} {a b : Fin 32} (h : 512 ≤ ((s.seq k).rd b).toNat) :
    s.issues k (.waitatr k .clean a b)
      (fun t => TookFault k s t 0x05 (s.seq k).next ({ s.seq k with pc := (s.seq k).next } : Seq).peek) :=
  State.issues_fault_of_run _ rfl (if_pos (by rw [State.seq_issued, Seq.rd_begin]; exact h))

theorem waitrel_beyond {s : State} {k : Fin 4} {o : Opnd} (h : L < (s.seq k).opnd o) :
    s.issues k (.waitrel k .clean o)
      (fun t => TookFault k s t 0x05 (s.seq k).next ({ s.seq k with pc := (s.seq k).next } : Seq).peek) :=
  State.issues_fault_of_run _ rfl (if_pos (by rw [State.seq_issued, Seq.opnd_begin]; exact h))

theorem align_beyond {s : State} {k : Fin 4} {a : Fin 32} {period : BitVec 34} (h : period.toNat ≤ ((s.seq k).rd a).toNat) :
    s.issues k (.align k .clean a period)
      (fun t => TookFault k s t 0x05 (s.seq k).next ({ s.seq k with pc := (s.seq k).next } : Seq).peek) :=
  State.issues_fault_of_run _ rfl (if_pos (by rw [State.seq_issued, Seq.rd_begin]; exact h))

/-- ALIGN waits for the next fc of its grid, one period on at most (R191). -/
theorem align_meets {s : State} {k : Fin 4} {a : Fin 32} {period : BitVec 34} (ha : ((s.seq k).rd a).toNat < period.toNat)
    (hp : L % period.toNat = 0) (hat : s.seqTime k % 2 ^ 34 < L) :
    s.issues k (.align k .clean a period) (fun t => ∃ T,
      WaitsFor k s t T (s.tl.fc + (distance T (s.seqTime k)).toNat) ∧ T % 2 ^ 34 % period.toNat = ((s.seq k).rd a).toNat ∧
      1 ≤ distance T (s.seqTime k) ∧ distance T (s.seqTime k) ≤ period.toNat) := by
  have hdvd : period.toNat ∣ L := Nat.dvd_of_mod_eq_zero hp
  have hpL : period.toNat ≤ L := Nat.le_of_dvd (by decide) hdvd
  obtain ⟨hd1, hdp⟩ := gridStep_bounds (x := s.seqTime k % 2 ^ 34) (off := ((s.seq k).rd a).toNat) (by omega : 0 < period.toNat)
  have hmod := add_gridStep_mod (x := s.seqTime k % 2 ^ 34) ha
  refine State.issues_of_run _ rfl ?_
  simp only [State.seq_issued, Seq.rd_begin, State.seqTime_issued]
  rw [if_neg (by omega)]
  change ∃ T, WaitsFor k s ((s.issued k).timelineWait k
    (advance (s.seqTime k) (gridStep (s.seqTime k % 2 ^ 34) ((s.seq k).rd a).toNat period.toNat))) T _ ∧ _
  generalize gridStep (s.seqTime k % 2 ^ 34) ((s.seq k).rd a).toNat period.toNat = d at *
  have hdist : distance (advance (s.seqTime k) d) (s.seqTime k) = d := distance_advance (s.seqTime_lt k) hat (by omega)
  refine ⟨advance (s.seqTime k) d, waitsFor_timelineWait (advance_at_lt hat (by omega)) ?_ ?_, ?_, ?_, ?_⟩
  · omega
  · omega
  · rw [advance_mod_of_dvd hdvd hat (by omega), hmod]
  · omega
  · omega

/-- A sequencer's copy of AT that agrees with the timeline unit shows program time (R231). -/
theorem State.seqTime_of_agreed {s : State} {k : Fin 4} (h : s.tl.copies.get (Fin.castSucc k) = Vector.replicate 3 0) :
    s.seqTime k = s.progTime % 2 ^ 41 := by
  have ha : agreed (Vector.replicate 3 0) = some 0 := by decide
  unfold State.seqTime State.copyTime
  rw [h, ha]
  simp only [if_true, State.fullTime, State.progTime]
  omega

theorem exec_timelineWaitEnd {s : State} {k : Fin 4} {T due : Nat} {met : Bool} (hw : (s.seq k).wait = .time T due met) :
    exec (.timelineWaitEnd k) s = onlyIf (due ≤ s.tl.fc) s (s.modSeq k (fun q =>
      { q.close with mode := .running, wait := .none, due := due, clrFault := q.clrFault || met })) := by
  show execTimelineWaitEnd k s = _
  unfold execTimelineWaitEnd
  rw [hw]

/-- The fc of the target is reached: the successor of the wait issues in it (R160). -/
theorem timelineWaitEnd_due {s : State} {k : Fin 4} {T due : Nat} {met : Bool} (hw : (s.seq k).wait = .time T due met)
    (hd : due ≤ s.tl.fc) : ∃ t, exec (.timelineWaitEnd k) s = .next t ∧ OnlySeq k s t ∧ (t.seq k).mode = .running ∧
      (t.seq k).wait = .none ∧ (t.seq k).due = due ∧ (t.seq k).next = (s.seq k).peek ∧ (t.seq k).sp = (s.seq k).sp := by
  refine ⟨_, (exec_timelineWaitEnd hw).trans (congrArg Host.Outcome.next (if_pos hd)), onlySeq_modSeq s k _, ?_⟩
  rw [State.seq_modSeq_same]
  exact ⟨rfl, rfl, rfl, Seq.close_next _, (s.seq k).close_field Seq.sp⟩

theorem timelineWaitEnd_early {s : State} {k : Fin 4} {T due : Nat} {met : Bool} (hw : (s.seq k).wait = .time T due met)
    (hd : s.tl.fc < due) : exec (.timelineWaitEnd k) s = .next s :=
  (exec_timelineWaitEnd hw).trans (congrArg Host.Outcome.next (if_neg (by omega)))

/-- Settles O8, from where the target of a wait lies: outside, ahead or passed. -/
theorem timelineWaitsMeetTheirTargets : Obligations.TimelineWaitsMeetTheirTargets := by
  unfold Obligations.TimelineWaitsMeetTheirTargets
  refine ⟨fun T N hT hN => distance_eq hT hN, ?_, fun s k h => State.seqTime_of_agreed h, fun s k T due met hw =>
    ⟨timelineWaitEnd_due hw, timelineWaitEnd_early hw⟩⟩
  intro s k target a b o period
  refine ⟨?_, waitatr_beyond, waitrel_beyond, align_beyond, align_meets⟩
  intro i T hi
  refine ⟨fun h => ?_, fun hT h1 hL => ?_, fun hT h0 => ?_⟩
  · exact issues_of_waitsOn hi (tookFault_timelineWait h)
  · exact issues_of_waitsOn hi (waitsFor_timelineWait hT h1 hL)
  · refine issues_of_waitsOn hi ?_
    rw [State.timelineWait_passed (s := s.issued k) hT h0]
    obtain ⟨hraised, hcount, hlate⟩ := missed_counted (s.issued k) k T (1 - distance T (s.seqTime k)).toNat
    exact ⟨hraised, hcount, hlate, missed_issued_goesOn s k T _, tookFault_missed_issued s k T _⟩

end Sys2Proof.Machine
end

section
/-!
Signal flags and the fc, through an fc boundary: each thing a boundary does leaves every flag and the fc as they are, but for the
passage itself. One lemma for each operation a boundary is made of, in the order of the model.
-/
namespace Sys2Proof.Machine
open Sys2Proof

/-- From `s` to `t` no signal flag and no fc has changed. -/
@[simp] abbrev SameFlags (s t : State) : Prop := t.flags = s.flags ∧ t.tl.fc = s.tl.fc

/-- One change after another. -/
theorem SameFlags.after {s t u : State} (g : SameFlags t u) (h : SameFlags s t) : SameFlags s u :=
  ⟨g.1.trans h.1, g.2.trans h.2⟩

/-- A fold keeps the flags and the fc where its step does. -/
@[simp] theorem foldl_sameFlags {α : Type} (f : State → α → State) (h : ∀ t a, SameFlags t (f t a))
    (l : List α) (s : State) : SameFlags s (l.foldl f s) := by
  induction l generalizing s with
  | nil => exact ⟨rfl, rfl⟩
  | cons a l ih => exact (ih _).after (h s a)

/-! ## Registers, events and records -/

@[simp] theorem State.incF_sameFlags (s : State) (x : Fld) : SameFlags s (s.incF x) := ⟨rfl, rfl⟩

@[simp] theorem State.loadCopies_sameFlags (s : State) : SameFlags s s.loadCopies := ⟨rfl, rfl⟩

@[simp] theorem State.report_sameFlags (s : State) (off : Nat) (fields : List (Fld × Nat)) :
    SameFlags s (s.report off fields) := ⟨rfl, rfl⟩

@[simp] theorem State.reportIn_sameFlags (s : State) (off cycle rank : Nat) (fields : List (Fld × Nat)) :
    SameFlags s (s.reportIn off cycle rank fields) := by
  simp only [State.reportIn]
  (repeat' split) <;> simp

@[simp] theorem State.blockRecord_sameFlags (s : State) (sev : Sev) (type cls : Nat) (p : List Word) :
    SameFlags s (s.blockRecord sev type cls p) := by
  simp [State.blockRecord]

@[simp] theorem State.askFreeze_sameFlags (s : State) (cause : Nat) : SameFlags s (s.askFreeze cause) := by
  simp only [State.askFreeze]
  (repeat' split) <;> simp

@[simp] theorem State.wdTick_sameFlags (s : State) : SameFlags s s.wdTick := by
  simp only [State.wdTick]
  (repeat' split) <;> simp

@[simp] theorem State.snapFail_sameFlags (s : State) (b : Fin 2) (reason : Nat) :
    SameFlags s (s.snapFail b reason) := by
  simp [State.snapFail]

@[simp] theorem State.snapDirty_sameFlags (s : State) (touched : Bool) : SameFlags s (s.snapDirty touched) := by
  simp only [State.snapDirty]
  (repeat' split) <;> simp

@[simp] theorem State.ringNote_sameFlags (s : State) (type id : Nat) (p : List Byte) : SameFlags s (s.ringNote type id p) := by
  simp only [State.ringNote]
  (repeat' split) <;> simp

theorem State.setReg_sameFlags (s : State) (off : Nat) (w : Word) : SameFlags s (s.setReg off w) := ⟨rfl, rfl⟩

theorem State.setF_sameFlags (s : State) (x : Fld) (v : Nat) : SameFlags s (s.setF x v) := ⟨rfl, rfl⟩

theorem State.modSeq_sameFlags (s : State) (k : Fin 4) (h : Seq → Seq) : SameFlags s (s.modSeq k h) := ⟨rfl, rfl⟩

theorem State.raise_sameFlags (s : State) (n : Nat) (p : List Nat) : SameFlags s (s.raise n p) := by simp

theorem State.withTime_sameFlags (s : State) (tl : Timeline) (rin : Rinom) (h : tl.fc = s.tl.fc) :
    SameFlags s ({ s with tl := tl, rin := rin } : State) :=
  ⟨rfl, h⟩

theorem State.withRpl_sameFlags (s : State) (x : Replay) : SameFlags s ({ s with rpl := x } : State) := ⟨rfl, rfl⟩

/-! ## Sequencers -/

@[simp] theorem State.takeAlt_sameFlags (s : State) (k : Fin 4) (entry reason region h nxt : Nat) :
    SameFlags s (s.takeAlt k entry reason region h nxt) :=
  SameFlags.after (State.raise_sameFlags _ _ _) (SameFlags.after (State.modSeq_sameFlags _ _ _) (State.setReg_sameFlags s _ _))

@[simp] theorem State.seqFault_sameFlags (s : State) (k : Fin 4) (cause fpc r nxt : Nat) :
    SameFlags s (s.seqFault k cause fpc r nxt) := by
  obtain ⟨h, he⟩ := s.seqFault_eq k cause fpc r nxt
  rw [he]
  exact (State.modSeq_sameFlags _ _ _).after <| (State.raise_sameFlags _ _ _).after (State.setReg_sameFlags s _ _)

@[simp] theorem State.altCond_sameFlags (s : State) (k : Fin 4) (reason region : Nat) :
    SameFlags s (s.altCond k reason region) := by
  simp only [State.altCond]
  (repeat' split) <;> simp

@[simp] theorem State.writePgmBack_sameFlags (s : State) (key : Nat) : SameFlags s (s.writePgmBack key) := ⟨rfl, rfl⟩

@[simp] theorem State.pgmWbEnd_sameFlags (s : State) : SameFlags s s.pgmWbEnd := by
  simp [State.pgmWbEnd]

@[simp] theorem State.seqStop_sameFlags (s : State) (k : Fin 4) : SameFlags s (s.seqStop k) := by
  simp only [State.seqStop]
  (repeat' split) <;> simp

@[simp] theorem State.barrierStop_sameFlags (s : State) (k : Fin 4) : SameFlags s (s.barrierStop k) := by
  simp only [State.barrierStop]
  (repeat' split) <;> simp

@[simp] theorem State.applyRes_sameFlags (s : State) (k : Fin 4) (r : PortRes) : SameFlags s (s.applyRes k r) := by
  simp only [State.applyRes]
  (repeat' split) <;> simp

@[simp] theorem State.portFc_sameFlags (s : State) (k : Fin 4) : SameFlags s (s.portFc k) := by
  simp [State.portFc]

@[simp] theorem State.seqFc_sameFlags (s : State) (k : Fin 4) : SameFlags s (s.seqFc k) := by
  simp only [State.seqFc]
  (repeat' split) <;> simp

/-! ## Epochs -/

@[simp] theorem State.newSched_sameFlags (s : State) : SameFlags s s.newSched := ⟨rfl, rfl⟩

@[simp] theorem State.beginEpoch_sameFlags (s : State) (e : Int) : SameFlags s (s.beginEpoch e) := by
  simp [State.beginEpoch]

@[simp] theorem State.release_sameFlags (s : State) : SameFlags s s.release :=
  SameFlags.after (State.askFreeze_sameFlags _ _) (SameFlags.after (State.setF_sameFlags _ _ _)
    (SameFlags.after (State.beginEpoch_sameFlags _ _) (s.withTime_sameFlags _ _ rfl)))

theorem State.newEpoch_sameFlags (s : State) (begin_ : State → State)
    (h : ∀ t, SameFlags t (begin_ t)) : SameFlags s (s.newEpoch begin_) := by
  simp only [State.newEpoch]
  split <;> simp [h]

/-- An epoch that begins or ends leaves the fc it does so in. -/
@[simp] theorem State.askedEpoch_sameFlags (s : State) : SameFlags s s.askedEpoch := by
  simp only [State.askedEpoch]
  split
  · exact State.newEpoch_sameFlags _ _ State.release_sameFlags
  · split
    · exact ⟨rfl, rfl⟩
    · exact State.release_sameFlags _
  · exact ⟨rfl, rfl⟩

/-! ## Regions and planes -/

@[simp] theorem State.holdRegion_sameFlags (s : State) (ly : Fin 4) (j : Fin 8) : SameFlags s (s.holdRegion ly j) := ⟨rfl, rfl⟩

@[simp] theorem State.meetHold_sameFlags (s : State) (ly : Fin 4) (j : Fin 8) : SameFlags s (s.meetHold ly j) := by
  simp only [State.meetHold]
  (repeat' split) <;> simp

@[simp] theorem State.hornSwitch_sameFlags (s : State) (ly : Fin 4) (j : Fin 8) (old new : Fin 4) :
    SameFlags s (s.hornSwitch ly j old new) := ⟨rfl, rfl⟩

@[simp] theorem State.makeCurrent_sameFlags (s : State) (ly : Fin 4) (j : Fin 8) (q : Fin 4) :
    SameFlags s (s.makeCurrent ly j q) := by
  simp only [State.makeCurrent]
  (repeat' split) <;> simp

@[simp] theorem State.planeStep_sameFlags (s : State) (ly : Fin 4) (j : Fin 8) : SameFlags s (s.planeStep ly j) := by
  simp only [State.planeStep]
  (repeat' split) <;> simp

@[simp] theorem State.copyBeat_sameFlags (s : State) (ly : Fin 4) (j : Fin 8) (slot : Fin 32) (p : Fin 4) (i : Nat) :
    SameFlags s (s.copyBeat ly j slot p i) := ⟨rfl, rfl⟩

@[simp] theorem State.refillBeats_sameFlags (s : State) (ly : Fin 4) (j : Fin 8) : SameFlags s (s.refillBeats ly j) := by
  unfold State.refillBeats
  refine foldl_sameFlags _ (fun t a => ?_) _ s
  (repeat' split) <;> simp

@[simp] theorem State.startRefill_sameFlags (s : State) (ly : Fin 4) (j : Fin 8) (p : Fin 4) (slot : Fin 32) (n : Nat) :
    SameFlags s (s.startRefill ly j p slot n) := ⟨rfl, rfl⟩

@[simp] theorem State.refillsBegin_sameFlags (s : State) (ly : Fin 4) (j : Fin 8) : SameFlags s (s.refillsBegin ly j) := by
  unfold State.refillsBegin
  refine foldl_sameFlags _ (fun t a => ?_) _ s
  (repeat' split) <;> simp

/-! ## The fabric at an fc's end and start -/

@[simp] theorem State.setLanes_sameFlags (s : State) (b g : Nat) (x : Lanes) : SameFlags s (s.setLanes b g x) := ⟨rfl, rfl⟩

@[simp] theorem State.shaftStep_sameFlags (s : State) : SameFlags s s.shaftStep := by
  unfold State.shaftStep
  refine foldl_sameFlags _ (fun t e => ?_) _ s
  dsimp only
  split <;> simp

@[simp] theorem State.laneSwapped_sameFlags (s : State) (key : Nat) (x : Lanes) : SameFlags s (s.laneSwapped key x) := by
  simp only [State.laneSwapped]
  (repeat' split) <;> simp

@[simp] theorem State.lanesFc_sameFlags (s : State) : SameFlags s s.lanesFc := by
  simp [State.lanesFc]

@[simp] theorem State.repairReads_sameFlags (s : State) : SameFlags s s.repairReads := ⟨rfl, rfl⟩

@[simp] theorem State.captureRegs_sameFlags (s : State) (ly : Fin 4) (r : CapReq) : SameFlags s (s.captureRegs ly r) := ⟨rfl, rfl⟩

@[simp] theorem State.captureEnd_sameFlags (s : State) (ly : Fin 4) : SameFlags s (s.captureEnd ly) := by
  simp only [State.captureEnd]
  (repeat' split) <;> simp

@[simp] theorem State.fabricEnd_sameFlags (s : State) : SameFlags s s.fabricEnd := by
  unfold State.fabricEnd
  exact s.shaftStep_sameFlags

@[simp] theorem State.slotsLand_sameFlags (s : State) : SameFlags s s.slotsLand := by
  simp [State.slotsLand]

@[simp] theorem State.fenceFc_sameFlags (s : State) (die : Nat) : SameFlags s (s.fenceFc die) := by
  simp only [State.fenceFc]
  (repeat' split) <;> simp

/-! ## Capture's ring and snapshots -/

@[simp] theorem State.putDram_sameFlags (s : State) (w : Nat) (v : BitVec 64) (e : Ecc) :
    SameFlags s (s.putDram w v e) := ⟨rfl, rfl⟩

@[simp] theorem State.ringBytes_sameFlags (s : State) (pos : Nat) (bytes : List Byte) :
    SameFlags s (s.ringBytes pos bytes) := by
  simp [State.ringBytes]

@[simp] theorem State.uncover_sameFlags (s : State) (b : Fin 2) (lost : Snapshot → Bool) : SameFlags s (s.uncover b lost) := by
  simp only [State.uncover]
  (repeat' split) <;> simp

@[simp] theorem State.ringPut_sameFlags (s : State) (r : RingRec) : SameFlags s (s.ringPut r) := by
  simp [State.ringPut]

@[simp] theorem State.ringAdd_sameFlags (s : State) (r : RingRec) : SameFlags s (s.ringAdd r) := by
  simp only [State.ringAdd]
  (repeat' split) <;> simp

@[simp] theorem State.ringFc_sameFlags (s : State) : SameFlags s s.ringFc := by
  simp only [State.ringFc]
  (repeat' split) <;> simp

@[simp] theorem State.snapBegin_sameFlags (c s : State) : SameFlags s (State.snapBegin c s) := by
  have noted : ∀ (x : Replay) (off off' type id : Nat) (w : Word) (l : List (Fld × Nat)) (p : List Byte),
      SameFlags s (((({ s with rpl := x } : State).setReg off w).report off' l).ringNote type id p) :=
    fun x _ _ _ _ _ _ _ => SameFlags.after (State.ringNote_sameFlags _ _ _ _) (SameFlags.after (State.report_sameFlags _ _ _)
      (SameFlags.after (State.setReg_sameFlags _ _ _) (s.withRpl_sameFlags x)))
  unfold State.snapBegin
  dsimp only
  (repeat' split)
  · exact SameFlags.after (State.snapFail_sameFlags _ _ _) (noted _ _ _ _ _ _ _ _)
  · exact SameFlags.after (State.snapFail_sameFlags _ _ _) (noted _ _ _ _ _ _ _ _)
  · exact noted _ _ _ _ _ _ _ _

/-! ## Memory ports, queues and the DMA engine -/

@[simp] theorem State.clearWords_sameFlags (s : State) (n : Nat) (keep : List Nat) :
    SameFlags s (s.clearWords n keep) := by
  simp [State.clearWords]

@[simp] theorem State.clearsFc_sameFlags (s : State) : SameFlags s s.clearsFc := by
  unfold State.clearsFc
  refine foldl_sameFlags _ (fun t a => ?_) _ s
  (repeat' split) <;> simp

@[simp] theorem State.countAlloc_sameFlags (s : State) (c : Nat) : SameFlags s (s.countAlloc c) := ⟨rfl, rfl⟩

@[simp] theorem State.freed_sameFlags (s : State) (q : Nat) : SameFlags s (s.freed q) := ⟨rfl, rfl⟩

@[simp] theorem State.freesFc_sameFlags (s : State) : SameFlags s s.freesFc := by
  unfold State.freesFc
  refine foldl_sameFlags _ (fun t a => ?_) _ s
  (repeat' split) <;> simp

@[simp] theorem State.qcPerm_sameFlags (s : State) (q : Nat) : SameFlags s (s.qcPerm q) := by
  simp [State.qcPerm]

@[simp] theorem State.setPort_sameFlags (s : State) (key : Nat) (p : PortQ) : SameFlags s (s.setPort key p) := ⟨rfl, rfl⟩

@[simp] theorem State.denyReport_sameFlags (s : State) (cycle master port addr reason : Nat) :
    SameFlags s (s.denyReport cycle master port addr reason) := by
  simp [State.denyReport]

@[simp] theorem State.judge_sameFlags (s : State) (key : Nat) (r : Req) : SameFlags s (s.judge key r).2 := by
  simp only [State.judge]
  (repeat' split) <;> simp

@[simp] theorem State.abortCount_sameFlags (s : State) (layer f : Nat) :
    SameFlags s (s.abortCount layer f) := by
  simp [State.abortCount]

@[simp] theorem State.heldFc_sameFlags (s : State) (key : Nat) (r : Req) : SameFlags s (s.heldFc key r).2 := by
  simp only [State.heldFc]
  (repeat' split) <;> simp

@[simp] theorem State.descEnd_sameFlags (s : State) (c : Nat) (d : DescHead) (st moved : Nat) :
    SameFlags s (s.descEnd c d st moved) := by
  simp only [State.descEnd]
  (repeat' split) <;> simp

@[simp] theorem State.dmaRefused_sameFlags (s : State) (j : DmaJob) : SameFlags s (s.dmaRefused j) := by
  simp only [State.dmaRefused]
  (repeat' split) <;> simp

@[simp] theorem State.endJob_sameFlags (s : State) (c : Nat) (j : DmaJob) (st : Nat) :
    SameFlags s (s.endJob c j st) := by
  simp [State.endJob]

@[simp] theorem State.dmaSettle_sameFlags (s : State) (c : Nat) : SameFlags s (s.dmaSettle c) := by
  simp only [State.dmaSettle]
  (repeat' split) <;> simp

@[simp] theorem State.dmaFc_sameFlags (s : State) : SameFlags s s.dmaFc := by
  unfold State.dmaFc
  refine foldl_sameFlags _ (fun t a => ?_) _ s
  (repeat' split) <;> simp

/-! ## The parts of an fc boundary -/

theorem State.eachRegion_sameFlags (s : State) (h : State → Fin 4 → Fin 8 → State)
    (hh : ∀ t ly j, SameFlags t (h t ly j)) : SameFlags s (s.eachRegion h) :=
  foldl_sameFlags _ (fun t ly => foldl_sameFlags _ (fun u j => hh u ly j) _ t) _ s

theorem State.eachSeq_sameFlags (s : State) (h : State → Fin 4 → State)
    (hh : ∀ t k, SameFlags t (h t k)) : SameFlags s (s.eachSeq h) := foldl_sameFlags _ hh _ s

theorem State.eachReq_sameFlags (s : State) (key : Nat) (h : State → Req → Req × State)
    (hh : ∀ t r, SameFlags t (h t r).2) : SameFlags s (s.eachReq key h) := by
  have threaded : ∀ (l : List Req) (a : List Req × State),
      SameFlags a.2 (l.foldl (fun a r => ((a.1 ++ [(h a.2 r).1], (h a.2 r).2) : List Req × State)) a).2 := by
    intro l
    induction l with
    | nil => exact fun _ => ⟨rfl, rfl⟩
    | cons r l ih => exact fun a => SameFlags.after (ih _) (hh a.2 r)
  exact SameFlags.after (State.setPort_sameFlags _ _ _) (threaded _ ([], s))

@[simp] theorem State.portFcStep_sameFlags (s : State) (key : Nat) (p : PortQ) : SameFlags s (s.portFcStep key p) := by
  refine SameFlags.after (State.setPort_sameFlags _ _ _) ?_
  split
  · exact s.eachReq_sameFlags key _ (fun t r => t.heldFc_sameFlags key r)
  · exact ⟨rfl, rfl⟩

theorem State.portsFc_sameFlags (s : State) : SameFlags s s.portsFc := by
  unfold State.portsFc
  refine foldl_sameFlags _ (fun t e => ?_) _ s
  exact t.portFcStep_sameFlags _ _

theorem State.fcClose_sameFlags (s : State) : SameFlags s s.fcClose := by
  unfold State.fcClose
  exact SameFlags.after (State.pgmWbEnd_sameFlags _) (SameFlags.after (State.eachSeq_sameFlags _ _ State.barrierStop_sameFlags)
    (State.eachRegion_sameFlags s _ State.meetHold_sameFlags))

theorem State.fcEnd_sameFlags (s : State) : SameFlags s s.fcEnd := by
  refine SameFlags.after (foldl_sameFlags _ State.captureEnd_sameFlags _ _) ?_
  split
  · exact ⟨rfl, rfl⟩
  · exact SameFlags.after (State.eachRegion_sameFlags _ _ State.refillBeats_sameFlags) s.fabricEnd_sameFlags

theorem State.fcBegin_sameFlags (s : State) : SameFlags s s.fcBegin := by
  unfold State.fcBegin
  exact SameFlags.after (State.eachSeq_sameFlags _ _ State.seqFc_sameFlags)
    (SameFlags.after (State.lanesFc_sameFlags _) (SameFlags.after (State.repairReads_sameFlags _)
      (SameFlags.after (State.eachRegion_sameFlags _ _ State.refillsBegin_sameFlags)
        (State.eachRegion_sameFlags s _ State.planeStep_sameFlags))))

theorem Timeline.tick_fc (t : Timeline) : t.tick.fc = t.fc + 1 := by
  unfold Timeline.tick
  split
  · split <;> rfl
  · rfl

/-- The passage itself: the flags due in the new fc become visible in it (R174). -/
theorem State.fcTick_flags (s : State) :
    s.fcTick.flags = s.flags.map (fun f => f.tick (s.tl.fc + 1)) ∧ s.fcTick.tl.fc = s.tl.fc + 1 := ⟨rfl, s.tl.tick_fc⟩

/-- The end of the present fc, up to its passage. -/
def State.fcRest (s : State) : State :=
  (if s.fcClose.snapNow then State.snapBegin s.fcClose s.fcClose.fcEnd else s.fcClose.fcEnd).ringFc.wdTick

theorem State.fcRest_sameFlags (s : State) : SameFlags s s.fcRest := by
  have hend := SameFlags.after s.fcClose.fcEnd_sameFlags s.fcClose_sameFlags
  refine SameFlags.after (State.wdTick_sameFlags _) (SameFlags.after (State.ringFc_sameFlags _) ?_)
  split
  · exact SameFlags.after (State.snapBegin_sameFlags _ _) hend
  · exact hend

/-- The start of the fc that has come, from its passage on. -/
def State.fcArrive (s : State) : State :=
  ((List.range 9).foldl State.fenceFc s.askedEpoch.fcBegin).slotsLand.portsFc.clearsFc.freesFc.dmaFc

theorem State.fcArrive_sameFlags (s : State) : SameFlags s s.fcArrive :=
  (State.dmaFc_sameFlags _).after <| (State.freesFc_sameFlags _).after <| (State.clearsFc_sameFlags _).after <|
    (State.portsFc_sameFlags _).after <| (State.slotsLand_sameFlags _).after <|
    (foldl_sameFlags _ State.fenceFc_sameFlags _ _).after <| (State.fcBegin_sameFlags _).after s.askedEpoch_sameFlags

theorem State.fcStep_eq (s : State) : s.fcStep = s.fcRest.fcTick.fcArrive := rfl

/-- An fc boundary passes one fc, and ticks every signal flag to the new one and does no more to it (R174). -/
theorem State.fcStep_flags (s : State) :
    s.fcStep.flags = s.flags.map (fun f => f.tick (s.tl.fc + 1)) ∧ s.fcStep.tl.fc = s.tl.fc + 1 := by
  obtain ⟨hflags, hfc⟩ := s.fcRest.fcTick_flags
  rw [s.fcRest_sameFlags.1, s.fcRest_sameFlags.2] at hflags
  rw [s.fcRest_sameFlags.2] at hfc
  obtain ⟨haflags, hafc⟩ := s.fcRest.fcTick.fcArrive_sameFlags
  exact ⟨by rw [s.fcStep_eq, haflags, hflags], by rw [s.fcStep_eq, hafc, hfc]⟩

end Sys2Proof.Machine
end

section
/-!
Signal flags (R174, R175, R213): what SIGNAL and WAIT do, who may take a flag, and what ends a wait.
-/
namespace Sys2Proof.Machine
open Sys2Proof

/-! ## Who may take a flag (R175) -/

theorem State.mayTake_iff (s : State) (k : Fin 4) (flag : Fin 16) : s.mayTake k flag = true ↔
    (s.flags.get flag).set = true ∧ ∀ j, j < k → s.waitsFlag j flag = false ∧ (s.seq j).ready s.tl.fc = false := by
  simp only [State.mayTake, Bool.and_eq_true, List.all_eq_true, List.mem_finRange, true_imp_iff, Bool.or_eq_true,
    decide_eq_true_eq, Bool.not_eq_true', Bool.or_eq_false_iff]
  refine and_congr_right fun _ => forall_congr' fun j => ?_
  rw [Decidable.or_iff_not_imp_left, Fin.not_le]

/-- A sequencer that issues is none of those that go before it. -/
@[simp] theorem State.mayTake_issued (s : State) (k : Fin 4) (flag : Fin 16) : (s.issued k).mayTake k flag = s.mayTake k flag := by
  rw [Bool.eq_iff_iff, State.mayTake_iff, State.mayTake_iff]
  refine and_congr_right fun _ => forall₂_congr fun j hj => ?_
  simp only [State.waitsFlag, State.seq_issued_ne s (Fin.ne_of_lt hj), State.issued_tl]

/-! ## A flag changes (R174) -/

/-- One signal flag put to a value: what SIGNAL and the taking of a flag do to the flags. -/
def State.setFlag (s : State) (flag : Fin 16) (x : SigFlag) : State := { s with flags := s.flags.set flag.val x flag.isLt }

@[simp] theorem State.seq_setFlag (s : State) (flag : Fin 16) (x : SigFlag) (j : Fin 4) : (s.setFlag flag x).seq j = s.seq j := rfl

@[simp] theorem State.setFlag_tl (s : State) (flag : Fin 16) (x : SigFlag) : (s.setFlag flag x).tl = s.tl := rfl

@[simp] theorem State.setFlag_flags_same (s : State) (flag : Fin 16) (x : SigFlag) : (s.setFlag flag x).flags.get flag = x :=
  vget_set_same _ _ _

theorem State.setFlag_flags_ne (s : State) {flag g : Fin 16} (x : SigFlag) (h : g ≠ flag) :
    (s.setFlag flag x).flags.get g = s.flags.get g := vget_set_ne _ _ h

@[simp] theorem State.done_flags (s : State) (k : Fin 4) (cost : Nat) : (s.done k cost).flags = s.flags := rfl

theorem State.takeFlag_eq (s : State) (k : Fin 4) (flag : Fin 16) :
    s.takeFlag k flag = (s.setFlag flag { s.flags.get flag with set := false }).done k 1 := rfl

/-- An instruction of one fc that puts a flag to a value changes its sequencer and that flag alone. -/
theorem setFlag_issued_done (s : State) (k : Fin 4) (flag : Fin 16) (x : SigFlag) :
    let t := ((s.issued k).setFlag flag x).done k 1
    (s.seq k).wentOn (t.seq k) s.tl.fc 1 ∧ { t with seqs := s.seqs, flags := s.flags } = s ∧ t.flags.get flag = x ∧
      ∀ g, g ≠ flag → t.flags.get g = s.flags.get g := by
  dsimp only
  rw [State.seq_done, State.seq_setFlag, State.seq_issued, State.setFlag_tl, State.issued_tl, State.done_flags]
  exact ⟨wentOn_goOn rfl rfl rfl, rfl, State.setFlag_flags_same _ flag x, fun g hg => State.setFlag_flags_ne _ x hg⟩

/-! ## SIGNAL (R174, R175) -/

/-- A SIGNAL onto a flag neither set nor about to be is visible 4 fc on (R174). -/
theorem signal_sets {s : State} {k : Fin 4} {flag : Fin 16} (hset : (s.flags.get flag).set = false)
    (hdue : (s.flags.get flag).due = none) : s.issues k (.signal k .clean flag) (fun t => (s.seq k).wentOn (t.seq k) s.tl.fc 1 ∧
      { t with seqs := s.seqs, flags := s.flags } = s ∧ t.flags.get flag = { set := false, due := some (s.tl.fc + 4) } ∧
      ∀ g, g ≠ flag → t.flags.get g = s.flags.get g) := by
  refine State.issues_of_run _ rfl ?_
  have hclear : ¬ ((s.flags.get flag).set = true ∨ (s.flags.get flag).due.isSome = true) := by simp [hset, hdue]
  dsimp only [State.issued_flags, State.issued_tl]
  rw [if_neg hclear, hset]
  exact setFlag_issued_done s k flag _

/-- A SIGNAL onto a flag that is set, or about to be, is lost and raised as FLAG_OVERRUN (R175). -/
theorem signal_lost {s : State} {k : Fin 4} {flag : Fin 16}
    (h : (s.flags.get flag).set = true ∨ (s.flags.get flag).due ≠ none) : s.issues k (.signal k .clean flag) (fun t =>
      OnlySeqNotes k s t ∧ (s.seq k).wentOn (t.seq k) s.tl.fc 1 ∧ Raised (Ev.FLAG_OVERRUN k) s t) := by
  refine State.issues_of_run _ rfl ?_
  have hpend : (s.flags.get flag).set = true ∨ (s.flags.get flag).due.isSome = true := h.imp_right Option.isSome_iff_ne_none.mpr
  dsimp only [State.issued_flags]
  rw [if_pos hpend, State.seq_done, State.seq_raise, State.raise_tl, State.seq_issued, State.issued_tl]
  exact ⟨((onlySeq_issued s k).onlySeqNotes.trans (onlySeqNotes_raise k _ _ _)).trans (onlySeq_modSeq _ k _).onlySeqNotes,
    wentOn_goOn rfl rfl rfl, raised_raise_after _ (srcSev_seqEvent k).2.2 rfl⟩

/-! ## WAIT (R174, R175) -/

/-- A WAIT that may take its flag does, and goes on in the next fc. -/
theorem wait_takes {s : State} {k : Fin 4} {flag : Fin 16} (h : s.mayTake k flag = true) :
    s.issues k (.wait k .clean flag) (fun t => (s.seq k).wentOn (t.seq k) s.tl.fc 1 ∧
      { t with seqs := s.seqs, flags := s.flags } = s ∧ t.flags.get flag = { s.flags.get flag with set := false } ∧
      ∀ g, g ≠ flag → t.flags.get g = s.flags.get g) := by
  refine State.issues_of_run _ rfl ?_
  dsimp only
  rw [if_pos (by rw [State.mayTake_issued, h]), State.takeFlag_eq]
  exact setFlag_issued_done s k flag _

/-- One that may not waits. -/
theorem wait_waits {s : State} {k : Fin 4} {flag : Fin 16} (h : s.mayTake k flag = false) :
    s.issues k (.wait k .clean flag) (fun t => OnlySeq k s t ∧
      (t.seq k).mode = .waitFlag ∧ (t.seq k).wait = .flag flag s.tl.fc ∧ (t.seq k).pc = (s.seq k).next) := by
  refine State.issues_of_run _ rfl ?_
  rw [if_neg (by rw [State.mayTake_issued, h]; exact Bool.false_ne_true), State.seq_modSeq_same, State.seq_issued]
  exact ⟨(onlySeq_issued s k).trans (onlySeq_modSeq _ k _), rfl, rfl, rfl⟩

theorem exec_flagWaitEnd {s : State} {k : Fin 4} {flag : Fin 16} {since : Nat} (hw : (s.seq k).wait = .flag flag since) :
    exec (.flagWaitEnd k) s = onlyIf (s.mayTake k flag = true) s (s.takeFlag k flag) := by
  show execFlagWaitEnd k s = _
  unfold execFlagWaitEnd
  rw [hw]

/-- The wait ends where its flag may be taken, with the fc (R174). -/
theorem flagWaitEnd_takes {s : State} {k : Fin 4} {flag : Fin 16} {since : Nat} (hw : (s.seq k).wait = .flag flag since)
    (h : s.mayTake k flag = true) : ∃ t, exec (.flagWaitEnd k) s = .next t ∧ { t with seqs := s.seqs, flags := s.flags } = s ∧
      (t.flags.get flag).set = false ∧ (t.seq k).mode = .running ∧ (t.seq k).wait = .none ∧
      (t.seq k).next = (s.seq k).peek ∧ (t.seq k).due = s.tl.fc + 1 := by
  refine ⟨s.takeFlag k flag, (exec_flagWaitEnd hw).trans (congrArg Host.Outcome.next (if_pos h)), rfl, ?_, ?_⟩
  · rw [State.takeFlag_eq, State.done_flags, State.setFlag_flags_same]
  · rw [State.takeFlag_eq, State.seq_done]
    exact ⟨rfl, rfl, Seq.goOn_next _ _, rfl⟩

theorem flagWaitEnd_waits {s : State} {k : Fin 4} {flag : Fin 16} {since : Nat} (hw : (s.seq k).wait = .flag flag since)
    (h : s.mayTake k flag = false) : exec (.flagWaitEnd k) s = .next s :=
  (exec_flagWaitEnd hw).trans (congrArg Host.Outcome.next (if_neg (ne_true_of_eq_false h)))

/-! ## A flag becomes visible (R174) -/

/-- A flag that is to be set in fc `d` is visible as set from that fc on. -/
theorem SigFlag.set_tick_iff (d fc : Nat) : (({ set := false, due := some d } : SigFlag).tick fc).set = true ↔ d ≤ fc := by
  show (if d ≤ fc then _ else _ : SigFlag).set = true ↔ d ≤ fc
  split <;> simp [*]

/-- The fc boundary shows a flag that is due. -/
theorem fcBoundary_shows {s : State} {g : Fin 16} {d : Nat} (hrun : s.tl.running = true) (hdone : s.fcDone = true)
    (hg : s.flags.get g = { set := false, due := some d }) :
    ∃ t, exec .fcBoundary s = .next t ∧ ((t.flags.get g).set = true ↔ d ≤ t.tl.fc) := by
  obtain ⟨hflags, hfc⟩ := s.fcStep_flags
  refine ⟨s.fcStep, congrArg Host.Outcome.next (if_pos ⟨hrun, hdone⟩), ?_⟩
  have hget : s.fcStep.flags.get g = (s.flags.get g).tick (s.tl.fc + 1) := by
    rw [hflags]
    exact Vector.getElem_map _ g.isLt
  rw [hget, hg, hfc]
  exact SigFlag.set_tick_iff d _

/-! ## Timeouts (R157, R174, R213) -/

theorem waitLate_flag_iff {s : State} {k : Fin 4} {flag : Fin 16} {since : Nat} (hw : (s.seq k).wait = .flag flag since) :
    s.waitLate k = true ↔ s.f (F.SEQ_CFG_WAITTO k) ≠ 0 ∧ since + s.f (F.SEQ_CFG_WAITTO k) * 4096 ≤ s.tl.fc := by
  unfold State.waitLate State.waitTo
  rw [hw]
  by_cases h0 : s.f (F.SEQ_CFG_WAITTO k) = 0 <;> simp [h0]

/-- A wait that has lasted its timeout is raised, and faults with WAIT_TIMEOUT (R174, R167). -/
theorem waitTimeout_faults {s : State} {k : Fin 4} (h : s.waitLate k = true) :
    ∃ t, exec (.waitTimeout k) s = .next t ∧ TookFault k s t 0x08 (s.seq k).pc (s.seq k).wouldIssue ∧
      Raised (Ev.WAIT_TIMEOUT k) s t := by
  obtain ⟨hne, hne0⟩ := waitTimeout_ne k
  have hraised := raised_raise_after (s := s) (u := s) [(s.seq k).pc, (s.seq k).waitedFor] (srcSev_seqEvent k).2.1 rfl
  refine ⟨_, congrArg Host.Outcome.next (if_pos h), ?_, hraised.congr rfl (State.src_seqFault_ne _ _ _ _ _ _ hne hne0)⟩
  have hfault := tookFault_seqFault (s.raise (Ev.WAIT_TIMEOUT k) [(s.seq k).pc, (s.seq k).waitedFor]) k 0x08 (s.seq k).pc
    (s.seq k).wouldIssue
  rw [State.raise_tl] at hfault
  refine hfault.of_before (State.src_raise_ne _ _ hne.symm (seqFault_ne_overflow k)) (State.raise_fab _ _ _) (by rw [State.raise_tl]) ?_
  rw [State.seq_raise]
  exact id

/-- Settles O11, by the life of a flag: signalled, visible at an fc boundary, taken or waited for, and timed out. -/
theorem flagsAreSetTakenAndTimedOut : Obligations.FlagsAreSetTakenAndTimedOut := by
  unfold Obligations.FlagsAreSetTakenAndTimedOut
  exact ⟨fun _ _ _ => ⟨signal_sets, signal_lost, wait_takes, wait_waits⟩, State.mayTake_iff,
    fun _ _ _ _ hw => ⟨flagWaitEnd_takes hw, flagWaitEnd_waits hw⟩, fun _ _ _ => fcBoundary_shows,
    fun _ _ _ _ => waitLate_flag_iff, fun _ _ => waitTimeout_faults⟩

end Sys2Proof.Machine
end
